-- ==== Sys2Proof/Word.lean ====
section
/-! DEFINITION. The smallest words of the model: a byte of a frame, of the non-volatile store or of host memory. Register fields are natural numbers below 2 to their width. -/

namespace Sys2Proof

/-- One byte of a frame, of the non-volatile store (R88) or of host memory. -/
abbrev Byte := BitVec 8

end Sys2Proof
end

