-- ==== Sys2Proof/Syntax.lean ====
section
/-! DEFINITION. The commands of the block: one constructor for each row of spec/opcode_table.json, in the table's order, with the operands that come from outside the module. -/

namespace Sys2Proof

/-- What reads of the NVM meet (R93): lines that cannot be corrected, by NVM address / 64, and how many corrected reads. -/
structure NvmReads where
  uncorrectable : List Nat := []
  corrected : Nat := 0
  deriving DecidableEq, Repr

/-- A slot of the NVM as a command names it, and what its reads meet (R53, R93). -/
structure SlotRead where
  slot : Nat
  reads : NvmReads := {}
  deriving DecidableEq, Repr

/-- The read-back of a store: the first of its lines that differs, and what the reads meet (R93, R94). -/
structure ReadBack where
  badLine : Option Nat
  reads : NvmReads := {}
  deriving DecidableEq, Repr

/-- Periods that a lane's Glow-worm detector sees, each on or off, in ns (R115). -/
structure RousePattern where
  lane : Nat
  periods : List (Bool × Nat)
  deriving DecidableEq, Repr

/-- Dark and then light without a break on a lane, in ns (R115). -/
structure LightEdge where
  lane : Nat
  darkNs : Nat
  lightNs : Nat
  deriving DecidableEq, Repr

/-- A local lane of an engine. -/
structure EngineLane where
  engine : Nat
  lane : Nat
  deriving DecidableEq, Repr

/-- A walk of Sexton's over a quadrant, and the handles and partitions with an extra entry on a free list (R323). -/
structure SextonFind where
  quadrant : Nat
  doubles : List (Nat × Nat) := []
  deriving DecidableEq, Repr

/-- What a boot, a tile bring-up or a calibration finds in the hardware itself (R69, R71, Table 3.2): outcomes of tests that no rule predicts. -/
structure BootFindings where
  /-- Rails that are not good at the release of POR_N: bits as TOP_BOOT.RAIL_MISSING (R69). -/
  railMissing : Nat := 0
  /-- The ROM checksum is right (step 1). -/
  romOk : Bool := true
  /-- The Caddis SRAM is good (step 1). -/
  sramOk : Bool := true
  /-- Table banks that fail the built-in test (step 1). -/
  badBanks : List Nat := []
  /-- Parser engines that fail it, as 48 × tile + engine. -/
  badParsers : List Nat := []
  /-- Rewrite clusters that fail it, as 6 × tile + cluster. -/
  badClusters : List Nat := []
  /-- Elytra lanes that fail it, by lane number. -/
  badElytra : List Nat := []
  /-- Tiles that fail step 1 or step 7. -/
  badTiles : List Nat := []
  /-- Step 2: the NVM interface, its metadata and write counters are good. -/
  nvmOk : Bool := true
  /-- Laser fibres that are lit, as 2 × engine + fibre (R77). -/
  lit : List Nat := []
  /-- Lanes that fail calibration (step 6). -/
  badLanes : List Nat := []
  /-- Stacks whose training fails (step 5). -/
  badStacks : List Nat := []
  /-- What the reads of slots, patches and PARAM meet (R93). -/
  reads : NvmReads := {}
  /-- Milliseconds from time zero to READY. -/
  bootMs : Nat := 0
  deriving DecidableEq, Repr

/-- The edges that R355 captures. -/
inductive CapPin where
  | ppsIn | evt0 | evt1
  deriving DecidableEq, Repr

/-- The ways out of hibernate (R121); a Glow-worm lane sees a rouse pattern, or light after dark (R115). -/
inductive HibExit where
  | smbus | rouse (x : RousePattern) | light (x : LightEdge) | ppsIn
  deriving DecidableEq, Repr

/-- Physical errors that a lookup meets in the memories it reads (R229, R252, R255). -/
structure LookupErrors where
  /-- Exact-match rows read as uncorrectable, as 2,048 × bank + row. -/
  badRows : List Nat := []
  /-- TCAM rows that match through a flipped cell, though their shadow copy does not. -/
  falseHits : List Nat := []
  /-- TCAM rows whose shadow copy or action word is uncorrectable. -/
  badShadows : List Nat := []
  /-- TCAM rows of the quadrant with a cell that has flipped so that they miss (R254). -/
  flipped : List Nat := []
  /-- TCAM searches of the frame that waited for a slot (R480). -/
  waited : Nat := 0
  deriving DecidableEq, Repr

/-- What a cluster meets while it runs one routine, its end word apart (R418, Table 15.4). -/
inductive RoutineFault where
  | none | engineFault | correctedWord (addr : Nat) | uncorrectableWord (addr : Nat) | uncorrectableEnd (addr : Nat)
  deriving DecidableEq, Repr

/-- What an access to a stack meets: a number of corrected bursts, an uncorrectable read, or a command/address parity error, the only thing a write meets (R465, R466). -/
inductive DramFault where
  | none | corrected (bursts : Nat) | uncorrectable (pc addr : Nat) | parity (pc cmd addr : Nat)
  deriving DecidableEq, Repr

/-- A quadrant whose step may write to a stack, and what its writes to one of the stacks meet there (R325, R386, R466). -/
structure QuadWrite where
  quadrant : Nat
  stack : Nat := 0
  fault : DramFault := .none
  deriving DecidableEq, Repr

/-- A stack whose export ends, and what its reads meet (R457, R465, R466). -/
structure ExportEnd where
  stack : Nat
  fault : DramFault := .none
  deriving DecidableEq, Repr

/-- A port or a ring on which a frame departs, and what the write of its departure stamp meets (R386, R466). -/
structure Departure where
  unit : Nat
  fault : DramFault := .none
  deriving DecidableEq, Repr

/-- What a tester shifts into the boundary register: at once, and at the scans of EXTEST that follow, in order (R527). -/
structure BoundaryScan where
  preload : Nat
  extest : List Nat := []
  deriving DecidableEq, Repr

/-- An offset into a BAR of the endpoint (Table 20.1). -/
inductive BarAddr where
  | bar0 (offset : Nat) | bar2 (offset : Nat)
  deriving DecidableEq, Repr

/-- An SMBus transfer that sets the offset, and whether its PEC is right or absent (R525). -/
structure SmbOffset where
  offset : Nat
  pecOk : Bool := true
  deriving DecidableEq, Repr

/-- The commands, one for each row of the table. -/
inductive Instr where
  -- power, resets and the image
  | vddHumInRange
  | supplyLoss (linesWritten : Nat)
  | porAssert
  | porRelease (b : BootFindings)
  | resetNAssert
  | warmResetCmd (value : Nat) (b : BootFindings)
  | quadrantReset (value : Nat) (b : BootFindings)
  | tileReset (value : Nat) (b : BootFindings)
  | drcReset (value : Nat) (b : BootFindings)
  | perstNAssert (linesWritten : Nat)
  | hostAccessStop (linesWritten : Nat)
  | peatLoad (tag slot : Nat) (b : BootFindings)
  | peatSwapLayer (tag : Nat) (slot : SlotRead) (mask timeoutMs : Nat)
  | quiesceDrained
  | quiesceTimeout
  | swapTileSwitch (tile : Nat)
  | nvmStore (tag region offset length hostAddr : Nat) (data : List Byte)
  | nvmStoreDone (readBack : ReadBack)
  | nvmRead (tag region offset length hostAddr : Nat)
  | nvmReadDone (uncorrectable : Option Nat) (corrected : Nat)
  -- clocks, temperature and sleep
  | refclkLoss
  | refclkReturn
  | holdoverExpiry
  | clockRelock
  | thermalSample (readings : List Int)
  | railSkew (pair : Nat)
  | thermTrip
  | clkQctrlWrite (q value : Nat)
  | vidSettleExpiry (q : Nat)
  | tileDozeEntry (tile : Nat)
  | tileTorporEntry (tile : Nat)
  | torporEntered (tile : Nat)
  | tileWake (tile : Nat) (sources : List Nat)
  | tileAwake (tile : Nat)
  | timerPrewake (tile : Nat)
  | rouseDetect (seen : RousePattern)
  | darkToLight (seen : LightEdge)
  | rouseTx (port : Nat)
  | caddisSleep
  | caddisWake
  | sleepPolicyFull (tag : Nat)
  | sleepPolicyLean (tag : Nat)
  | sleepPolicyStandby (tag : Nat)
  | sleepPolicyHibernate (tag : Nat)
  | hibernateExit (cause : HibExit) (b : BootFindings)
  -- ports
  | linkUp (port deskew : Nat)
  | linkDown (port : Nat)
  | holdExpiry (port : Nat)
  | portAdminDown (port : Nat)
  | portAdminUp (port : Nat)
  | loopbackChange (port mode : Nat)
  | rxFrame (port : Nat) (frame : List Byte) (fcsOk : Bool) (laneFault : Option Nat) (codewords : List Nat)
  | pauseExpiry (port cls : Nat)
  | pauseFrameSend (port : Nat)
  | pauseRefresh (port cls : Nat)
  | prtFcTxWrite (port value : Nat)
  -- optics and the Causeway
  | laserLit (engine fibre : Nat)
  | laserLost (engine fibre : Nat)
  | trackLimit (at_ : EngineLane)
  | optCalibrate (tag engine : Nat)
  | optCalibrateDone (engine : Nat) (badLanes : List Nat)
  | causewayOpen (tag group : Nat)
  | causewayClose (tag group : Nat)
  | bypassOpened (group : Nat)
  | bypassClosed (group : Nat)
  | elementFault (group : Nat)
  -- the frame path
  | stagingRelease (port : Nat)
  | parseDeal (tile : Nat)
  | parseComplete (tile engine : Nat) (engineError : Bool)
  | reorderRelease (tile : Nat) (errors : LookupErrors)
  | learnServe
  | egressArrival (x : QuadWrite)
  | schedDecision (port : Nat)
  | rewriteCommit (port : Nat) (fault : RoutineFault) (laneFault : Option Nat)
  | rewriteRestart (port : Nat)
  | clusterReloadDone (tile cluster : Nat)
  | frameTxDone (x : Departure)
  | deepReadback (queue : Nat) (fault : DramFault)
  | ageHeadCheck (quadrant : Nat)
  | sextonWalk (found : SextonFind)
  | bufFreeWrite (quadrant value : Nat)
  | bufQueueCfgWrite (queue value : Nat)
  -- exact match and the TCAMs
  | sweepPassStart (table : Nat)
  | scarabVisit (table : Nat) (badRow : Bool)
  | learnRecountDone
  | exmSweepWrite (table value : Nat)
  | exmPortTablesWrite (port value : Nat)
  | suspectRowScrub (quadrant row : Nat) (readBackOk : Bool)
  | backgroundScrub (quadrant : Nat) (badRows : List Nat)
  | tcmPortL3Write (port value : Nat)
  -- ordering and the table update engine
  | topFenceWrite (value : Nat)
  | orderStrictWrite (word value : Nat)
  | tueRingTailWrite (ring value : Nat) (commands : List Nat)
  | nop (ring slot : Nat)
  | fence (ring slot : Nat)
  | epoch (ring slot : Nat)
  | emInsert (ring slot : Nat)
  | emUpdate (ring slot : Nat)
  | emDelete (ring slot : Nat)
  | emRead (ring slot : Nat)
  | tcInsert (ring slot : Nat)
  | tcWriteRow (ring slot : Nat)
  | tcUpdateAction (ring slot : Nat)
  | tcDelete (ring slot : Nat)
  | tcReadRow (ring slot : Nat)
  | objWrite (ring slot : Nat)
  | objRead (ring slot : Nat)
  | cutOpen (ring slot : Nat)
  | cutAdd (ring slot : Nat)
  | cutArm (ring slot : Nat)
  | cutCancel (ring slot : Nat)
  | tueWaitTimeout (ring slot : Nat)
  | epochDrained
  | epochTimeout (e : Nat)
  | cutGapFound (cut : Nat)
  | cutWaitExpiry (cut : Nat)
  | cutApply (cut : Nat)
  | cutDone (cut : Nat)
  -- time
  | timeBeacon
  | timRateWrite (value : Nat)
  | timStepForward
  | timStepBack
  | timStepSet
  | timNowRead
  | pinCapture (pin : CapPin) (rising : Bool)
  | ppsOutEdge
  | timPpsOutWrite (widthReg : Bool) (value : Nat)
  | todOutSend
  | todInRx (message : List Byte)
  | tsfPop (tile value : Nat)
  -- scheduling, gates and sampling
  | shaperRefill (tile : Nat)
  | gateChange (port : Nat)
  | gateCancel (port : Nat)
  | gateListStart (port : Nat)
  | gateEntryTransition (port : Nat)
  | sgChange (gate : Nat)
  | sgCancel (gate : Nat)
  | sgListStart (gate : Nat)
  | sgTransition (gate : Nat)
  | schQmapWrite (port cls value : Nat)
  | queueSample (x : QuadWrite)
  -- the Yarro ring
  | ringJoin (tag group : Nat)
  | ringLeave (tag group : Nat)
  | ringProbeSend (port : Nat)
  | probeTimeout (port : Nat)
  | rngGroupCtxWrite (group value : Nat)
  | rwePortDefaultWrite (port value : Nat)
  -- Elytra
  | slotSwap (slot : Nat)
  | swapTakesEffect (slot : Nat)
  | slotZeroize (slot : Nat)
  | slotClearStaged (slot : Nat)
  | keyErased (slot : Nat)
  | stgCfgWrite (slot value : Nat)
  | prtSecCfgWrite (port value : Nat)
  | secChannelSwitch (port : Nat)
  | entropyHealthFail
  | drbgReseed (taken : Bool)
  -- DRAM
  | dramRefresh (stack pc : Nat) (fault : DramFault)
  | stackTempReport (stack : Nat) (celsius : Int)
  | dramRetrain (tag stack timeoutMs : Nat)
  | dramRetrainDrained (stack : Nat)
  | dramRetrainDone (stack : Nat)
  | pcPowerDown (stack pc : Nat)
  | selfRefreshEntry (stack : Nat)
  | selfRefreshExited (stack : Nat)
  | telemExport (stack value : Nat)
  | telemExportDone (x : ExportEnd)
  -- faults
  | faultReport (source kind address master accessType : Nat)
  | fenceComplete (source index : Nat)
  | fltFenceCmd (value : Nat)
  | faultLogWrite
  | faultLogFlush (tag : Nat)
  | faultLogErase (tag : Nat)
  | fltMsgPop (value : Nat)
  -- the host interface
  | hstRingTailWrite (ring value : Nat) (descriptors : List Nat)
  | txDescriptor (ring : Nat) (data : Option (List Byte))
  | rxDelivery (x : Departure)
  | dmaError (ring : Nat)
  | itrTimerExpiry (ring : Nat)
  | mailboxDoorbell (value : Nat)
  | mailboxTake
  | fwmRespPop (value : Nat)
  | fwInfo (tag : Nat)
  | patchStatus (tag : Nat)
  | smbSetOffset (x : SmbOffset)
  | smbRead (pecOk : Bool)
  | smbWrite (value : Nat) (pecOk : Bool)
  | smbStatusRead
  | jtagBypass (b : BootFindings)
  | jtagIdcode (b : BootFindings)
  | jtagSamplePreload (scan : BoundaryScan) (b : BootFindings)
  | jtagExtest
  | jtagClamp
  | jtagHighz
  | registerWrite (at_ : BarAddr) (bytes value : Nat)
  | rcRead (at_ : BarAddr) (bytes : Nat)
  | extremumRead (offset bytes : Nat)
  | resetNRelease (b : BootFindings)
  | hostAccessResume
  | trainPeriodExpiry (stack : Nat)
  | tapReset (b : BootFindings)
  deriving DecidableEq, Repr

end Sys2Proof
end

