-- ==== Sys2Proof/Machine/SMap.lean ====
section
/-! DEFINITION. Sparse data by a number: a list of key and value pairs, keys strictly rising, and the byte memories built on it. -/

namespace Sys2Proof.Machine

/-- Key and value pairs in the order of their keys. -/
abbrev SMap (α : Type) := List (Nat × α)

/-- The value stored at a key. -/
def SMap.find {α : Type} : SMap α → Nat → Option α
  | [], _ => none
  | (k, v) :: m, i => if k = i then some v else SMap.find m i

/-- The value stored at a key, or what an unlisted key reads as. -/
def SMap.findD {α : Type} (m : SMap α) (i : Nat) (d : α) : α := (SMap.find m i).getD d

/-- Store a value, keeping the order of the keys. -/
def SMap.put {α : Type} : SMap α → Nat → α → SMap α
  | [], i, v => [(i, v)]
  | (k, w) :: m, i, v =>
    if k = i then (i, v) :: m
    else if i < k then (i, v) :: (k, w) :: m
    else (k, w) :: SMap.put m i v

/-- Drop a key. -/
def SMap.del {α : Type} (m : SMap α) (i : Nat) : SMap α := List.filter (fun e => e.1 ≠ i) m

/-- Drop every entry whose key satisfies a condition. -/
def SMap.drop {α : Type} (m : SMap α) (p : Nat → Bool) : SMap α := List.filter (fun e => !p e.1) m

/-- Store a value, or drop the key where there is none. -/
def SMap.set {α : Type} (m : SMap α) (i : Nat) : Option α → SMap α
  | some v => SMap.put m i v
  | none => SMap.del m i

/-- Change what stands at a key, an unlisted key counting as a default. -/
def SMap.modify {α : Type} (m : SMap α) (i : Nat) (d : α) (f : α → α) : SMap α :=
  SMap.put m i (f (SMap.findD m i d))

/-- The keys are strictly rising. -/
def SMap.wf {α : Type} : SMap α → Bool
  | [] => true
  | [_] => true
  | a :: b :: m => decide (a.1 < b.1) && SMap.wf (b :: m)

/-- A byte memory: no listed byte equals what an unlisted one reads as, which is zero. -/
abbrev Mem := SMap Byte

/-- The form every memory keeps. -/
def Mem.wf (m : Mem) : Bool := SMap.wf m && m.all (fun e => e.2 ≠ 0)

/-- Read one byte. -/
def Mem.read (m : Mem) (a : Nat) : Byte := SMap.findD m a 0

/-- Write one byte; a zero removes the entry. -/
def Mem.write (m : Mem) (a : Nat) (b : Byte) : Mem := if b = 0 then SMap.del m a else SMap.put m a b

/-- Write bytes at rising addresses. -/
def Mem.writeList (m : Mem) (a : Nat) : List Byte → Mem
  | [] => m
  | b :: bs => Mem.writeList (Mem.write m a b) (a + 1) bs

/-- Read bytes at rising addresses. -/
def Mem.readList (m : Mem) (a : Nat) : Nat → List Byte
  | 0 => []
  | n + 1 => Mem.read m a :: Mem.readList m (a + 1) n

/-! Byte and bit helpers. -/

/-- A number from bytes, most significant first (R38). -/
def beNat (bs : List Byte) : Nat := List.foldl (fun n b => n * 256 + b.toNat) 0 bs

/-- A number from bytes, least significant first. -/
def leNat (bs : List Byte) : Nat := List.foldr (fun b n => b.toNat + 256 * n) 0 bs

/-- The bytes of a number, most significant first. -/
def beBytes (n : Nat) : Nat → List Byte
  | 0 => []
  | w + 1 => BitVec.ofNat 8 (n / 256 ^ w) :: beBytes n w

/-- The bytes of a number, least significant first. -/
def leBytes (n : Nat) : Nat → List Byte
  | 0 => []
  | w + 1 => BitVec.ofNat 8 n :: leBytes (n / 256) w

/-- Bits [lsb + w - 1 : lsb] of a number. -/
def bits (n lsb w : Nat) : Nat := n / 2 ^ lsb % 2 ^ w

/-- One bit of a number. -/
def bitOf (n i : Nat) : Bool := n / 2 ^ i % 2 == 1

/-- 1 for true. -/
def b2n (b : Bool) : Nat := if b then 1 else 0

/-- Put a value into bits [lsb + w - 1 : lsb] of a number. -/
def putBits (n lsb w v : Nat) : Nat :=
  n / 2 ^ (lsb + w) * 2 ^ (lsb + w) + v % 2 ^ w * 2 ^ lsb + n % 2 ^ lsb

/-- Bitwise or of two numbers. -/
def orN (a b : Nat) : Nat := a ||| b

/-- The bits of a that are clear in b, over 64 bits. -/
def andNotN (a b : Nat) : Nat := a &&& (2 ^ 64 - 1 - b % 2 ^ 64)

/-- A count that stays at its largest value. -/
def satAdd (n k max : Nat) : Nat := min (n + k) max

/-- Division rounded up. -/
def ceilDiv (a b : Nat) : Nat := (a + b - 1) / b

/-- A slice of a list of bytes. -/
def slice (bs : List Byte) (o n : Nat) : List Byte := List.take n (List.drop o bs)

/-- The bytes at an offset as a number, most significant first; zero beyond the end. -/
def be (bs : List Byte) (o n : Nat) : Nat := beNat (slice bs o n)

/-- Replace the bytes at an offset. -/
def splice (bs : List Byte) (o : Nat) (new : List Byte) : List Byte :=
  List.take o bs ++ new ++ List.drop (o + new.length) bs

/-- CRC-32C of Table 2.2, one byte: the reflected Castagnoli polynomial. -/
def crc32cByte (crc : BitVec 32) (b : Byte) : BitVec 32 :=
  List.foldl (fun c (_ : Nat) => if c.getLsbD 0 then (c >>> 1) ^^^ 0x82F63B78#32 else c >>> 1)
    (crc ^^^ b.setWidth 32) (List.range 8)

/-- CRC-32C of a list of bytes (Table 2.2). -/
def crc32c (bs : List Byte) : BitVec 32 := List.foldl crc32cByte 0xFFFFFFFF#32 bs ^^^ 0xFFFFFFFF#32

end Sys2Proof.Machine
end

