-- ==== Sys2Proof/Machine/Layers.lean ====
section
/-! DEFINITION. The fields of the layers of a Peat image as Table 2.4 lists them, as values of a record. How a layer's bytes spell them is laid out nowhere in the spec. -/

namespace Sys2Proof.Machine

/-- FABRIC, one port: first lane, width in lanes, lane rate code, FEC code, MTU, ORDER_STRICT. -/
structure PortCfg where
  lane : Nat
  width : Nat
  rate : Nat
  fec : Nat
  mtu : Nat
  strict : Bool
  deriving DecidableEq, Repr, Inhabited

/-- PARSE, one port group of a tile: depth in bytes and HDR_SET as the bits of Table 7.2. -/
structure GroupCfg where
  depth : Nat
  hdrs : Nat
  deriving DecidableEq, Repr, Inhabited

/-- PARSE: the group of each port, the groups by 8 × tile + group, VXLAN port, RTP ranges, spares by tile. -/
structure ParseLayer where
  group : SMap Nat := []
  groups : SMap GroupCfg := []
  vxlanPort : Nat := 4789
  rtpRanges : List (Nat × Nat) := []
  spares : SMap Nat := []
  deriving DecidableEq, Repr, Inhabited

/-- The six kinds of exact-match table. -/
inductive TableKind where
  | fdb | hostRoute | streamId | sg | merge | meter
  deriving DecidableEq, Repr, Inhabited

/-- TABLES, one table. The sweep period is in milliseconds; evictOldest false is random. -/
structure TableCfg where
  kind : TableKind
  wide : Bool
  bankFirst : Nat
  bankCount : Nat
  h0Poly : Nat
  h0Seed : Nat
  h1Poly : Nat
  h1Seed : Nat
  evictOldest : Bool
  ageing : Bool
  sweepMs : Nat
  deriving DecidableEq, Repr, Inhabited

/-- What a TCAM region holds. -/
inductive RegionKind where
  | lpm | acl | stream
  deriving DecidableEq, Repr, Inhabited

/-- SEARCH, one region of a quadrant. -/
structure RegionCfg where
  kind : RegionKind
  replicated : Bool
  first : Nat
  rows : Nat
  deriving DecidableEq, Repr, Inhabited

/-- The stages of the lookup, ordered by STAGE_ORDER (R241). -/
inductive Stage where
  | acl | sg | host | lpm | fdb
  deriving DecidableEq, Repr, Inhabited

/-- SEARCH: LPM rows, regions by 16 × quadrant + region, the order of the stages. -/
structure SearchLayer where
  lpmRows : Nat := 0
  regions : SMap RegionCfg := []
  stageOrder : List Stage := []
  deriving DecidableEq, Repr, Inhabited

/-- BUFFER: sizes and counts by 4 × quadrant + pool, sheltered buffers by 16 × quadrant + 4 × partition + pool, DRAM shares in MiB by 5 × stack + owner, owner 4 the telemetry ring; they lie one after the other from address 0 (R453). -/
structure BufferLayer where
  poolSize : SMap Nat := []
  poolCount : SMap Nat := []
  shelter : SMap Nat := []
  share : SMap Nat := []
  deriving DecidableEq, Repr, Inhabited

/-- Disciplines within a class. -/
inductive Discipline where
  | strict | wfq | edf
  deriving DecidableEq, Repr, Inhabited

/-- SCHED: class of each queue, discipline and CBS by 8 × port + class, refill cycles by tile, sample period by quadrant in ns. -/
structure SchedLayer where
  queueClass : SMap Nat := []
  discipline : SMap Discipline := []
  cbs : SMap Bool := []
  refill : SMap Nat := []
  samplePeriod : SMap Nat := []
  deriving DecidableEq, Repr, Inhabited

/-- TIME: owner port by 16 × tile + unit, owner gate by 16 × tile + unit, list entries, FIFO shares by port, watermark by tile. -/
structure TimeLayer where
  portUnit : SMap Nat := []
  streamUnit : SMap Nat := []
  gateListLen : SMap Nat := []
  tsfShare : SMap Nat := []
  watermark : SMap Nat := []
  deriving DecidableEq, Repr, Inhabited

/-- SECURE, one partition. -/
structure PartitionCfg where
  first : Nat
  count : Nat
  tile : Nat
  deriving DecidableEq, Repr, Inhabited

/-- RING, one Causeway group. -/
structure RingCfg where
  member : Bool
  ringId : Nat
  nodeId : Nat
  ethertype : Nat
  deriving DecidableEq, Repr, Inhabited

/-- FAULT: bit g of mode for group g in collector mode; the units with fence policy, each by its source (Table 19.1) and its number within the source, every other being report-only (R44, R495); the floor in percent. -/
structure FaultLayer where
  mode : Nat := 0
  fence : List (Nat × Nat) := []
  floor : Nat := 0
  deriving DecidableEq, Repr, Inhabited

/-- Who owns a control-store region. -/
inductive CsOwner where
  | recipe | patch
  deriving DecidableEq, Repr, Inhabited

/-- REWRITE, one control-store region: cluster, first word, count, owner. -/
structure CsRegion where
  cluster : Nat
  first : Nat
  count : Nat
  owner : CsOwner
  deriving DecidableEq, Repr, Inhabited

/-- REWRITE: recipes by cluster (6 × tile + cluster), regions, parameter share (base, count) by tile. -/
structure RewriteLayer where
  recipes : SMap (List Nat) := []
  regions : List CsRegion := []
  split : SMap (Nat × Nat) := []
  deriving DecidableEq, Repr, Inhabited

/-- HOST: owner of each ring (receive 0 to 31, transmit 32 to 63) as host port less 512, host queues of each receive ring, vector of each source. -/
structure HostLayer where
  owner : SMap Nat := []
  queues : SMap (List Nat) := []
  msix : SMap Nat := []
  deriving DecidableEq, Repr, Inhabited

/-- CLOCK points by quadrant: 0 for 1.6 GHz, 1 for 1.2, 2 for 0.8. -/
structure ClockLayer where
  boot : SMap Nat := []
  floor : SMap Nat := []
  deriving DecidableEq, Repr, Inhabited

/-- The layers of an image, decoded. -/
structure Layers where
  fabric : List PortCfg := []
  clock : ClockLayer := {}
  parse : ParseLayer := {}
  tables : SMap TableCfg := []
  search : SearchLayer := {}
  buffer : BufferLayer := {}
  sched : SchedLayer := {}
  time : TimeLayer := {}
  secure : List PartitionCfg := []
  ring : SMap RingCfg := []
  /-- Function codes of the pins MFP0 to MFP7. -/
  pins : SMap Nat := []
  fault : FaultLayer := {}
  rewrite : RewriteLayer := {}
  host : HostLayer := {}
  deriving DecidableEq, Repr, Inhabited

/-- A directory entry (Table 2.2). -/
structure DirEntry where
  type : Nat
  lver : Nat
  offset : Nat
  length : Nat
  crc : Nat
  deriving DecidableEq, Repr, Inhabited

/-- Where the running image came from (PTL_STATUS.ACTIVE). -/
inductive ImageSource where
  | slotA | slotB | bare
  deriving DecidableEq, Repr, Inhabited

/-- The running image. -/
structure Image where
  serial : Nat
  source : ImageSource
  dir : List DirEntry
  layers : Layers
  deriving DecidableEq, Repr, Inhabited

end Sys2Proof.Machine
end

