-- ==== Sys2Proof/Machine/Parse.lean ====
section
/-! DEFINITION. The parser (chapter 7): from the bytes of a frame to the fields of the parse vector. -/

namespace Sys2Proof.Machine

/-- The network and transport fields of one level of Table 7.5; offsets in bytes, 0 for absent. -/
structure NetPart where
  offL3 : Nat := 0
  offL4 : Nat := 0
  l3 : Nat := 0
  l4 : Nat := 0
  tos : Nat := 0
  ttl : Nat := 0
  proto : Nat := 0
  flow : Nat := 0
  src : Nat := 0
  dst : Nat := 0
  tcpFlags : Nat := 0
  deriving DecidableEq, Repr, Inhabited

/-- The parse vector (R203, Table 7.5); offsets in bytes, 0 for absent. -/
structure ParseVec where
  inPort : Nat := 0
  group : Nat := 0
  lenEarly : Bool := false
  len : Nat := 0
  parsed : Nat := 0
  offVlan : Nat := 0
  offTun1 : Nat := 0
  offTun2 : Nat := 0
  offIL2 : Nat := 0
  offApp : Nat := 0
  outer : NetPart := {}
  inner : NetPart := {}
  /-- Beside Table 7.5, for the edit stage: the headers of each tunnel level as the walk found them, the innermost level first. It finds the middle level by OFF_TUN1 and OFF_TUN2 (R186) and keeps the checksums of every level (R150, R151). -/
  levels : List NetPart := []
  tunLevels : Nat := 0
  tun1 : Nat := 0
  tun2 : Nat := 0
  app : Nat := 0
  ringTag : Bool := false
  rtag : Bool := false
  vlanExcess : Bool := false
  ip4CsumBad : Bool := false
  ipOptions : Bool := false
  l3Malformed : Bool := false
  fragFirst : Bool := false
  fragLater : Bool := false
  extLimit : Bool := false
  l4Malformed : Bool := false
  greUnsupported : Bool := false
  innerMalformed : Bool := false
  depthStop : Bool := false
  mcastCtrl : Bool := false
  ptpEvent : Bool := false
  daMcast : Bool := false
  daBcast : Bool := false
  longHead : Bool := false
  redealt : Bool := false
  vlan0 : Nat := 0
  vlan1 : Nat := 0
  vlanCount : Nat := 0
  vlan0S : Bool := false
  vlan1S : Bool := false
  ethertype : Nat := 0
  ringSrc : Nat := 0
  ringSeq : Nat := 0
  ringId : Nat := 0
  ringClass : Nat := 0
  rtagSeq : Nat := 0
  vni : Nat := 0
  appSeq : Nat := 0
  appWord : Nat := 0
  ssrc : Nat := 0
  rtpM : Bool := false
  rtpPt : Nat := 0
  deriving DecidableEq, Repr, Inhabited

/-- Why the walk goes on or ends: at the last recognised header, or inside one (R190). -/
inductive Walk where
  | go | done | trunc
  deriving DecidableEq, Repr

/-- What one port group accepts, with the device-wide parts of the PARSE and RING layers. -/
structure ParseCfg where
  depth : Nat
  hdrs : Nat
  vxlanPort : Nat
  rtp : List (Nat × Nat)
  ringTypes : List Nat
  deriving DecidableEq, Repr, Inhabited

/-- The walk: the frame with its FCS, the vector so far, d, the early length the IP header gives (R192). -/
structure ParseSt where
  b : List Byte
  cfg : ParseCfg
  v : ParseVec
  d : Nat
  walk : Walk
  early : Option Nat
  deriving DecidableEq, Repr

/-- Run a stage only while the walk goes on. -/
def ParseSt.run (p : ParseSt) (f : ParseSt → ParseSt) : ParseSt := if p.walk = .go then f p else p

/-- Meet a header of n bytes at offset o: DEPTH_STOP where it begins at or beyond D, PARSE_TRUNC where it ends beyond D or beyond the frame (R190).
DEDUCED, log 109: a header that an earlier one announces and that would begin exactly at the frame's end, before byte D, is one that the frame ends inside, so PARSE_TRUNC. -/
def ParseSt.need (p : ParseSt) (o n : Nat) (f : ParseSt → ParseSt) : ParseSt :=
  if p.cfg.depth ≤ o then { p with walk := .done, v := { p.v with depthStop := true } }
  else if p.cfg.depth < o + n ∨ p.b.length < o + n then
    { p with walk := .trunc, d := min p.cfg.depth p.b.length }
  else f { p with d := max p.d (o + n) }

/-- Bytes at an offset as a number. -/
def ParseSt.u (p : ParseSt) (o n : Nat) : Nat := be p.b o n

/-- A bit of HDR_SET. -/
def ParseSt.hdr (p : ParseSt) (i : Nat) : Bool := bitOf p.cfg.hdrs i

/-- Ones' complement sum of 16-bit words. -/
def onesSum : List Byte → Nat
  | a :: b :: bs =>
    let t := a.toNat * 256 + b.toNat + onesSum bs
    if t < 65536 then t else t - 65535
  | [a] => a.toNat * 256
  | [] => 0

/-- Change the level's fields. -/
def ParseVec.part (v : ParseVec) (isInner : Bool) (f : NetPart → NetPart) : ParseVec :=
  if isInner then { v with inner := f v.inner, levels := v.levels.modifyHead f } else { v with outer := f v.outer }

/-- End the walk at a malformed or unsupported header: an outer one leaves its flag, an inner one INNER_MALFORMED and no innermost field (Table 7.3). -/
def ParseSt.bad (p : ParseSt) (isInner : Bool) (flag : ParseVec → ParseVec) : ParseSt :=
  if isInner then { p with walk := .done, v := { p.v with inner := {}, innerMalformed := true, offIL2 := 0 } }
  else { p with walk := .done, v := flag p.v }

/-- PTP common header, 34 bytes (Table 7.5, APP_WORD). -/
def ParseSt.ptp (p : ParseSt) (o : Nat) : ParseSt :=
  p.need o 34 fun p =>
    let mt := p.u o 1 % 16
    { p with
      walk := .done
      v := { p.v with
        app := 1, offApp := o, appSeq := p.u (o + 30) 2, ptpEvent := decide (mt < 4),
        appWord := mt + 16 * (p.u (o + 1) 1 % 16) + 256 * p.u (o + 4) 1 + 65536 * p.u (o + 6) 2 } }

/-- RTP at the innermost UDP header (R187). DEDUCED, log 128: where the frame ends before the 12 bytes do, RTP is left unexamined and the frame goes on, as where they pass D; that is not a header that the frame ends inside (R190). -/
def ParseSt.rtp (p : ParseSt) (o dport : Nat) : ParseSt :=
  if p.hdr 13 = false ∨ p.cfg.depth < o + 12 ∨ p.b.length < o + 12 then { p with walk := .done }
  else
    let p := { p with d := max p.d (o + 12), walk := .done }
    if p.u o 1 / 64 ≠ 2 then p
    else
      let known := p.cfg.rtp.any (fun r => decide (r.1 ≤ dport ∧ dport ≤ r.2))
      { p with v := { p.v with
          app := if known then 2 else 3, offApp := o, appSeq := p.u (o + 2) 2, appWord := p.u (o + 4) 4,
          ssrc := p.u (o + 8) 4, rtpM := bitOf (p.u (o + 1) 1) 7, rtpPt := p.u (o + 1) 1 % 128 } }

/-- Where the transport header leads: the end, or a tunnel to enter with its kind, its offset and the type and offset of what it carries. -/
inductive After where
  | stop
  | tunnel (kind hdr proto next : Nat)
  deriving DecidableEq, Repr

/-- Whether a tunnel may be entered at this level (R186). -/
def ParseSt.opens (p : ParseSt) : Bool :=
  p.v.tunLevels == 0 || (p.v.tunLevels == 1 && p.hdr 12)

/-- The transport header at o, the packet ending at e (Tables 7.1 and 7.3). DESIGN CHOICE (log 127): PTP is parsed over an inner UDP header too, an inner MLD message sets no MCAST_CTRL, a GRE header is recognised even where it may not be entered, and it is 4 bytes long, or 8 with its checksum bit set. -/
def ParseSt.l4 (p : ParseSt) (isInner : Bool) (o proto e : Nat) : ParseSt × After :=
  let isNew (p : ParseSt) (k : Nat) : ParseSt :=
    { p with v := p.v.part isInner fun n => { n with offL4 := o, l4 := k } }
  let fin (p : ParseSt) : ParseSt := if p.walk = .go then { p with walk := .done } else p
  if proto = 17 then
    let p := p.need o 8 fun p =>
      let p := isNew p 1
      let p := { p with v := p.v.part isInner fun n => { n with src := p.u o 2, dst := p.u (o + 2) 2 } }
      if p.u (o + 4) 2 < 8 ∨ e < o + p.u (o + 4) 2 then p.bad isInner fun v => { v with l4Malformed := true } else p
    if p.walk ≠ .go then (p, .stop)
    else
      let dp := p.u (o + 2) 2
      if dp = 319 ∨ dp = 320 then (if p.hdr 5 then p.ptp (o + 8) else fin p, .stop)
      else if dp = p.cfg.vxlanPort then
        if p.hdr 10 && p.opens then
          let p := if isInner then p else { p with v := { p.v with longHead := true } }
          let p := p.need (o + 8) 8 fun p => { p with v := { p.v with vni := p.u (o + 12) 3 } }
          if p.walk = .go then (p, .tunnel 1 (o + 8) 0x6558 (o + 16)) else (p, .stop)
        else (fin p, .stop)
      else (p.rtp (o + 8) dp, .stop)
  else if proto = 6 then
    (fin (p.need o 20 fun p =>
      let p := isNew p 2
      let p := { p with v := p.v.part isInner fun n =>
                  { n with src := p.u o 2, dst := p.u (o + 2) 2, tcpFlags := p.u (o + 13) 1 } }
      let h := p.u (o + 12) 1 / 16 * 4
      if h < 20 then p.bad isInner fun v => { v with l4Malformed := true } else p.need o h id), .stop)
  else if proto = 1 ∨ proto = 58 then
    (fin (p.need o 4 fun p =>
      let p := isNew p (if proto = 1 then 3 else 4)
      let p := { p with v := p.v.part isInner fun n => { n with src := p.u o 2 } }
      let ty := p.u o 1
      if proto = 58 ∧ isInner = false ∧ (ty = 130 ∨ ty = 131 ∨ ty = 132 ∨ ty = 143) then
        { p with v := { p.v with mcastCtrl := true } }
      else p), .stop)
  else if proto = 2 ∧ isInner = false then
    (fin (p.need o 8 fun p => { isNew p 5 with v := { (isNew p 5).v with mcastCtrl := true } }), .stop)
  else if proto = 47 ∧ p.hdr 11 then
    let p := p.need o 4 fun p =>
      let p := isNew p 6
      if p.opens = false then { p with walk := .done }
      else if p.u o 2 &&& 0x7007 ≠ 0 then p.bad isInner fun v => { v with greUnsupported := true }
      else p
    if p.walk ≠ .go then (p, .stop)
    else
      let h := if p.u o 2 / 0x8000 = 1 then 8 else 4
      let p := if isInner then p else { p with v := { p.v with longHead := true } }
      let p := p.need o h id
      if p.walk = .go then (p, .tunnel 2 o (p.u (o + 2) 2) (o + h)) else (p, .stop)
  else ({ fin p with v := p.v.part isInner fun n => { n with l4 := 7 } }, .stop)

/-- IPv6 extension headers from offset o: the transport's offset and protocol when the walk goes on (Tables 7.1 and 7.3). -/
def ParseSt.ext (isInner : Bool) (p : ParseSt) (o nh walked : Nat) : Nat → ParseSt × Nat × Nat
  | 0 => ({ p with walk := .done }, o, nh)
  | fuel + 1 =>
    let setProto (p : ParseSt) (x : Nat) : ParseSt := { p with v := p.v.part isInner fun n => { n with proto := x } }
    if nh = 0 ∨ nh = 43 ∨ nh = 44 ∨ nh = 51 ∨ nh = 60 then
      let p := setProto p nh
      if walked = bits p.cfg.hdrs 6 4 then
        ((p.bad isInner fun v => { v with extLimit := true, outer := { v.outer with l4 := 7 } }), o, nh)
      else
        let p := p.need o 2 id
        if p.walk ≠ .go then (p, o, nh)
        else
          let len := p.u (o + 1) 1
          let h := if nh = 44 then 8 else if nh = 51 then (len + 2) * 4 else (len + 1) * 8
          let p := p.need o h id
          if p.walk ≠ .go then (p, o, nh)
          else
            let nxt := p.u o 1
            let fw := p.u (o + 2) 2
            if nh = 44 ∧ fw / 8 ≠ 0 then
              ((setProto p nxt).bad isInner fun v => { v with fragLater := true }, o, nxt)
            else
              let p := if nh = 44 ∧ fw % 2 = 1 ∧ isInner = false then { p with v := { p.v with fragFirst := true } } else p
              ParseSt.ext isInner p (o + h) nxt (walked + 1) fuel
    else
      let p := setProto p nh
      if nh = 50 then ({ p with walk := .done, v := p.v.part isInner fun n => { n with l4 := 7 } }, o, nh)
      else (p, o, nh)

/-- An IP header at o, and what follows it (Tables 7.1 and 7.3, R192, R194).
DESIGN CHOICE, log 109: of an L3_MALFORMED header the 20 or 40 bytes examined count in d, and L3_TYPE stays what the EtherType says.
The outermost IPv4 checksum is verified over IHL x 4 bytes also where the header is L3_MALFORMED (R150). DEDUCED, log 128: a header of another version than 4 has no IPv4 checksum to verify. -/
def ParseSt.ip (p : ParseSt) (isInner v6 : Bool) (o : Nat) : ParseSt × After :=
  if v6 = false then
    let p := p.need o 20 fun p =>
      let ihl := p.u o 1 % 16
      let p := if isInner || p.u o 1 / 16 ≠ 4 then p
        else { p with v := { p.v with ip4CsumBad := decide (onesSum (slice p.b o (ihl * 4)) ≠ 65535) } }
      if p.u o 1 / 16 ≠ 4 ∨ ihl < 5 ∨ p.u (o + 2) 2 < ihl * 4 then p.bad isInner fun v => { v with l3Malformed := true }
      else p.need o (ihl * 4) fun p =>
        let p := { p with v := p.v.part isInner fun n =>
                    { n with offL3 := o, l3 := 1, tos := p.u (o + 1) 1, ttl := p.u (o + 8) 1, proto := p.u (o + 9) 1 } }
        let p := if isInner then p else
          { p with
            early := some (o + p.u (o + 2) 2 + 4)
            v := { p.v with
              ipOptions := decide (5 < ihl),
              longHead := decide (5 < ihl) } }
        let fw := p.u (o + 6) 2
        if fw % 8192 ≠ 0 then p.bad isInner fun v => { v with fragLater := true }
        else if fw / 8192 % 2 = 1 ∧ isInner = false then { p with v := { p.v with fragFirst := true } }
        else p
    if p.walk ≠ .go then (p, .stop)
    else p.l4 isInner (o + p.u o 1 % 16 * 4) (p.u (o + 9) 1) (o + p.u (o + 2) 2)
  else
    let p := p.need o 40 fun p =>
      if p.u o 1 / 16 ≠ 6 then p.bad isInner fun v => { v with l3Malformed := true }
      else
        let nh := p.u (o + 6) 1
        let pl := p.u (o + 4) 2
        let p := { p with v := p.v.part isInner fun n =>
                    { n with offL3 := o, l3 := 2, tos := p.u o 2 / 16 % 256, ttl := p.u (o + 7) 1, flow := p.u o 4 % 1048576 } }
        if isInner then p else
          { p with
            early := if pl = 0 then none else some (o + 44 + pl)
            v := { p.v with longHead := decide (nh ≠ 6 ∧ nh ≠ 17 ∧ nh ≠ 1 ∧ nh ≠ 58) } }
    if p.walk ≠ .go then (p, .stop)
    else
      let r := ParseSt.ext isInner p (o + 40) (p.u (o + 6) 1) 0 10
      if r.1.walk ≠ .go then (r.1, .stop)
      else r.1.l4 isInner r.2.1 r.2.2 (o + 40 + p.u (o + 4) 2)

/-- Enter a tunnel: the innermost fields are those of the level entered (R186). -/
def ParseSt.enter (p : ParseSt) (kind hdr : Nat) : ParseSt :=
  let v := { p.v with inner := {}, offIL2 := 0, levels := {} :: p.v.levels, tunLevels := p.v.tunLevels + 1 }
  { p with v := if p.v.tunLevels = 0 then { v with offTun1 := hdr, tun1 := kind } else { v with offTun2 := hdr, tun2 := kind } }

/-- What a tunnel carries: inner Ethernet with at most one tag, or IP (R186). DESIGN CHOICE (log 127): a tunnel of any other protocol type counts as entered, with nothing inside; an EtherType behind an inner tag that ends at D is a header that begins at D, which stops the parser there (R190). -/
def ParseSt.inside (p : ParseSt) (proto o : Nat) : ParseSt × After :=
  let fin (p : ParseSt) : ParseSt := if p.walk = .go then { p with walk := .done } else p
  if proto = 0x6558 then
    let p := p.need o 14 fun p => { p with v := { p.v with offIL2 := o } }
    if p.walk ≠ .go then (p, .stop)
    else
      let tag := p.u (o + 12) 2 = 0x8100 ∨ p.u (o + 12) 2 = 0x88A8
      let p := if tag then p.need (o + 12) 4 id else p
      let o := if tag then o + 16 else o + 12
      let p := if p.walk = .go then p.need o 2 id else p
      if p.walk ≠ .go then (p, .stop)
      else if p.u o 2 = 0x0800 then p.ip true false (o + 2)
      else if p.u o 2 = 0x86DD then p.ip true true (o + 2)
      else (fin p, .stop)
  else if proto = 0x0800 then p.ip true false o
  else if proto = 0x86DD then p.ip true true o
  else (fin p, .stop)

/-- Enter tunnels until none is left, two at most (R186). -/
def ParseSt.tunnels : Nat → ParseSt × After → ParseSt
  | 0, r => r.1
  | _, (p, .stop) => p
  | fuel + 1, (p, .tunnel kind hdr proto next) => ParseSt.tunnels fuel ((p.enter kind hdr).inside proto next)

/-- VLAN tags at offset o, up to VLAN_DEPTH of them (R184); the offset after them. -/
def ParseSt.vlans (p : ParseSt) (o : Nat) : Nat → ParseSt × Nat
  | 0 =>
    let t := p.u o 2
    if t = 0x8100 ∨ t = 0x88A8 then ({ p with v := { p.v with vlanExcess := true } }, o) else (p, o)
  | n + 1 =>
    let t := p.u o 2
    if t = 0x8100 ∨ t = 0x88A8 then
      let p := p.need o 4 fun p =>
        let k := p.v.vlanCount
        let tci := p.u (o + 2) 2
        let s := decide (t = 0x88A8)
        { p with v := { p.v with
            vlanCount := k + 1
            offVlan := if k = 0 then o else p.v.offVlan
            vlan0 := if k = 0 then tci else p.v.vlan0
            vlan0S := if k = 0 then s else p.v.vlan0S
            vlan1 := if k = 1 then tci else p.v.vlan1
            vlan1S := if k = 1 then s else p.v.vlan1S } }
      if p.walk = .go then ParseSt.vlans p (o + 4) n else (p, o)
    else (p, o)

/-- The headers from the destination address to the last one recognised (R183, R184, R562). -/
def ParseSt.outer (p : ParseSt) : ParseSt :=
  let p := p.need 0 14 fun p =>
    let da := p.u 0 6
    { p with v := { p.v with
        daBcast := decide (da = 0xFFFFFFFFFFFF), daMcast := decide (da ≠ 0xFFFFFFFFFFFF) && bitOf (p.u 0 1) 0 } }
  if p.walk ≠ .go then p
  else
    let ring := p.hdr 4 && p.cfg.ringTypes.contains (p.u 12 2)
    let p := if ring then p.need 12 16 fun p =>
        { p with v := { p.v with
            ringTag := true, ringSrc := p.u 16 2, ringSeq := p.u 18 2, ringId := p.u 15 1 / 16, ringClass := p.u 15 1 % 16 } }
      else p
    if p.walk ≠ .go then p
    else
      let r := ParseSt.vlans p (if ring then 28 else 12) (min 4 (bits p.cfg.hdrs 0 3))
      let p := r.1
      let o := r.2
      if p.walk ≠ .go then p
      else
        let hasR := p.hdr 3 && p.u o 2 == 0xF1C1
        let p := if hasR then p.need o 6 fun p => { p with v := { p.v with rtag := true, rtagSeq := p.u (o + 4) 2 } } else p
        let o := if hasR then o + 6 else o
        if p.walk ≠ .go then p
        else
          let p := p.need o 2 fun p =>
            { p with v := { p.v with ethertype := p.u o 2, outer := { p.v.outer with offL3 := o + 2 } } }
          let fin (p : ParseSt) (k : Nat) : ParseSt := { p with walk := .done, v := { p.v with outer := { p.v.outer with l3 := k } } }
          if p.walk ≠ .go then p
          else
            let et := p.u o 2
            if et = 0x0800 then
              ParseSt.tunnels 2 ({ p with v := { p.v with outer := { p.v.outer with l3 := 1 } } }.ip false false (o + 2))
            else if et = 0x86DD then
              ParseSt.tunnels 2 ({ p with v := { p.v with outer := { p.v.outer with l3 := 2 } } }.ip false true (o + 2))
            else if et = 0x0806 then fin p 3
            else if et = 0x88F7 ∧ p.hdr 5 then
              { p with v := { p.v with outer := { p.v.outer with l3 := 4 } } }.ptp (o + 2)
            else if et < 0x0600 then
              p.need (o + 2) 3 fun p => fin p (if p.u (o + 2) 3 = 0xAAAA03 then 6 else 5)
            else { p with walk := .done }

/-- Parse a whole frame, its FCS included: the vector, the early length of R192 and whether it is PARSE_TRUNC. -/
def parseFrame (cfg : ParseCfg) (frame : List Byte) : ParseVec × Option Nat × Bool :=
  let p := ParseSt.outer
    { b := frame, cfg := cfg, v := {}, d := 0, walk := .go, early := none }
  let d := if p.walk = .trunc then min cfg.depth frame.length else p.d
  ({ p.v with parsed := d, len := frame.length }, if p.v.l3Malformed then none else p.early, decide (p.walk = .trunc))

/-- CRC-32 of IEEE 802.3 over a frame, sent least significant byte first. -/
def crc32Byte (crc : BitVec 32) (b : Byte) : BitVec 32 :=
  List.foldl (fun c (_ : Nat) => if c.getLsbD 0 then (c >>> 1) ^^^ 0xEDB88320#32 else c >>> 1)
    (crc ^^^ b.setWidth 32) (List.range 8)

/-- The FCS of a frame given without it. -/
def fcsOf (bs : List Byte) : List Byte :=
  leBytes ((List.foldl crc32Byte 0xFFFFFFFF#32 bs ^^^ 0xFFFFFFFF#32).toNat) 4

end Sys2Proof.Machine
end

