-- ==== Sys2Proof/Machine/Edit.lean ====
section
/-! DEFINITION. What a recipe does to the bytes of a frame, and the checksums that the edit stage puts right (R150 to R152, R413, R414, R416, R422, R425, Tables 15.5 and 15.6). Bytes go without the FCS. -/

namespace Sys2Proof.Machine

/-- An edit: bytes overwritten at the frame's own offsets, one range cut and bytes put in its place; the window byte after the last one addressed; offsets in the new bytes of an inserted IPv4 header and of an inserted IPv6 header whose UDP checksum is computed in full. -/
structure Edit where
  laid : List (Nat × List Byte) := []
  pos : Nat := 0
  cut : Nat := 0
  ins : List Byte := []
  need : Nat := 0
  ip4 : Option Nat := none
  full : Option Nat := none
  deriving DecidableEq, Repr

/-- The frame after an edit. -/
def Edit.apply (x : Edit) (bs : List Byte) : List Byte :=
  let b := x.laid.foldl (fun b o => splice b o.1 o.2) bs
  b.take x.pos ++ x.ins ++ b.drop (x.pos + x.cut)

/-- Where a byte of the frame stands after the edit; none where it was removed (R413). -/
def Edit.moved (x : Edit) (o : Nat) : Option Nat :=
  if o < x.pos then some o else if o < x.pos + x.cut then none else some (o - x.cut + x.ins.length)

/-- What a routine reads beside the frame (META of Table 15.2). -/
structure EditCtx where
  vec : ParseVec
  /-- LEN without the FCS. -/
  len : Nat
  hash : Nat
  /-- Ring tag with HOPS and reserved bytes, as R398 writes it. -/
  ringTag : List Byte
  seqNext : Nat
  vxlanPort : Nat

/-- Offset of the first VLAN tag or of what stands in its place. -/
def ParseVec.tagAt (v : ParseVec) : Nat := if v.ringTag then 28 else 12

/-- Offset after the outer VLAN tags. -/
def ParseVec.afterTags (v : ParseVec) : Nat := v.tagAt + 4 * v.vlanCount

/-- The frame holds a well-formed outer IP header of a kind: 1 IPv4, 2 IPv6. -/
def ParseVec.hasIp (v : ParseVec) (k : Nat) : Bool := v.outer.l3 == k && !v.l3Malformed

/-- A route recipe: addresses, tags and the TTL or hop limit, lowered by one (R422). -/
def routeEdit (v : ParseVec) (bs prm : List Byte) (k : Nat) (tag : List Byte) : Edit :=
  if v.hasIp k = false then {}
  else
    let ttl := v.outer.offL3 + if k = 1 then 8 else 7
    { laid := [(0, prm.take 12), (ttl, beBytes ((be bs ttl 1 + 255) % 256) 1)], pos := v.tagAt, cut := 4 * v.vlanCount, ins := tag, need := ttl + 1 }

/-- A multicast rename: addresses, destination, UDP port. -/
def renameEdit (v : ParseVec) (prm : List Byte) (k : Nat) : Edit :=
  if v.hasIp k = false then {}
  else
    let a := v.outer.offL3 + if k = 1 then 16 else 24
    let w := if k = 1 then 4 else 16
    let udp := v.outer.l4 == 1 && v.outer.offL4 != 0
    { laid := [(0, prm.take 12), (a, slice prm 12 w)] ++ (if udp then [(v.outer.offL4 + 2, slice prm 28 2)] else []),
      need := if udp then v.outer.offL4 + 4 else a + w }

/-- UDP source port of an encapsulation (R422). -/
def tunnelPort (hash : Nat) : List Byte := beBytes (0xC000 + hash % 2 ^ 14) 2

/-- VXLAN over IPv4: the template with its two lengths raised by LEN, the source port and a checksum of zero (R422, Table 15.6). -/
def vxlan4Edit (c : EditCtx) (prm : List Byte) (tagged : Bool) : Edit :=
  let h := prm.take (if tagged then 54 else 50)
  let o := h.length - 36
  let h := splice h (o + 2) (beBytes (36 + c.len) 2)
  let h := splice h (o + 20) (tunnelPort c.hash)
  let h := splice h (o + 24) (beBytes (16 + c.len) 2)
  { ins := splice h (o + 26) (beBytes 0 2), ip4 := some o }

/-- VXLAN over IPv6 (R422, Table 15.6). -/
def vxlan6Edit (c : EditCtx) (prm : List Byte) (tagged : Bool) : Edit :=
  let et := if be prm 12 2 = 0 then beBytes 0x86DD 2 else slice prm 12 2
  let eth := prm.take 12 ++ (if tagged then slice prm 14 4 else []) ++ et
  let n := beBytes (16 + c.len) 2
  let ip := beBytes 0x60000000 4 ++ n ++ slice prm 18 34
  let udp := tunnelPort c.hash ++ beBytes c.vxlanPort 2 ++ n ++ beBytes 0 2
  { ins := eth ++ ip ++ udp ++ beBytes 0x08000000 4 ++ slice prm 52 3 ++ beBytes 0 1,
    full := if bitOf (be prm 63 1) 0 && !c.vec.lenEarly then some eth.length else none }

/-- What a library recipe does (Table 15.5). A frame without the header that a recipe addresses passes unchanged (R422); with fewer tags than it names, those present are popped or swapped (log 44). -/
def recipeEdit (id : Nat) (c : EditCtx) (bs prm : List Byte) : Edit :=
  let v := c.vec
  let tags (n : Nat) : Nat := 4 * min n v.vlanCount
  if id = 0x00 ∨ id = 0x12 then {}
  else if id ≤ 0x03 then { pos := v.tagAt, ins := prm.take (4 * id), need := v.tagAt }
  else if id ≤ 0x06 then { pos := v.tagAt, cut := tags (id - 3), need := v.tagAt + tags (id - 3) }
  else if id ≤ 0x09 then { laid := [(v.tagAt, prm.take (tags (id - 6)))], need := v.tagAt + tags (id - 6) }
  else if id = 0x0A then routeEdit v bs prm 1 []
  else if id = 0x0B then routeEdit v bs prm 1 (slice prm 12 4)
  else if id = 0x0C then routeEdit v bs prm 2 []
  else if id = 0x0D then routeEdit v bs prm 2 (slice prm 12 4)
  else if id = 0x0E then renameEdit v prm 1
  else if id = 0x0F then renameEdit v prm 2
  else if id = 0x10 then
    if (v.app = 2 ∨ v.app = 3) ∧ v.offApp ≠ 0 then { laid := [(v.offApp + 8, prm.take 4)], need := v.offApp + 12 } else {}
  else if id = 0x11 then { pos := 12, ins := c.ringTag, need := 12 }
  else if id = 0x13 then if v.ringTag then { pos := 12, cut := 16, need := 28 } else {}
  else if id = 0x14 then { pos := v.afterTags, ins := beBytes 0xF1C10000 4 ++ beBytes c.seqNext 2, need := v.afterTags }
  else if id = 0x15 then if v.rtag then { pos := v.afterTags, cut := 6, need := v.afterTags + 6 } else {}
  else if id = 0x16 then vxlan4Edit c prm false
  else if id = 0x17 then vxlan4Edit c prm true
  else if id = 0x18 then vxlan6Edit c prm false
  else if id = 0x19 then vxlan6Edit c prm true
  else if id = 0x1A then
    if v.tun1 = 1 ∧ v.offTun1 ≠ 0 then { cut := v.offTun1 + 8, need := v.offTun1 + 8 } else {}
  else {}

/-! ## Checksums (R150, R151, RFC 1624) -/

/-- 16-bit words of a list of bytes, a last odd byte filled with zero. -/
def words16 : List Byte → List Nat
  | a :: b :: l => (a.toNat * 256 + b.toNat) :: words16 l
  | [a] => [a.toNat * 256]
  | [] => []

/-- Ones-complement sum of words. -/
def wordSum (l : List Nat) : Nat := l.foldl (fun a w => let x := a + w; if 65536 ≤ x then x - 65535 else x) 0

/-- Ones complement of a word. -/
def notWord (w : Nat) : Nat := 65535 - w % 65536

/-- Incremental update of a checksum from the words as they were and as they are (RFC 1624). -/
def csumUpdate (hc : Nat) (old new : List Byte) : Nat :=
  notWord (wordSum (notWord hc :: ((words16 old).map notWord ++ words16 new)))

/-- Put zero over a checksum field. -/
def zeroed (bs : List Byte) (o : Nat) : List Byte := splice bs o (beBytes 0 2)

/-- A full IPv4 header checksum. -/
def ip4Full (h : List Byte) : Nat := notWord (wordSum (words16 (zeroed h 10)))

/-- Length of an IPv4 header. -/
def ip4Len (bs : List Byte) (o : Nat) : Nat := be bs o 1 % 16 * 4

/-- An IPv4 header that stands at o in the frame and at n after the edit: left, computed in full, or updated (R150). -/
def fixIp4 (bs new : List Byte) (o n : Nat) (full : Bool) : List Byte :=
  let h := slice bs o (ip4Len bs o)
  let k := slice new n (ip4Len bs o)
  if h = k then new
  else splice new (n + 10) (beBytes (if full then ip4Full k else csumUpdate (be h 10 2) (zeroed h 10) (zeroed k 10)) 2)

/-- Where the IP packet of a header at l3 ends, as its length field says. -/
def ipEnd (bs : List Byte) (v6 : Bool) (l3 : Nat) : Nat := l3 + if v6 then 40 + be bs (l3 + 4) 2 else be bs (l3 + 2) 2

/-- The length in the pseudo-header: the UDP length, or for TCP what of the packet follows the IP header. -/
def l4Length (bs : List Byte) (v6 udp : Bool) (l3 l4 : Nat) : Nat := if udp then be bs (l4 + 4) 2 else ipEnd bs v6 l3 - l4

/-- What an L4 checksum covers: the pseudo-header addresses and length and the segment to the end of the packet, the checksum field zero (R151). -/
def l4Cover (bs : List Byte) (v6 udp : Bool) (l3 l4 csum stop : Nat) : List Byte :=
  (if v6 then slice bs (l3 + 8) 32 else slice bs (l3 + 12) 8) ++ beBytes (l4Length bs v6 udp l3 l4) 4 ++ zeroed (slice bs l4 (stop - l4)) (csum - l4)

/-- Where the words that an L4 checksum covers end: at the packet's end, and not before the header itself, whose ports it covers (R151). -/
def l4Stop (bs : List Byte) (v6 udp : Bool) (l3 l4 : Nat) : Nat := max (l4 + if udp then 8 else 20) (min bs.length (ipEnd bs v6 l3))

/-- The UDP or TCP checksum of one level after the edit, from what it covered in the frame to what it covers now (R151); a header flagged L4_MALFORMED has its checksum updated too. -/
def fixL4 (bs new : List Byte) (moved : Nat → Option Nat) (n : NetPart) : List Byte :=
  if n.offL4 = 0 ∨ (n.l4 ≠ 1 ∧ n.l4 ≠ 2) ∨ (n.l3 ≠ 1 ∧ n.l3 ≠ 2) then new
  else
    match moved n.offL3, moved n.offL4 with
    | some l3, some l4 =>
      let v6 := n.l3 == 2
      let udp := n.l4 == 1
      let c := if udp then 6 else 16
      let hc := be bs (n.offL4 + c) 2
      let old := l4Cover bs v6 udp n.offL3 n.offL4 (n.offL4 + c) (l4Stop bs v6 udp n.offL3 n.offL4)
      let now := l4Cover new v6 udp l3 l4 (l4 + c) (l4Stop new v6 udp l3 l4)
      if old = now ∨ (n.l4 = 1 ∧ hc = 0) then new
      else
        let u := csumUpdate hc old now
        splice new (l4 + c) (beBytes (if n.l4 = 1 ∧ u = 0 then 0xFFFF else u) 2)
    | _, _ => new

/-- A UDP or TCP checksum in full, of a header at l4 under an IP header at l3, over the packet without the frame's padding (R152, R425); only a UDP checksum of zero is sent as 0xFFFF (R151). -/
def l4Full (bs : List Byte) (l3 l4 : Nat) : List Byte :=
  let v6 := be bs l3 1 / 16 == 6
  let proto := be bs (l3 + if v6 then 6 else 9) 1
  let c := l4 + if proto = 6 then 16 else 6
  let addr := if v6 then slice bs (l3 + 8) 32 else slice bs (l3 + 12) 8
  let n := min bs.length (ipEnd bs v6 l3) - l4
  let u := notWord (wordSum (words16 (addr ++ beBytes n 4 ++ beBytes proto 4 ++ slice (zeroed bs c) l4 n)))
  splice bs c (beBytes (if u = 0 ∧ proto ≠ 6 then 0xFFFF else u) 2)

/-- What a committed edit hands on: the frame's bytes, where a byte of the frame stands now, inserted IPv4 headers, the headers of a full L4 checksum, the PTP header handed off, CNT, whether SEQ_NEXT was taken (R417). -/
structure Committed where
  bytes : List Byte
  moved : Nat → Option Nat
  ip4 : List Nat
  full : Option (Nat × Nat)
  ptp : Option Nat
  cnt : Bool
  seq : Bool
  /-- Address of an end word that is a control-store read error (R412, R415). -/
  badEnd : Option Nat := none

/-- The edit stage's checksums: the tunnel levels from the innermost outwards, then the outer headers, then inserted ones (R150 to R152). -/
def fixChecksums (v : ParseVec) (x : Committed) (bs new : List Byte) : List Byte :=
  let ip (new : List Byte) (n : NetPart) (full : Bool) : List Byte :=
    if n.l3 = 1 ∧ n.offL3 ≠ 0 then (x.moved n.offL3).elim new fun k => fixIp4 bs new n.offL3 k full else new
  let new := v.levels.foldl (fun new n => fixL4 bs (ip new n false) x.moved n) new
  let new := if v.l3Malformed then new else fixL4 bs (ip new v.outer (!v.ip4CsumBad)) x.moved v.outer
  let new := x.ip4.foldl (fun new o => splice new (o + 10) (beBytes (ip4Full (slice new o (max 20 (ip4Len new o)))) 2)) new
  x.full.elim new fun h => l4Full new h.1 h.2

/-- A library recipe at its commit point: it hands off the PTP header and raises its counter (R417, R422). -/
def Edit.committed (x : Edit) (id : Nat) (v : ParseVec) (bs : List Byte) : Committed where
  bytes := x.apply bs
  moved := x.moved
  ip4 := x.ip4.toList
  full := x.full.map fun o => (o, o + 40)
  ptp := if v.offApp = 0 then none else x.moved v.offApp
  cnt := true
  seq := id == 0x14

/-! ## PTP (R345 to R349) -/

/-- A signed 64-bit correctionField raised by a number of 2^-16 ns, and whether it saturates (R348). -/
def correct (v : Nat) (add : Int) : Nat × Bool :=
  let x : Int := if v < 2 ^ 63 then v else (v : Int) - 2 ^ 64
  if v = 2 ^ 63 - 1 ∨ (2 ^ 63 - 1 : Nat) < x + add then (2 ^ 63 - 1, true) else (((x + add) % 2 ^ 64).toNat, false)

end Sys2Proof.Machine
end

