-- ==== Sys2Proof/Machine/Types.lean ====
section
/-! DEFINITION. The parts of the state that are no register fields, one record for each unit of the module. -/

namespace Sys2Proof.Machine

/-- The two variants of Table 0.2. -/
inductive Variant where
  | o | h
  deriving DecidableEq, Repr, Inhabited

/-- What the TAP executes (R527). -/
inductive TapInstr where
  | bypass | idcode | samplePreload | extest | clamp | highz
  deriving DecidableEq, Repr, Inhabited

/-- Levels at the lands and what they hold (R65 to R70, R82, R102, R521, R527, R542, R549). -/
structure Pins where
  /-- VDD_HUM is in range. -/
  humPower : Bool
  porLow : Bool
  resetLow : Bool
  perstLow : Bool
  /-- The module may access host memory (R508). -/
  hostAllowed : Bool
  refclk : Bool
  /-- THERM_TRIP_N is asserted. -/
  thermTrip : Bool
  /-- VID code of each quadrant; unlisted 0b10 (R542). -/
  vid : SMap Nat
  /-- Time of the last edge of PPS_IN, EVT0, EVT1. -/
  lastEdge : SMap Nat
  tap : TapInstr
  /-- Boundary register as it was last shifted in, and what the tester will shift in at the next scans of EXTEST. -/
  boundary : Nat
  shiftIn : List Nat
  deriving DecidableEq, Repr

/-- The module is held in warm reset: RESET_N low, or a TAP instruction that holds it (R82, R527). -/
def Pins.held (p : Pins) : Bool := p.resetLow || p.tap == .extest || p.tap == .clamp || p.tap == .highz

/-- A unit with a reset of its own (R80, Table 3.4). -/
inductive ResetUnit where
  | quadrant (q : Nat) | tile (t : Nat) | drc (d : Nat)
  deriving DecidableEq, Repr

/-- How the boot that is running or last ran was started, and what it left (R71 to R79); the units that are in reset. -/
structure BootInfo where
  /-- No boot has completed since the last cold reset (R98). -/
  cold : Bool
  /-- The slot that a patch was verified from and its version; the copy in Caddis SRAM (R74, R75). -/
  patch : Option (Nat × Nat × List Byte)
  /-- PARAM records of the copy chosen at the last boot (R98, R99). -/
  param : List (Nat × Nat)
  /-- Units in reset, and what the bring-up that ends each reset finds (R83, R533, Table 17.3; log 131). -/
  inReset : List (ResetUnit × BootFindings)
  deriving DecidableEq, Repr

/-- An NVM command in progress (R94 to R96): a store of lines, each with its address, in the order written, `dma` where they came from host memory; or a read. -/
inductive NvmJob where
  | store (tag region : Nat) (dma : Bool) (lines : List (Nat × List Byte))
  | read (tag region offset length hostAddr : Nat)
  deriving DecidableEq, Repr

/-- A layer swap in progress (R53 to R62). -/
structure SwapJob where
  tag : Nat
  slot : Nat
  timeoutMs : Nat
  /-- The new image. -/
  image : Image
  /-- Types in the mask (R53). -/
  mask : List Nat
  /-- Layer types still to apply, in the order of R56. -/
  todo : List Nat
  /-- Quadrants still to quiesce for the layer at the head of todo. -/
  quadrants : List Nat
  deriving DecidableEq, Repr

/-- A first-error capture (R491). -/
structure Capture where
  valid : Bool
  kind : Nat
  master : Nat
  access : Nat
  address : Nat
  /-- (seconds × 10^9 + ns) mod 2^48 at detection. -/
  time : Nat
  seconds : Nat
  merge : Nat
  deriving DecidableEq, Repr, Inhabited

/-- A fault-log record due (R501): its REASON and the source and capture it carries. -/
structure LogDue where
  reason : Nat
  source : Nat
  cap : Capture
  deriving DecidableEq, Repr

/-- Sundew: captures by source, reactions in progress and fenced units as (source, index), messages, the log queue. -/
structure Sundew where
  caps : SMap Capture
  reacting : List (Nat × Nat)
  /-- Units whose fence has begun and not completed (R496). -/
  fencing : List (Nat × Nat)
  fenced : List (Nat × Nat)
  msgs : List Nat
  log : List LogDue
  /-- SEQ of the last record written; 0 when none. -/
  seq : Nat
  bootFirst : Option Nat
  /-- Line of the next record. -/
  line : Nat
  /-- Time BELOW_FLOOR was set since cold reset, in 0.2 ns (R504). -/
  below : Nat
  deriving DecidableEq, Repr

/-- One DMA ring of the host interface. -/
structure HostRing where
  /-- Descriptors read and not yet consumed, oldest first. -/
  posted : List Nat
  /-- Completion records since the cause bit last set. -/
  unsignalled : Nat
  oldest : Nat
  deriving DecidableEq, Repr, Inhabited

/-- A mailbox command taken by Caddis and not yet answered. -/
structure MailCmd where
  opcode : Nat
  tag : Nat
  args : List Nat
  deriving DecidableEq, Repr, Inhabited

/-- A mailbox response (R523). -/
structure MailResp where
  opcode : Nat
  tag : Nat
  status : Nat
  result : Nat
  data : Nat
  deriving DecidableEq, Repr, Inhabited

/-- The host interface: rings, interrupts, mailbox, SMBus. -/
structure HostIf where
  rings : SMap HostRing
  /-- Bytes of the MSI-X table as the host wrote them, by offset in BAR2 (R506; log 123). -/
  msixTable : SMap Byte
  /-- Sources whose message waits for an unmasking or for host memory (R508, R519). -/
  msixPending : List Nat
  taken : List MailCmd
  resp : List MailResp
  smbOffset : Nat
  smbRefused : Bool
  smbPecErr : Bool
  /-- Ring served last, by host port (R515). -/
  lastTx : SMap Nat
  /-- Windows whose writes a TOP_FENCE has ordered, counted (R262). -/
  fences : Nat
  deriving DecidableEq, Repr

/-- What a tile does about sleep (R107 to R114). -/
structure TileSleep where
  /-- Code of the wake source being served; none when no wake runs. -/
  waking : Option Nat
  /-- The wake under way is from torpor. -/
  fromTorpor : Bool
  deriving DecidableEq, Repr, Inhabited

/-- Clocks, temperatures and sleep. -/
structure Clocks where
  /-- Target point of a raise waiting for VID_SETTLE, by quadrant. -/
  raising : SMap Nat
  /-- Ports that are held off because holdover expired. -/
  heldOff : Bool
  tiles : SMap TileSleep
  /-- Ports that send the rouse pattern if their link stays down for 10 µs after a torpor wake (R116). -/
  rouse : List Nat
  caddisAsleep : Bool
  /-- Tiles that have woken during this standby: they return to torpor under the normal rules (R119). -/
  woken : List Nat
  /-- On-periods that the Glow-worm detector of a lane has counted (R115). -/
  glow : SMap Nat
  /-- The exit from hibernate that waits for REFCLK: its code and what its boot will find (R103). -/
  hibWake : Option (Nat × BootFindings)
  /-- Tag of a SLEEP_POLICY change in progress and the tiles it has woken and still waits for. -/
  change : Option (Nat × List Nat)
  deriving DecidableEq, Repr

/-- The timebase (R333 to R339): the master in units of 2^-32 / 5 ns since 0 s, the sum of steps, what waits for the beacon. -/
structure Timebase where
  master : Nat
  /-- The timebase less the local scale, signed (R336). -/
  stepSum : Int
  /-- RATE_ADJ in force, signed. -/
  rate : Int
  pendingRate : Option Int
  /-- A step waiting: its operation and its argument in the master's unit. -/
  pendingStep : Option (Nat × Nat)
  /-- Ticks since the pattern of 625 began. -/
  phase : Nat
  /-- Tiles whose replica has stopped or not yet aligned (R339). -/
  unaligned : List Nat
  /-- The master as the last step left it: PPS_OUT edges stepped over are not emitted (R337). -/
  stepAt : Nat
  /-- A changed PPS_OUT setting waits for the end of this second; until then the old one is in force (R356). -/
  ppsFrom : Option Nat
  ppsOld : Nat × Nat × Nat × Bool
  /-- Time and width of an edge of PPS_OUT between the last tick of a second and its end, not yet emitted (R356). -/
  ppsLate : Option (Nat × Nat)
  /-- Time of the last whole-second PPS_OUT edge whose message is still to be sent. -/
  todDue : Option Nat
  deriving DecidableEq, Repr

/-- Optics: calibrations and bypass openings under way with the tags of their commands, groups with an element fault recorded (R173, R176, R179). -/
structure Optics where
  cal : SMap Nat
  /-- Group and tag of each CAUSEWAY_SET open not yet answered. -/
  opening : List (Nat × Nat)
  faulted : List Nat
  deriving DecidableEq, Repr

/-- Layers that some units have still to take: PARSE and SCHED of the running image for tiles, the device-wide PARSE values that each such tile still uses (R57), and the LPM_ROWS and STAGE_ORDER that a quadrant still uses (R59). -/
structure Handover where
  goal : Option Layers
  held : SMap (Nat × List (Nat × Nat))
  /-- Ports whose tile has switched and that take SCHED at their next frame boundary (R56). -/
  late : List Nat
  /-- Tiles that have a new PARSE layer still to take: their farms begin anew with it (R57, R198). -/
  parse : List Nat
  /-- The PINS layer that takes effect at the next Hummock tick (R56). -/
  pins : Option (SMap Nat)
  /-- Pins that are high-impedance for the tick at which their function changes (R56). -/
  floating : List Nat
  search : SMap (Nat × List Stage)
  deriving DecidableEq, Repr

/-- What the module has put out and the data last returned by a read: the model's own record. -/
structure Outputs where
  /-- Value returned by the last read of a register, by whom it was asked. -/
  readData : Option Nat
  /-- MSI-X vectors sent, newest first. -/
  msi : List Nat
  /-- Frames sent, newest first: port and bytes with the FCS correct or stomped. -/
  frames : List (Nat × List Byte × Bool)
  /-- Time-of-day messages sent, newest first. -/
  tod : List (List Byte)
  /-- PPS_OUT pulses, newest first: time of the rising edge in ns since 0 s, and length in ns. -/
  pps : List (Nat × Nat)
  /-- Ports that sent a rouse pattern, newest first. -/
  rouse : List Nat
  /-- Host memory as the module wrote it (R94, R95, R510, R516). -/
  hostMem : SMap Byte
  /-- What TDO gives: IDCODE, a bypass bit or the boundary sample; none where TDO is not driven (R527, R546). -/
  tdo : Option Nat
  deriving DecidableEq, Repr

/-- Scarab and the stamp clock of one exact-match table (R214, R225, R569). -/
structure ExmTable where
  /-- 7-bit stamp clock. -/
  clock : Nat
  /-- Insertions since the clock last advanced, while ageing is not in effect. -/
  inserts : Nat
  /-- Bucket of the next visit; none while no pass runs. -/
  next : Option Nat
  deriving DecidableEq, Repr, Inhabited

/-- A learn request (R223). -/
structure LearnReq where
  table : Nat
  port : Nat
  fid : Nat
  mac : Nat
  /-- The DEST_KIND and DEST that learning gives. -/
  destKind : Nat
  dest : Nat
  /-- Its place in TUE's order of acceptance (R268). -/
  seq : Nat
  deriving DecidableEq, Repr, Inhabited

/-- The exact-match fabric: entries of 128 bits by 8,192 × bank + 4 × row + slot, unlisted empty. -/
structure Exm where
  slots : SMap Nat
  tables : SMap ExmTable
  queue : List LearnReq
  /-- Time of the last LIMIT record by port (Table 8.4). -/
  limitAt : SMap Nat
  /-- Banks out of service (R231). -/
  out : List Nat
  /-- Tables whose learn counts are being recounted (R230). -/
  recount : List Nat
  /-- HIT writes on their way to their rows: table, address of the slot, key (R227). -/
  hits : List (Nat × Nat × Nat)
  /-- Slots that a host update has written since the last tick (Table 8.5). -/
  touched : List Nat
  deriving DecidableEq, Repr

end Sys2Proof.Machine
end

