-- ==== Sys2Proof/Config.lean ====
section
/-! DEFINITION. What an implementation fixes and the values the spec leaves open: opaque constants, no body, so that nothing can lean on a value. -/

namespace Sys2Proof

open Sys2Proof.Machine

/-- The layers that layer bodies spell, by layer type: no rule lays the bodies out (R43, R44; log 13). -/
opaque Config.decodeLayers : List (Nat × List Byte) → Layers

/-- SHA-384, named by R40 and not defined here (log 14). -/
opaque Config.sha384 : List Byte → List Byte

/-- Die stepping and ROM version, "by die" (R536; log 3). -/
opaque Config.romVersion : Nat

/-- Whether the ECDSA P-384 signature of a patch is right (R74; log 14). -/
opaque Config.patchSigOk : List Byte → Bool

/-- The device-family key under which patches are sealed (R74). -/
opaque Config.patchKey : List Byte

/-- A free value for each draw, where the spec leaves one open: the victim of a random eviction, the buffer taken, entropy (log 17). -/
opaque Config.free : Nat → Nat

/-- The error of one timestamp before it is held within the bound of R341, in quarter nanoseconds (log 10). -/
opaque Config.stampError : Nat → Int

/-- The offset of one quadrant's replicas before it is held within the bound of R341, in quarter nanoseconds (log 10). -/
opaque Config.quadrantError : Nat → Int

/-- What a port whose link is down receives at an instant: bit 0 local fault, or nothing at all, bit 1 remote fault, bit 2 codeword lock on every lane (R134, R163; log 46). -/
opaque Config.portSees : Nat → Nat → Nat

/-- AES-GCM seal: key, nonce, authenticated data, plaintext; ciphertext and 16-byte ICV (R431; log 14). -/
opaque Config.gcmSeal : List Byte → List Byte → List Byte → List Byte → List Byte

/-- AES-GCM open: the plaintext, or none where the ICV fails (R431; log 14). -/
opaque Config.gcmOpen : List Byte → List Byte → List Byte → List Byte → Option (List Byte)

/-- A control-store word of a tile that the image or the ROM library places: no rule gives its contents (R412, R415; log 13). -/
opaque Config.libraryWord : Nat → Nat → Nat

/-- The entry word of a recipe in a tile's control stores: the REWRITE layer places it, and no rule lays that out (log 13). -/
opaque Config.recipeEntry : Nat → Nat → Nat

/-- COUNT and next-hop indexes of an ECMP group object: no rule lays its bits out (R243; log 13). -/
opaque Config.ecmpObject : Nat → Nat × List Nat

/-- COUNT and member ports of a LAG object: no rule lays its bits out (R243; log 13). -/
opaque Config.lagObject : Nat → Nat × List Nat

/-- The levels of the straps SMB_ADDR[1:0] on the board (R525). -/
opaque Config.smbAddr : Nat

/-- The cell of the boundary register that drives a land, by a number of the land: no rule orders the cells (R527; log 101). -/
opaque Config.boundaryCell : Nat → Nat

end Sys2Proof
end

