-- ==== Sys2Proof/Machine/Regs.lean ====
section
/-! DEFINITION. The registers of BAR0 (chapter 21 and the register tables of every chapter): each field with its place, access and reset value, each register with its offset and its instances. -/

namespace Sys2Proof.Machine

/-- Access codes of Table 21.2. -/
inductive Access where
  | rw | ro | rc | w1c | w1s | wo | rwp
  deriving DecidableEq, Repr

/-- Fields whose reset value is no constant: it follows from the die, the variant, the NVM or the running image. -/
inductive Src where
  | TOP_ID_VARIANT | TOP_ID_STEPPING | TOP_ID_ROM_VERSION | TOP_CAPACITY_FLOOR
  | CLK_QCTRL_POINT | CLK_QCTRL_FLOOR | CLK_QCTRL_ACTUAL | NVM_WCOUNT_STORES
  | HST_RING_CTRL_OWNER | HST_RING_CTRL_OWNED | FLT_MODE_COLLECTOR | FLT_LOG_STAT_NEXT_LINE
  | TUE_ORDER_STRICT_PORT | EXM_TABLE_CFG_USED | EXM_TABLE_CFG_KIND | EXM_TABLE_CFG_WIDE
  | EXM_TABLE_CFG_EVICT | EXM_TABLE_CFG_BANK_FIRST | EXM_TABLE_CFG_BANK_COUNT | EXM_SWEEP_AGE_EN
  | EXM_SWEEP_PERIOD_MS | EXM_PORT_TABLES_FDB_T | EXM_PORT_TABLES_FDB_EN | EXM_PORT_TABLES_HR4_T
  | EXM_PORT_TABLES_HR4_EN | EXM_PORT_TABLES_HR6_T | EXM_PORT_TABLES_HR6_EN | EXM_PORT_TABLES_SG4_T
  | EXM_PORT_TABLES_SG4_EN | EXM_PORT_TABLES_SG6_T | EXM_PORT_TABLES_SG6_EN | EXM_PORT_TABLES_SID_T
  | EXM_PORT_TABLES_SID_EN | EXM_PORT_TABLES_SIDW_T | EXM_PORT_TABLES_SIDW_EN | EXM_PORT_TABLES_MRG_T
  | EXM_PORT_TABLES_MRG_EN | EXM_PORT_TABLES_MTR_T | EXM_PORT_TABLES_MTR_EN | RNG_GROUP_CFG_MEMBER
  | RNG_GROUP_CFG_RING_ID | RNG_GROUP_CFG_NODE_ID | RNG_GROUP_CFG_ETHERTYPE | RNG_SPAN_DELAY_NS
  | CSW_STATUS_PRESENT | CSW_STATUS_MEMBER | DRC_SHARE_FIRST_MIB | DRC_SHARE_COUNT_MIB
  | BUF_POOL_CFG_SIZE | BUF_POOL_CFG_COUNT | BUF_POOL_STAT_FREE | BUF_POOL_STAT_MIN_FREE
  | BUF_SHELTER_STAT_FREE | BUF_SHELTER_STAT_COUNT | BUF_PORT_BUDGET_TAIL_NS | TCM_REGION_USED
  | TCM_REGION_KIND | TCM_REGION_REPL | TCM_REGION_FIRST_ROW | TCM_REGION_ROWS
  | TCM_REGION_FREE | TCM_STATUS_LPM_ROWS | TCM_STATUS_LPM_FREE | SMP_CTRL_PERIOD_NS
  | PRT_CFG_MTU | OPT_STATUS_PRESENT | PRS_FARM_ACTIVE | PRS_FARM_SPARES_LEFT
  | PRS_SPARE_MASK_SPARE | PRS_GROUP_DEPTH | PRS_GROUP_HDR_SET | SCH_CTRL_REFILL
  | SCH_DSCP_MAP_DSCP | SCH_CBS_EN | SCH_QMAP_UQ_BASE | SCH_QUEUE_CFG_RANK
  | SCH_QUEUE_CFG_CLASS | RWE_PARAM_SHARE_BASE | RWE_PARAM_SHARE_COUNT | RWE_RECIPE_LOADED
  | RWE_RECIPE_STEPS | RWE_RECIPE_GROW | RWE_RECIPE_ENTRY | GAT_PORT_STATUS_LIST_BASE
  | GAT_SG_STATUS_LIST_BASE | TSF_CTRL_WATERMARK
  deriving DecidableEq, Repr

/-- A field's reset value as its register table gives it. -/
inductive Reset where
  | num (n : Nat)
  | special (s : Src)
  deriving DecidableEq, Repr

/-- One field of a register: its number here, its lowest bit, its width, its access code and its reset value. -/
structure Field where
  id : Nat
  lsb : Nat
  width : Nat
  access : Access
  reset : Reset
  deriving DecidableEq, Repr

/-- One register: its name, the offset in BAR0 of its first instance, the count and stride of each dimension, its fields. -/
structure Reg where
  name : String
  base : Nat
  dims : List (Nat × Nat)
  fields : List Field
  deriving DecidableEq, Repr

/-! TOP_ID: spec/21_register_map.md, R536. -/
def F.TOP_ID_PART : Field := ⟨0, 0, 16, .ro, .num 4132⟩
def F.TOP_ID_VARIANT : Field := ⟨1, 16, 8, .ro, .special .TOP_ID_VARIANT⟩
def F.TOP_ID_STEPPING : Field := ⟨2, 24, 8, .ro, .special .TOP_ID_STEPPING⟩
def F.TOP_ID_ROM_VERSION : Field := ⟨3, 32, 32, .ro, .special .TOP_ID_ROM_VERSION⟩
def R.TOP_ID : Reg := ⟨"TOP_ID", 0x0, [], [F.TOP_ID_PART, F.TOP_ID_VARIANT, F.TOP_ID_STEPPING, F.TOP_ID_ROM_VERSION]⟩

/-! TOP_BOOT: spec/03_startup_reset_nvm.md, R86. -/
def F.TOP_BOOT_STEP : Field := ⟨4, 0, 4, .ro, .num 0⟩
def F.TOP_BOOT_READY : Field := ⟨5, 4, 1, .ro, .num 0⟩
def F.TOP_BOOT_HALT : Field := ⟨6, 5, 1, .ro, .num 0⟩
def F.TOP_BOOT_HALT_CODE : Field := ⟨7, 8, 8, .ro, .num 0⟩
def F.TOP_BOOT_RAIL_MISSING : Field := ⟨8, 16, 7, .ro, .num 0⟩
def F.TOP_BOOT_PATCH_RESULT : Field := ⟨9, 24, 4, .ro, .num 1⟩
def F.TOP_BOOT_BOOT_MS : Field := ⟨10, 32, 16, .ro, .num 0⟩
def R.TOP_BOOT : Reg := ⟨"TOP_BOOT", 0x100, [], [F.TOP_BOOT_STEP, F.TOP_BOOT_READY, F.TOP_BOOT_HALT, F.TOP_BOOT_HALT_CODE, F.TOP_BOOT_RAIL_MISSING, F.TOP_BOOT_PATCH_RESULT, F.TOP_BOOT_BOOT_MS]⟩

/-! TOP_RESET_CAUSE: spec/03_startup_reset_nvm.md, R86. -/
def F.TOP_RESET_CAUSE_CAUSE : Field := ⟨11, 0, 3, .ro, .num 0⟩
def F.TOP_RESET_CAUSE_REFUSED : Field := ⟨12, 3, 1, .w1c, .num 0⟩
def F.TOP_RESET_CAUSE_WARM_COUNT : Field := ⟨13, 16, 16, .ro, .num 0⟩
def R.TOP_RESET_CAUSE : Reg := ⟨"TOP_RESET_CAUSE", 0x108, [], [F.TOP_RESET_CAUSE_CAUSE, F.TOP_RESET_CAUSE_REFUSED, F.TOP_RESET_CAUSE_WARM_COUNT]⟩

/-! TOP_RESET_CTRL: spec/03_startup_reset_nvm.md, R86. -/
def F.TOP_RESET_CTRL_KIND : Field := ⟨14, 0, 3, .wo, .num 0⟩
def F.TOP_RESET_CTRL_TARGET : Field := ⟨15, 8, 5, .wo, .num 0⟩
def F.TOP_RESET_CTRL_KEY : Field := ⟨16, 48, 16, .wo, .num 0⟩
def R.TOP_RESET_CTRL : Reg := ⟨"TOP_RESET_CTRL", 0x110, [], [F.TOP_RESET_CTRL_KIND, F.TOP_RESET_CTRL_TARGET, F.TOP_RESET_CTRL_KEY]⟩

/-! TOP_FENCE: spec/10_updates_epochs_cuts.md, R299. -/
def F.TOP_FENCE_FENCE : Field := ⟨17, 0, 1, .wo, .num 0⟩
def F.TOP_FENCE_COUNT : Field := ⟨18, 32, 32, .ro, .num 0⟩
def R.TOP_FENCE : Reg := ⟨"TOP_FENCE", 0x200, [], [F.TOP_FENCE_FENCE, F.TOP_FENCE_COUNT]⟩

/-! TOP_ENTROPY: spec/16_elytra_macsec.md, R451. -/
def F.TOP_ENTROPY_HEALTH_OK : Field := ⟨19, 0, 1, .ro, .num 0⟩
def F.TOP_ENTROPY_FAIL : Field := ⟨20, 1, 1, .w1c, .num 0⟩
def F.TOP_ENTROPY_STALE : Field := ⟨21, 2, 1, .ro, .num 0⟩
def R.TOP_ENTROPY : Reg := ⟨"TOP_ENTROPY", 0x300, [], [F.TOP_ENTROPY_HEALTH_OK, F.TOP_ENTROPY_FAIL, F.TOP_ENTROPY_STALE]⟩

/-! TOP_CAPACITY: spec/19_faults_sundew.md, R504. -/
def F.TOP_CAPACITY_CAPACITY : Field := ⟨22, 0, 14, .ro, .num 10000⟩
def F.TOP_CAPACITY_BELOW_FLOOR : Field := ⟨23, 14, 1, .ro, .num 0⟩
def F.TOP_CAPACITY_FLOOR : Field := ⟨24, 16, 7, .ro, .special .TOP_CAPACITY_FLOOR⟩
def F.TOP_CAPACITY_BANKS_OUT : Field := ⟨25, 24, 4, .ro, .num 0⟩
def F.TOP_CAPACITY_DEEP_OFFLINE : Field := ⟨26, 28, 2, .ro, .num 0⟩
def F.TOP_CAPACITY_XBAR_QUEUED : Field := ⟨27, 32, 4, .rc, .num 0⟩
def F.TOP_CAPACITY_TCAM_FENCED : Field := ⟨28, 48, 16, .ro, .num 0⟩
def R.TOP_CAPACITY : Reg := ⟨"TOP_CAPACITY", 0x400, [], [F.TOP_CAPACITY_CAPACITY, F.TOP_CAPACITY_BELOW_FLOOR, F.TOP_CAPACITY_FLOOR, F.TOP_CAPACITY_BANKS_OUT, F.TOP_CAPACITY_DEEP_OFFLINE, F.TOP_CAPACITY_XBAR_QUEUED, F.TOP_CAPACITY_TCAM_FENCED]⟩

/-! HUM_DEVICE_STATE: spec/04_hummock_clocks_sleep.md, R127. -/
def F.HUM_DEVICE_STATE_STATE : Field := ⟨29, 0, 3, .ro, .num 0⟩
def F.HUM_DEVICE_STATE_EXIT : Field := ⟨30, 4, 4, .wo, .num 0⟩
def F.HUM_DEVICE_STATE_LAST_EXIT : Field := ⟨31, 8, 8, .ro, .num 0⟩
def R.HUM_DEVICE_STATE : Reg := ⟨"HUM_DEVICE_STATE", 0x10100, [], [F.HUM_DEVICE_STATE_STATE, F.HUM_DEVICE_STATE_EXIT, F.HUM_DEVICE_STATE_LAST_EXIT]⟩

/-! HUM_HIB_WAKE: spec/04_hummock_clocks_sleep.md, R127. -/
def F.HUM_HIB_WAKE_TILE : Field := ⟨32, 0, 5, .rwp, .num 0⟩
def F.HUM_HIB_WAKE_LANE_MASK : Field := ⟨33, 5, 16, .rwp, .num 0⟩
def F.HUM_HIB_WAKE_PPS_WAKE : Field := ⟨34, 21, 1, .rwp, .num 0⟩
def R.HUM_HIB_WAKE : Reg := ⟨"HUM_HIB_WAKE", 0x10108, [], [F.HUM_HIB_WAKE_TILE, F.HUM_HIB_WAKE_LANE_MASK, F.HUM_HIB_WAKE_PPS_WAKE]⟩

/-! HUM_TEMP: spec/04_hummock_clocks_sleep.md, R127. -/
def F.HUM_TEMP_TJ : Field := ⟨35, 0, 11, .ro, .num 0⟩
def F.HUM_TEMP_TJ_MAX : Field := ⟨36, 11, 11, .rc, .num 0⟩
def F.HUM_TEMP_THETA : Field := ⟨37, 22, 2, .ro, .num 0⟩
def R.HUM_TEMP : Reg := ⟨"HUM_TEMP", 0x10200, [(4, 8)], [F.HUM_TEMP_TJ, F.HUM_TEMP_TJ_MAX, F.HUM_TEMP_THETA]⟩

/-! CLK_QCTRL: spec/04_hummock_clocks_sleep.md, R127. -/
def F.CLK_QCTRL_POINT : Field := ⟨38, 0, 2, .rw, .special .CLK_QCTRL_POINT⟩
def F.CLK_QCTRL_FLOOR : Field := ⟨39, 2, 2, .ro, .special .CLK_QCTRL_FLOOR⟩
def F.CLK_QCTRL_ACTUAL : Field := ⟨40, 4, 2, .ro, .special .CLK_QCTRL_ACTUAL⟩
def F.CLK_QCTRL_CHANGING : Field := ⟨41, 6, 1, .ro, .num 0⟩
def F.CLK_QCTRL_VID_SETTLE : Field := ⟨42, 8, 10, .rw, .num 100⟩
def R.CLK_QCTRL : Reg := ⟨"CLK_QCTRL", 0x20000, [(4, 8)], [F.CLK_QCTRL_POINT, F.CLK_QCTRL_FLOOR, F.CLK_QCTRL_ACTUAL, F.CLK_QCTRL_CHANGING, F.CLK_QCTRL_VID_SETTLE]⟩

/-! CLK_STATUS: spec/04_hummock_clocks_sleep.md, R127. -/
def F.CLK_STATUS_THERM_GRADIENT : Field := ⟨43, 0, 4, .w1c, .num 0⟩
def F.CLK_STATUS_RAIL_SKEW : Field := ⟨44, 4, 4, .w1c, .num 0⟩
def F.CLK_STATUS_REFCLK_LOSS : Field := ⟨45, 8, 1, .w1c, .num 0⟩
def F.CLK_STATUS_DVFS_REFUSED : Field := ⟨46, 9, 1, .w1c, .num 0⟩
def F.CLK_STATUS_HOLDOVER : Field := ⟨47, 10, 1, .ro, .num 0⟩
def F.CLK_STATUS_HOLDOVER_EXPIRED : Field := ⟨48, 11, 1, .w1c, .num 0⟩
def F.CLK_STATUS_GRADIENT_ACTIVE : Field := ⟨49, 12, 4, .ro, .num 0⟩
def R.CLK_STATUS : Reg := ⟨"CLK_STATUS", 0x20040, [], [F.CLK_STATUS_THERM_GRADIENT, F.CLK_STATUS_RAIL_SKEW, F.CLK_STATUS_REFCLK_LOSS, F.CLK_STATUS_DVFS_REFUSED, F.CLK_STATUS_HOLDOVER, F.CLK_STATUS_HOLDOVER_EXPIRED, F.CLK_STATUS_GRADIENT_ACTIVE]⟩

/-! NVM_STATUS: spec/03_startup_reset_nvm.md, R96. -/
def F.NVM_STATUS_BUSY : Field := ⟨50, 0, 1, .ro, .num 0⟩
def F.NVM_STATUS_FAIL : Field := ⟨51, 1, 1, .ro, .num 0⟩
def F.NVM_STATUS_WEAR : Field := ⟨52, 2, 1, .ro, .num 0⟩
def F.NVM_STATUS_UNCORR : Field := ⟨53, 3, 1, .w1c, .num 0⟩
def F.NVM_STATUS_PARAM_VALID : Field := ⟨54, 4, 1, .ro, .num 0⟩
def F.NVM_STATUS_PARAM_COPY : Field := ⟨55, 5, 1, .ro, .num 0⟩
def F.NVM_STATUS_PARAM_SERIAL : Field := ⟨56, 6, 1, .ro, .num 0⟩
def F.NVM_STATUS_LAST_STATUS : Field := ⟨57, 8, 8, .ro, .num 0⟩
def F.NVM_STATUS_PARAM_SKIPPED : Field := ⟨58, 16, 16, .ro, .num 0⟩
def F.NVM_STATUS_CORRECTED : Field := ⟨59, 32, 16, .rc, .num 0⟩
def R.NVM_STATUS : Reg := ⟨"NVM_STATUS", 0x30000, [], [F.NVM_STATUS_BUSY, F.NVM_STATUS_FAIL, F.NVM_STATUS_WEAR, F.NVM_STATUS_UNCORR, F.NVM_STATUS_PARAM_VALID, F.NVM_STATUS_PARAM_COPY, F.NVM_STATUS_PARAM_SERIAL, F.NVM_STATUS_LAST_STATUS, F.NVM_STATUS_PARAM_SKIPPED, F.NVM_STATUS_CORRECTED]⟩

/-! NVM_WCOUNT: spec/03_startup_reset_nvm.md, R96. -/
def F.NVM_WCOUNT_STORES : Field := ⟨60, 0, 40, .ro, .special .NVM_WCOUNT_STORES⟩
def R.NVM_WCOUNT : Reg := ⟨"NVM_WCOUNT", 0x30100, [(8, 8)], [F.NVM_WCOUNT_STORES]⟩

/-! FWM_CMD: spec/20_host_interface.md, R528. -/
def F.FWM_CMD_OPCODE : Field := ⟨61, 0, 8, .rw, .num 0⟩
def F.FWM_CMD_TAG : Field := ⟨62, 16, 16, .rw, .num 0⟩
def R.FWM_CMD : Reg := ⟨"FWM_CMD", 0x40000, [], [F.FWM_CMD_OPCODE, F.FWM_CMD_TAG]⟩

/-! FWM_ARG: spec/20_host_interface.md, R528. -/
def F.FWM_ARG_ARG : Field := ⟨63, 0, 64, .rw, .num 0⟩
def R.FWM_ARG : Reg := ⟨"FWM_ARG", 0x40008, [(4, 8)], [F.FWM_ARG_ARG]⟩

/-! FWM_DOORBELL: spec/20_host_interface.md, R528. -/
def F.FWM_DOORBELL_RING : Field := ⟨64, 0, 1, .wo, .num 0⟩
def R.FWM_DOORBELL : Reg := ⟨"FWM_DOORBELL", 0x40028, [], [F.FWM_DOORBELL_RING]⟩

/-! FWM_STATUS: spec/20_host_interface.md, R528. -/
def F.FWM_STATUS_SLOT_BUSY : Field := ⟨65, 0, 1, .ro, .num 0⟩
def F.FWM_STATUS_RESP_COUNT : Field := ⟨66, 1, 5, .ro, .num 0⟩
def F.FWM_STATUS_CADDIS_ASLEEP : Field := ⟨67, 6, 1, .ro, .num 0⟩
def R.FWM_STATUS : Reg := ⟨"FWM_STATUS", 0x40030, [], [F.FWM_STATUS_SLOT_BUSY, F.FWM_STATUS_RESP_COUNT, F.FWM_STATUS_CADDIS_ASLEEP]⟩

/-! FWM_RESP_0: spec/20_host_interface.md, R528. -/
def F.FWM_RESP_0_OPCODE : Field := ⟨68, 0, 8, .ro, .num 0⟩
def F.FWM_RESP_0_STATUS : Field := ⟨69, 8, 8, .ro, .num 0⟩
def F.FWM_RESP_0_RESULT : Field := ⟨70, 16, 8, .ro, .num 0⟩
def F.FWM_RESP_0_TAG : Field := ⟨71, 24, 16, .ro, .num 0⟩
def F.FWM_RESP_0_VALID : Field := ⟨72, 63, 1, .ro, .num 0⟩
def R.FWM_RESP_0 : Reg := ⟨"FWM_RESP_0", 0x40038, [], [F.FWM_RESP_0_OPCODE, F.FWM_RESP_0_STATUS, F.FWM_RESP_0_RESULT, F.FWM_RESP_0_TAG, F.FWM_RESP_0_VALID]⟩

/-! FWM_RESP_1: spec/20_host_interface.md, R528. -/
def F.FWM_RESP_1_DATA : Field := ⟨73, 0, 64, .ro, .num 0⟩
def R.FWM_RESP_1 : Reg := ⟨"FWM_RESP_1", 0x40040, [], [F.FWM_RESP_1_DATA]⟩

/-! FWM_RESP_POP: spec/20_host_interface.md, R528. -/
def F.FWM_RESP_POP_POP : Field := ⟨74, 0, 1, .wo, .num 0⟩
def R.FWM_RESP_POP : Reg := ⟨"FWM_RESP_POP", 0x40048, [], [F.FWM_RESP_POP_POP]⟩

/-! PTL_STATUS: spec/02_peat_images.md, R63. -/
def F.PTL_STATUS_RESULT_A : Field := ⟨75, 0, 4, .ro, .num 0⟩
def F.PTL_STATUS_RESULT_B : Field := ⟨76, 4, 4, .ro, .num 0⟩
def F.PTL_STATUS_ACTIVE : Field := ⟨77, 8, 2, .ro, .num 2⟩
def F.PTL_STATUS_FAIL_LAYER : Field := ⟨78, 16, 8, .ro, .num 0⟩
def F.PTL_STATUS_LAST_RESULT : Field := ⟨79, 24, 4, .ro, .num 0⟩
def R.PTL_STATUS : Reg := ⟨"PTL_STATUS", 0x50000, [], [F.PTL_STATUS_RESULT_A, F.PTL_STATUS_RESULT_B, F.PTL_STATUS_ACTIVE, F.PTL_STATUS_FAIL_LAYER, F.PTL_STATUS_LAST_RESULT]⟩

/-! PTL_ACTIVE_SERIAL: spec/02_peat_images.md, R63. -/
def F.PTL_ACTIVE_SERIAL_SERIAL : Field := ⟨80, 0, 64, .ro, .num 0⟩
def R.PTL_ACTIVE_SERIAL : Reg := ⟨"PTL_ACTIVE_SERIAL", 0x50008, [], [F.PTL_ACTIVE_SERIAL_SERIAL]⟩

/-! PTL_SWAP: spec/02_peat_images.md, R63. -/
def F.PTL_SWAP_BUSY : Field := ⟨81, 0, 1, .ro, .num 0⟩
def F.PTL_SWAP_DONE : Field := ⟨82, 1, 1, .w1c, .num 0⟩
def F.PTL_SWAP_QUIESCING : Field := ⟨83, 2, 1, .ro, .num 0⟩
def F.PTL_SWAP_QUADRANT : Field := ⟨84, 3, 2, .ro, .num 0⟩
def F.PTL_SWAP_LAYER : Field := ⟨85, 8, 8, .ro, .num 0⟩
def F.PTL_SWAP_PENDING_TILES : Field := ⟨86, 32, 32, .ro, .num 0⟩
def R.PTL_SWAP : Reg := ⟨"PTL_SWAP", 0x50010, [], [F.PTL_SWAP_BUSY, F.PTL_SWAP_DONE, F.PTL_SWAP_QUIESCING, F.PTL_SWAP_QUADRANT, F.PTL_SWAP_LAYER, F.PTL_SWAP_PENDING_TILES]⟩

/-! PTL_CLAIM_ERR: spec/02_peat_images.md, R63. -/
def F.PTL_CLAIM_ERR_VALID : Field := ⟨87, 0, 1, .w1c, .num 0⟩
def F.PTL_CLAIM_ERR_KIND : Field := ⟨88, 4, 4, .ro, .num 0⟩
def F.PTL_CLAIM_ERR_INDEX : Field := ⟨89, 8, 24, .ro, .num 0⟩
def F.PTL_CLAIM_ERR_COUNT : Field := ⟨90, 32, 8, .ro, .num 0⟩
def F.PTL_CLAIM_ERR_MASTER : Field := ⟨91, 40, 8, .ro, .num 0⟩
def R.PTL_CLAIM_ERR : Reg := ⟨"PTL_CLAIM_ERR", 0x50018, [], [F.PTL_CLAIM_ERR_VALID, F.PTL_CLAIM_ERR_KIND, F.PTL_CLAIM_ERR_INDEX, F.PTL_CLAIM_ERR_COUNT, F.PTL_CLAIM_ERR_MASTER]⟩

/-! HST_RING_BASE: spec/20_host_interface.md, R528. -/
def F.HST_RING_BASE_ADDR : Field := ⟨92, 0, 64, .rw, .num 0⟩
def R.HST_RING_BASE : Reg := ⟨"HST_RING_BASE", 0x60000, [(2, 2048), (32, 64)], [F.HST_RING_BASE_ADDR]⟩

/-! HST_RING_CTRL: spec/20_host_interface.md, R528. -/
def F.HST_RING_CTRL_ENABLE : Field := ⟨93, 0, 1, .rw, .num 0⟩
def F.HST_RING_CTRL_LOG2_SIZE : Field := ⟨94, 1, 5, .rw, .num 10⟩
def F.HST_RING_CTRL_BUF_SIZE : Field := ⟨95, 6, 14, .rw, .num 2048⟩
def F.HST_RING_CTRL_ITR_COUNT : Field := ⟨96, 20, 8, .rw, .num 1⟩
def F.HST_RING_CTRL_ITR_US : Field := ⟨97, 28, 10, .rw, .num 0⟩
def F.HST_RING_CTRL_OWNER : Field := ⟨98, 60, 2, .ro, .special .HST_RING_CTRL_OWNER⟩
def F.HST_RING_CTRL_OWNED : Field := ⟨99, 62, 1, .ro, .special .HST_RING_CTRL_OWNED⟩
def R.HST_RING_CTRL : Reg := ⟨"HST_RING_CTRL", 0x60008, [(2, 2048), (32, 64)], [F.HST_RING_CTRL_ENABLE, F.HST_RING_CTRL_LOG2_SIZE, F.HST_RING_CTRL_BUF_SIZE, F.HST_RING_CTRL_ITR_COUNT, F.HST_RING_CTRL_ITR_US, F.HST_RING_CTRL_OWNER, F.HST_RING_CTRL_OWNED]⟩

/-! HST_RING_TAIL: spec/20_host_interface.md, R528. -/
def F.HST_RING_TAIL_TAIL : Field := ⟨100, 0, 16, .rw, .num 0⟩
def R.HST_RING_TAIL : Reg := ⟨"HST_RING_TAIL", 0x60010, [(2, 2048), (32, 64)], [F.HST_RING_TAIL_TAIL]⟩

/-! HST_RING_HEAD: spec/20_host_interface.md, R528. -/
def F.HST_RING_HEAD_HEAD : Field := ⟨101, 0, 16, .ro, .num 0⟩
def F.HST_RING_HEAD_CPL_HEAD : Field := ⟨102, 16, 16, .ro, .num 0⟩
def R.HST_RING_HEAD : Reg := ⟨"HST_RING_HEAD", 0x60018, [(2, 2048), (32, 64)], [F.HST_RING_HEAD_HEAD, F.HST_RING_HEAD_CPL_HEAD]⟩

/-! HST_RING_CPL_BASE: spec/20_host_interface.md, R528. -/
def F.HST_RING_CPL_BASE_ADDR : Field := ⟨103, 0, 64, .rw, .num 0⟩
def R.HST_RING_CPL_BASE : Reg := ⟨"HST_RING_CPL_BASE", 0x60020, [(2, 2048), (32, 64)], [F.HST_RING_CPL_BASE_ADDR]⟩

/-! HST_RING_CPL_TAIL: spec/20_host_interface.md, R528. -/
def F.HST_RING_CPL_TAIL_CPL_TAIL : Field := ⟨104, 0, 16, .rw, .num 0⟩
def R.HST_RING_CPL_TAIL : Reg := ⟨"HST_RING_CPL_TAIL", 0x60028, [(2, 2048), (32, 64)], [F.HST_RING_CPL_TAIL_CPL_TAIL]⟩

/-! HST_RING_WB: spec/20_host_interface.md, R528. -/
def F.HST_RING_WB_ADDR : Field := ⟨105, 0, 64, .rw, .num 0⟩
def R.HST_RING_WB : Reg := ⟨"HST_RING_WB", 0x60030, [(2, 2048), (32, 64)], [F.HST_RING_WB_ADDR]⟩

/-! HST_RING_EVENT: spec/20_host_interface.md, R528. -/
def F.HST_RING_EVENT_DMA_ERR : Field := ⟨106, 0, 1, .w1c, .num 0⟩
def F.HST_RING_EVENT_BAD_DESC : Field := ⟨107, 1, 1, .w1c, .num 0⟩
def F.HST_RING_EVENT_DOORBELL_LOST : Field := ⟨108, 2, 1, .w1c, .num 0⟩
def R.HST_RING_EVENT : Reg := ⟨"HST_RING_EVENT", 0x60038, [(2, 2048), (32, 64)], [F.HST_RING_EVENT_DMA_ERR, F.HST_RING_EVENT_BAD_DESC, F.HST_RING_EVENT_DOORBELL_LOST]⟩

/-! HST_INT_CAUSE: spec/20_host_interface.md, R519. -/
def F.HST_INT_CAUSE_CAUSE : Field := ⟨109, 0, 64, .w1c, .num 0⟩
def R.HST_INT_CAUSE : Reg := ⟨"HST_INT_CAUSE", 0x61000, [(2, 8)], [F.HST_INT_CAUSE_CAUSE]⟩

/-! HST_INT_MASK: spec/20_host_interface.md, R519. -/
def F.HST_INT_MASK_MASK : Field := ⟨110, 0, 64, .rw, .num 0⟩
def R.HST_INT_MASK : Reg := ⟨"HST_INT_MASK", 0x61010, [(2, 8)], [F.HST_INT_MASK_MASK]⟩

/-! HST_INT_PIN: spec/20_host_interface.md, R519. -/
def F.HST_INT_PIN_PIN : Field := ⟨111, 0, 64, .rw, .num 0⟩
def R.HST_INT_PIN : Reg := ⟨"HST_INT_PIN", 0x61020, [(2, 8)], [F.HST_INT_PIN_PIN]⟩

/-! HST_TRAP_QUEUE: spec/20_host_interface.md, R528. -/
def F.HST_TRAP_QUEUE_MCAST_CTRL : Field := ⟨112, 0, 4, .rwp, .num 12⟩
def F.HST_TRAP_QUEUE_PTP : Field := ⟨113, 4, 4, .rwp, .num 15⟩
def F.HST_TRAP_QUEUE_TTL : Field := ⟨114, 8, 4, .rwp, .num 4⟩
def F.HST_TRAP_QUEUE_ROUTE : Field := ⟨115, 12, 4, .rwp, .num 8⟩
def F.HST_TRAP_QUEUE_ACL : Field := ⟨116, 16, 4, .rwp, .num 8⟩
def F.HST_TRAP_QUEUE_HOST_DEST : Field := ⟨117, 20, 4, .rwp, .num 0⟩
def R.HST_TRAP_QUEUE : Reg := ⟨"HST_TRAP_QUEUE", 0x61100, [(4, 8)], [F.HST_TRAP_QUEUE_MCAST_CTRL, F.HST_TRAP_QUEUE_PTP, F.HST_TRAP_QUEUE_TTL, F.HST_TRAP_QUEUE_ROUTE, F.HST_TRAP_QUEUE_ACL, F.HST_TRAP_QUEUE_HOST_DEST]⟩

/-! HST_PORT_CNT: spec/20_host_interface.md, R528. -/
def F.HST_PORT_CNT_COUNT : Field := ⟨118, 0, 64, .rc, .num 0⟩
def R.HST_PORT_CNT : Reg := ⟨"HST_PORT_CNT", 0x61200, [(4, 64), (7, 8)], [F.HST_PORT_CNT_COUNT]⟩

/-! FLT_MODE: spec/19_faults_sundew.md, R504. -/
def F.FLT_MODE_COLLECTOR : Field := ⟨119, 0, 8, .ro, .special .FLT_MODE_COLLECTOR⟩
def R.FLT_MODE : Reg := ⟨"FLT_MODE", 0x70000, [], [F.FLT_MODE_COLLECTOR]⟩

/-! FLT_STATUS: spec/19_faults_sundew.md, R504. -/
def F.FLT_STATUS_COUNT : Field := ⟨120, 0, 10, .ro, .num 0⟩
def F.FLT_STATUS_FIFO_OVERFLOW : Field := ⟨121, 10, 1, .w1c, .num 0⟩
def F.FLT_STATUS_CMD_REFUSED : Field := ⟨122, 11, 1, .w1c, .num 0⟩
def F.FLT_STATUS_LOST : Field := ⟨123, 32, 16, .rc, .num 0⟩
def R.FLT_STATUS : Reg := ⟨"FLT_STATUS", 0x70008, [], [F.FLT_STATUS_COUNT, F.FLT_STATUS_FIFO_OVERFLOW, F.FLT_STATUS_CMD_REFUSED, F.FLT_STATUS_LOST]⟩

/-! FLT_MSG_HI: spec/19_faults_sundew.md, R504. -/
def F.FLT_MSG_HI_MSG : Field := ⟨124, 0, 64, .ro, .num 0⟩
def R.FLT_MSG_HI : Reg := ⟨"FLT_MSG_HI", 0x70010, [], [F.FLT_MSG_HI_MSG]⟩

/-! FLT_MSG_LO: spec/19_faults_sundew.md, R504. -/
def F.FLT_MSG_LO_MSG : Field := ⟨125, 0, 64, .ro, .num 0⟩
def R.FLT_MSG_LO : Reg := ⟨"FLT_MSG_LO", 0x70018, [], [F.FLT_MSG_LO_MSG]⟩

/-! FLT_MSG_POP: spec/19_faults_sundew.md, R504. -/
def F.FLT_MSG_POP_POP : Field := ⟨126, 0, 1, .wo, .num 0⟩
def R.FLT_MSG_POP : Reg := ⟨"FLT_MSG_POP", 0x70020, [], [F.FLT_MSG_POP_POP]⟩

/-! FLT_CAP_SEL: spec/19_faults_sundew.md, R504. -/
def F.FLT_CAP_SEL_SOURCE : Field := ⟨127, 0, 10, .rw, .num 0⟩
def R.FLT_CAP_SEL : Reg := ⟨"FLT_CAP_SEL", 0x70100, [], [F.FLT_CAP_SEL_SOURCE]⟩

/-! FLT_CAP_0: spec/19_faults_sundew.md, R504. -/
def F.FLT_CAP_0_MSG : Field := ⟨128, 0, 64, .ro, .num 0⟩
def R.FLT_CAP_0 : Reg := ⟨"FLT_CAP_0", 0x70108, [], [F.FLT_CAP_0_MSG]⟩

/-! FLT_CAP_1: spec/19_faults_sundew.md, R504. -/
def F.FLT_CAP_1_MSG : Field := ⟨129, 0, 64, .ro, .num 0⟩
def R.FLT_CAP_1 : Reg := ⟨"FLT_CAP_1", 0x70110, [], [F.FLT_CAP_1_MSG]⟩

/-! FLT_CAP_2: spec/19_faults_sundew.md, R504. -/
def F.FLT_CAP_2_VALID : Field := ⟨130, 0, 1, .w1c, .num 0⟩
def F.FLT_CAP_2_IN_REACTION : Field := ⟨131, 1, 1, .ro, .num 0⟩
def F.FLT_CAP_2_MERGE : Field := ⟨132, 16, 16, .ro, .num 0⟩
def R.FLT_CAP_2 : Reg := ⟨"FLT_CAP_2", 0x70118, [], [F.FLT_CAP_2_VALID, F.FLT_CAP_2_IN_REACTION, F.FLT_CAP_2_MERGE]⟩

/-! FLT_CAP_VALID: spec/19_faults_sundew.md, R504. -/
def F.FLT_CAP_VALID_VALID : Field := ⟨133, 0, 64, .ro, .num 0⟩
def R.FLT_CAP_VALID : Reg := ⟨"FLT_CAP_VALID", 0x70200, [(16, 8)], [F.FLT_CAP_VALID_VALID]⟩

/-! FLT_FENCED: spec/19_faults_sundew.md, R504. -/
def F.FLT_FENCED_FENCED : Field := ⟨134, 0, 64, .ro, .num 0⟩
def R.FLT_FENCED : Reg := ⟨"FLT_FENCED", 0x70300, [(16, 8)], [F.FLT_FENCED_FENCED]⟩

/-! FLT_FENCE_CMD: spec/19_faults_sundew.md, R504. -/
def F.FLT_FENCE_CMD_SOURCE : Field := ⟨135, 0, 10, .wo, .num 0⟩
def F.FLT_FENCE_CMD_INDEX : Field := ⟨136, 16, 17, .wo, .num 0⟩
def F.FLT_FENCE_CMD_KEY : Field := ⟨137, 48, 16, .wo, .num 0⟩
def R.FLT_FENCE_CMD : Reg := ⟨"FLT_FENCE_CMD", 0x70400, [], [F.FLT_FENCE_CMD_SOURCE, F.FLT_FENCE_CMD_INDEX, F.FLT_FENCE_CMD_KEY]⟩

/-! FLT_LOG_CTRL: spec/19_faults_sundew.md, R504. -/
def F.FLT_LOG_CTRL_AUTO : Field := ⟨138, 0, 1, .rwp, .num 0⟩
def R.FLT_LOG_CTRL : Reg := ⟨"FLT_LOG_CTRL", 0x70500, [], [F.FLT_LOG_CTRL_AUTO]⟩

/-! FLT_LOG_STAT: spec/19_faults_sundew.md, R504. -/
def F.FLT_LOG_STAT_NEXT_LINE : Field := ⟨139, 0, 15, .ro, .special .FLT_LOG_STAT_NEXT_LINE⟩
def F.FLT_LOG_STAT_QUEUED : Field := ⟨140, 15, 7, .ro, .num 0⟩
def F.FLT_LOG_STAT_LOST : Field := ⟨141, 32, 16, .rc, .num 0⟩
def R.FLT_LOG_STAT : Reg := ⟨"FLT_LOG_STAT", 0x70508, [], [F.FLT_LOG_STAT_NEXT_LINE, F.FLT_LOG_STAT_QUEUED, F.FLT_LOG_STAT_LOST]⟩

/-! FLT_UNAVAIL: spec/19_faults_sundew.md, R504. -/
def F.FLT_UNAVAIL_MS : Field := ⟨142, 0, 48, .ro, .num 0⟩
def R.FLT_UNAVAIL : Reg := ⟨"FLT_UNAVAIL", 0x70510, [], [F.FLT_UNAVAIL_MS]⟩

/-! TIM_NOW_LO: spec/12_time_and_timestamps.md, R357. -/
def F.TIM_NOW_LO_FRAC : Field := ⟨143, 0, 32, .ro, .num 0⟩
def F.TIM_NOW_LO_NS : Field := ⟨144, 32, 32, .ro, .num 0⟩
def R.TIM_NOW_LO : Reg := ⟨"TIM_NOW_LO", 0x80000, [], [F.TIM_NOW_LO_FRAC, F.TIM_NOW_LO_NS]⟩

/-! TIM_NOW_HI: spec/12_time_and_timestamps.md, R357. -/
def F.TIM_NOW_HI_SECONDS : Field := ⟨145, 0, 48, .ro, .num 0⟩
def R.TIM_NOW_HI : Reg := ⟨"TIM_NOW_HI", 0x80008, [], [F.TIM_NOW_HI_SECONDS]⟩

/-! TIM_RATE: spec/12_time_and_timestamps.md, R357. -/
def F.TIM_RATE_RATE_ADJ : Field := ⟨146, 0, 32, .rw, .num 0⟩
def R.TIM_RATE : Reg := ⟨"TIM_RATE", 0x80010, [], [F.TIM_RATE_RATE_ADJ]⟩

/-! TIM_ADJ_ARG_NS: spec/12_time_and_timestamps.md, R357. -/
def F.TIM_ADJ_ARG_NS_NS : Field := ⟨147, 0, 30, .rw, .num 0⟩
def R.TIM_ADJ_ARG_NS : Reg := ⟨"TIM_ADJ_ARG_NS", 0x80018, [], [F.TIM_ADJ_ARG_NS_NS]⟩

/-! TIM_ADJ_ARG_S: spec/12_time_and_timestamps.md, R357. -/
def F.TIM_ADJ_ARG_S_SECONDS : Field := ⟨148, 0, 48, .rw, .num 0⟩
def R.TIM_ADJ_ARG_S : Reg := ⟨"TIM_ADJ_ARG_S", 0x80020, [], [F.TIM_ADJ_ARG_S_SECONDS]⟩

/-! TIM_ADJ_CTRL: spec/12_time_and_timestamps.md, R357. -/
def F.TIM_ADJ_CTRL_OP : Field := ⟨149, 0, 2, .wo, .num 0⟩
def F.TIM_ADJ_CTRL_BUSY : Field := ⟨150, 2, 1, .ro, .num 0⟩
def R.TIM_ADJ_CTRL : Reg := ⟨"TIM_ADJ_CTRL", 0x80028, [], [F.TIM_ADJ_CTRL_OP, F.TIM_ADJ_CTRL_BUSY]⟩

/-! TIM_EVENT: spec/12_time_and_timestamps.md, R357. -/
def F.TIM_EVENT_STEPPED : Field := ⟨151, 0, 1, .w1c, .num 0⟩
def F.TIM_EVENT_PPS_IN : Field := ⟨152, 1, 1, .w1c, .num 0⟩
def F.TIM_EVENT_PPS_IN_OVERRUN : Field := ⟨153, 2, 1, .w1c, .num 0⟩
def F.TIM_EVENT_EVT0 : Field := ⟨154, 3, 1, .w1c, .num 0⟩
def F.TIM_EVENT_EVT0_OVERRUN : Field := ⟨155, 4, 1, .w1c, .num 0⟩
def F.TIM_EVENT_EVT1 : Field := ⟨156, 5, 1, .w1c, .num 0⟩
def F.TIM_EVENT_EVT1_OVERRUN : Field := ⟨157, 6, 1, .w1c, .num 0⟩
def F.TIM_EVENT_TOD_IN : Field := ⟨158, 7, 1, .w1c, .num 0⟩
def F.TIM_EVENT_TOD_IN_ERR : Field := ⟨159, 8, 1, .w1c, .num 0⟩
def F.TIM_EVENT_ADJ_REFUSED : Field := ⟨160, 9, 1, .w1c, .num 0⟩
def R.TIM_EVENT : Reg := ⟨"TIM_EVENT", 0x80030, [], [F.TIM_EVENT_STEPPED, F.TIM_EVENT_PPS_IN, F.TIM_EVENT_PPS_IN_OVERRUN, F.TIM_EVENT_EVT0, F.TIM_EVENT_EVT0_OVERRUN, F.TIM_EVENT_EVT1, F.TIM_EVENT_EVT1_OVERRUN, F.TIM_EVENT_TOD_IN, F.TIM_EVENT_TOD_IN_ERR, F.TIM_EVENT_ADJ_REFUSED]⟩

/-! TIM_CAP_CTRL: spec/12_time_and_timestamps.md, R357. -/
def F.TIM_CAP_CTRL_PPS_IN_EDGE : Field := ⟨161, 0, 2, .rwp, .num 0⟩
def F.TIM_CAP_CTRL_EVT0_EDGE : Field := ⟨162, 2, 2, .rwp, .num 0⟩
def F.TIM_CAP_CTRL_EVT1_EDGE : Field := ⟨163, 4, 2, .rwp, .num 0⟩
def R.TIM_CAP_CTRL : Reg := ⟨"TIM_CAP_CTRL", 0x80038, [], [F.TIM_CAP_CTRL_PPS_IN_EDGE, F.TIM_CAP_CTRL_EVT0_EDGE, F.TIM_CAP_CTRL_EVT1_EDGE]⟩

/-! TIM_CAP_LO: spec/12_time_and_timestamps.md, R357. -/
def F.TIM_CAP_LO_FRAC : Field := ⟨164, 0, 32, .ro, .num 0⟩
def F.TIM_CAP_LO_NS : Field := ⟨165, 32, 32, .ro, .num 0⟩
def R.TIM_CAP_LO : Reg := ⟨"TIM_CAP_LO", 0x80040, [(3, 16)], [F.TIM_CAP_LO_FRAC, F.TIM_CAP_LO_NS]⟩

/-! TIM_CAP_HI: spec/12_time_and_timestamps.md, R357. -/
def F.TIM_CAP_HI_SECONDS : Field := ⟨166, 0, 48, .ro, .num 0⟩
def R.TIM_CAP_HI : Reg := ⟨"TIM_CAP_HI", 0x80048, [(3, 16)], [F.TIM_CAP_HI_SECONDS]⟩

/-! TIM_PPS_OUT: spec/12_time_and_timestamps.md, R357. -/
def F.TIM_PPS_OUT_PERIOD_NS : Field := ⟨167, 0, 30, .rwp, .num 1000000000⟩
def F.TIM_PPS_OUT_PHASE_NS : Field := ⟨168, 30, 30, .rwp, .num 0⟩
def F.TIM_PPS_OUT_EN : Field := ⟨169, 60, 1, .rwp, .num 0⟩
def R.TIM_PPS_OUT : Reg := ⟨"TIM_PPS_OUT", 0x80070, [], [F.TIM_PPS_OUT_PERIOD_NS, F.TIM_PPS_OUT_PHASE_NS, F.TIM_PPS_OUT_EN]⟩

/-! TIM_PPS_WIDTH: spec/12_time_and_timestamps.md, R357. -/
def F.TIM_PPS_WIDTH_WIDTH_NS : Field := ⟨170, 0, 30, .rwp, .num 100000000⟩
def R.TIM_PPS_WIDTH : Reg := ⟨"TIM_PPS_WIDTH", 0x80078, [], [F.TIM_PPS_WIDTH_WIDTH_NS]⟩

/-! TIM_TOD_OUT: spec/12_time_and_timestamps.md, R357. -/
def F.TIM_TOD_OUT_BAUD : Field := ⟨171, 0, 2, .rwp, .num 3⟩
def F.TIM_TOD_OUT_EN : Field := ⟨172, 2, 1, .rwp, .num 0⟩
def F.TIM_TOD_OUT_FLAGS : Field := ⟨173, 8, 8, .rw, .num 0⟩
def F.TIM_TOD_OUT_UTC_OFFSET : Field := ⟨174, 16, 16, .rw, .num 0⟩
def R.TIM_TOD_OUT : Reg := ⟨"TIM_TOD_OUT", 0x80080, [], [F.TIM_TOD_OUT_BAUD, F.TIM_TOD_OUT_EN, F.TIM_TOD_OUT_FLAGS, F.TIM_TOD_OUT_UTC_OFFSET]⟩

/-! TIM_TOD_IN_0: spec/12_time_and_timestamps.md, R357. -/
def F.TIM_TOD_IN_0_SECONDS : Field := ⟨175, 0, 48, .ro, .num 0⟩
def R.TIM_TOD_IN_0 : Reg := ⟨"TIM_TOD_IN_0", 0x80088, [], [F.TIM_TOD_IN_0_SECONDS]⟩

/-! TIM_TOD_IN_1: spec/12_time_and_timestamps.md, R357. -/
def F.TIM_TOD_IN_1_NS : Field := ⟨176, 0, 32, .ro, .num 0⟩
def F.TIM_TOD_IN_1_UTC_OFFSET : Field := ⟨177, 32, 16, .ro, .num 0⟩
def F.TIM_TOD_IN_1_FLAGS : Field := ⟨178, 48, 8, .ro, .num 0⟩
def R.TIM_TOD_IN_1 : Reg := ⟨"TIM_TOD_IN_1", 0x80090, [], [F.TIM_TOD_IN_1_NS, F.TIM_TOD_IN_1_UTC_OFFSET, F.TIM_TOD_IN_1_FLAGS]⟩

/-! TIM_BC_DOMAIN: spec/12_time_and_timestamps.md, R357. -/
def F.TIM_BC_DOMAIN_DOMAIN : Field := ⟨179, 0, 64, .rwp, .num 0⟩
def R.TIM_BC_DOMAIN : Reg := ⟨"TIM_BC_DOMAIN", 0x80100, [(4, 8)], [F.TIM_BC_DOMAIN_DOMAIN]⟩

/-! TIM_CNT: spec/12_time_and_timestamps.md, R357. -/
def F.TIM_CNT_COUNT : Field := ⟨180, 0, 64, .rc, .num 0⟩
def R.TIM_CNT : Reg := ⟨"TIM_CNT", 0x80200, [], [F.TIM_CNT_COUNT]⟩

/-! TIM_PORT_PTP: spec/12_time_and_timestamps.md, R357. -/
def F.TIM_PORT_PTP_TC_MODE : Field := ⟨181, 0, 2, .rwp, .num 0⟩
def F.TIM_PORT_PTP_BC_TRAP : Field := ⟨182, 2, 1, .rwp, .num 0⟩
def F.TIM_PORT_PTP_RX_ADJ : Field := ⟨183, 4, 12, .rwp, .num 0⟩
def F.TIM_PORT_PTP_TX_ADJ : Field := ⟨184, 16, 12, .rwp, .num 0⟩
def F.TIM_PORT_PTP_PEER_DELAY : Field := ⟨185, 32, 32, .rw, .num 0⟩
def R.TIM_PORT_PTP : Reg := ⟨"TIM_PORT_PTP", 0x81000, [(512, 8)], [F.TIM_PORT_PTP_TC_MODE, F.TIM_PORT_PTP_BC_TRAP, F.TIM_PORT_PTP_RX_ADJ, F.TIM_PORT_PTP_TX_ADJ, F.TIM_PORT_PTP_PEER_DELAY]⟩

/-! TUE_RING_BASE: spec/10_updates_epochs_cuts.md, R299. -/
def F.TUE_RING_BASE_ADDR : Field := ⟨186, 0, 64, .rw, .num 0⟩
def R.TUE_RING_BASE : Reg := ⟨"TUE_RING_BASE", 0x90000, [(8, 64)], [F.TUE_RING_BASE_ADDR]⟩

/-! TUE_RING_CTRL: spec/10_updates_epochs_cuts.md, R299. -/
def F.TUE_RING_CTRL_ENABLE : Field := ⟨187, 0, 1, .rw, .num 0⟩
def F.TUE_RING_CTRL_LOG2_SIZE : Field := ⟨188, 1, 5, .rw, .num 6⟩
def F.TUE_RING_CTRL_WAIT_US : Field := ⟨189, 6, 20, .rw, .num 0⟩
def R.TUE_RING_CTRL : Reg := ⟨"TUE_RING_CTRL", 0x90008, [(8, 64)], [F.TUE_RING_CTRL_ENABLE, F.TUE_RING_CTRL_LOG2_SIZE, F.TUE_RING_CTRL_WAIT_US]⟩

/-! TUE_RING_TAIL: spec/10_updates_epochs_cuts.md, R299. -/
def F.TUE_RING_TAIL_TAIL : Field := ⟨190, 0, 16, .rw, .num 0⟩
def R.TUE_RING_TAIL : Reg := ⟨"TUE_RING_TAIL", 0x90010, [(8, 64)], [F.TUE_RING_TAIL_TAIL]⟩

/-! TUE_RING_HEAD: spec/10_updates_epochs_cuts.md, R299. -/
def F.TUE_RING_HEAD_HEAD : Field := ⟨191, 0, 16, .ro, .num 0⟩
def F.TUE_RING_HEAD_IN_FLIGHT : Field := ⟨192, 16, 16, .ro, .num 0⟩
def R.TUE_RING_HEAD : Reg := ⟨"TUE_RING_HEAD", 0x90018, [(8, 64)], [F.TUE_RING_HEAD_HEAD, F.TUE_RING_HEAD_IN_FLIGHT]⟩

/-! TUE_CPL_BASE: spec/10_updates_epochs_cuts.md, R299. -/
def F.TUE_CPL_BASE_ADDR : Field := ⟨193, 0, 64, .rw, .num 0⟩
def R.TUE_CPL_BASE : Reg := ⟨"TUE_CPL_BASE", 0x90020, [(8, 64)], [F.TUE_CPL_BASE_ADDR]⟩

/-! TUE_CPL_HEAD: spec/10_updates_epochs_cuts.md, R299. -/
def F.TUE_CPL_HEAD_HEAD : Field := ⟨194, 0, 16, .ro, .num 0⟩
def R.TUE_CPL_HEAD : Reg := ⟨"TUE_CPL_HEAD", 0x90028, [(8, 64)], [F.TUE_CPL_HEAD_HEAD]⟩

/-! TUE_CPL_TAIL: spec/10_updates_epochs_cuts.md, R299. -/
def F.TUE_CPL_TAIL_TAIL : Field := ⟨195, 0, 16, .rw, .num 0⟩
def R.TUE_CPL_TAIL : Reg := ⟨"TUE_CPL_TAIL", 0x90030, [(8, 64)], [F.TUE_CPL_TAIL_TAIL]⟩

/-! TUE_EPOCH: spec/10_updates_epochs_cuts.md, R299. -/
def F.TUE_EPOCH_CURRENT : Field := ⟨196, 0, 8, .ro, .num 0⟩
def F.TUE_EPOCH_DRAINED : Field := ⟨197, 8, 8, .ro, .num 255⟩
def F.TUE_EPOCH_PENDING : Field := ⟨198, 16, 8, .ro, .num 0⟩
def F.TUE_EPOCH_OLDEST_LIVE : Field := ⟨199, 32, 32, .ro, .num 0⟩
def R.TUE_EPOCH : Reg := ⟨"TUE_EPOCH", 0x90400, [], [F.TUE_EPOCH_CURRENT, F.TUE_EPOCH_DRAINED, F.TUE_EPOCH_PENDING, F.TUE_EPOCH_OLDEST_LIVE]⟩

/-! TUE_EVENT: spec/10_updates_epochs_cuts.md, R299. -/
def F.TUE_EVENT_EPOCH_TIMEOUT : Field := ⟨200, 0, 1, .w1c, .num 0⟩
def F.TUE_EVENT_CUT_LATE : Field := ⟨201, 1, 1, .w1c, .num 0⟩
def F.TUE_EVENT_CUT_PARTIAL : Field := ⟨202, 2, 1, .w1c, .num 0⟩
def F.TUE_EVENT_WAIT_TIMEOUT : Field := ⟨203, 3, 1, .w1c, .num 0⟩
def R.TUE_EVENT : Reg := ⟨"TUE_EVENT", 0x90408, [], [F.TUE_EVENT_EPOCH_TIMEOUT, F.TUE_EVENT_CUT_LATE, F.TUE_EVENT_CUT_PARTIAL, F.TUE_EVENT_WAIT_TIMEOUT]⟩

/-! TUE_ORDER_STRICT: spec/10_updates_epochs_cuts.md, R299. -/
def F.TUE_ORDER_STRICT_PORT : Field := ⟨204, 0, 64, .rwp, .special .TUE_ORDER_STRICT_PORT⟩
def R.TUE_ORDER_STRICT : Reg := ⟨"TUE_ORDER_STRICT", 0x90500, [(9, 8)], [F.TUE_ORDER_STRICT_PORT]⟩

/-! TUE_CUT_STATUS: spec/10_updates_epochs_cuts.md, R299. -/
def F.TUE_CUT_STATUS_STATE : Field := ⟨205, 0, 2, .ro, .num 0⟩
def F.TUE_CUT_STATUS_MODE : Field := ⟨206, 2, 2, .ro, .num 0⟩
def F.TUE_CUT_STATUS_CHANGES : Field := ⟨207, 4, 7, .ro, .num 0⟩
def F.TUE_CUT_STATUS_WATCH_TILE : Field := ⟨208, 16, 5, .ro, .num 0⟩
def F.TUE_CUT_STATUS_WATCH_PORT : Field := ⟨209, 21, 10, .ro, .num 0⟩
def R.TUE_CUT_STATUS : Reg := ⟨"TUE_CUT_STATUS", 0x90800, [(256, 8)], [F.TUE_CUT_STATUS_STATE, F.TUE_CUT_STATUS_MODE, F.TUE_CUT_STATUS_CHANGES, F.TUE_CUT_STATUS_WATCH_TILE, F.TUE_CUT_STATUS_WATCH_PORT]⟩

/-! TUE_CNT: spec/10_updates_epochs_cuts.md, R299. -/
def F.TUE_CNT_COUNT : Field := ⟨210, 0, 64, .rc, .num 0⟩
def R.TUE_CNT : Reg := ⟨"TUE_CNT", 0x91000, [(4, 8)], [F.TUE_CNT_COUNT]⟩

/-! EXM_TABLE_CFG: spec/08_exact_match_learning.md, R232. -/
def F.EXM_TABLE_CFG_USED : Field := ⟨211, 0, 1, .ro, .special .EXM_TABLE_CFG_USED⟩
def F.EXM_TABLE_CFG_KIND : Field := ⟨212, 1, 3, .ro, .special .EXM_TABLE_CFG_KIND⟩
def F.EXM_TABLE_CFG_WIDE : Field := ⟨213, 4, 1, .ro, .special .EXM_TABLE_CFG_WIDE⟩
def F.EXM_TABLE_CFG_EVICT : Field := ⟨214, 5, 1, .ro, .special .EXM_TABLE_CFG_EVICT⟩
def F.EXM_TABLE_CFG_BANK_FIRST : Field := ⟨215, 6, 8, .ro, .special .EXM_TABLE_CFG_BANK_FIRST⟩
def F.EXM_TABLE_CFG_BANK_COUNT : Field := ⟨216, 14, 9, .ro, .special .EXM_TABLE_CFG_BANK_COUNT⟩
def R.EXM_TABLE_CFG : Reg := ⟨"EXM_TABLE_CFG", 0xA0000, [(16, 16)], [F.EXM_TABLE_CFG_USED, F.EXM_TABLE_CFG_KIND, F.EXM_TABLE_CFG_WIDE, F.EXM_TABLE_CFG_EVICT, F.EXM_TABLE_CFG_BANK_FIRST, F.EXM_TABLE_CFG_BANK_COUNT]⟩

/-! EXM_TABLE_STAT: spec/08_exact_match_learning.md, R232. -/
def F.EXM_TABLE_STAT_ENTRIES : Field := ⟨217, 0, 23, .ro, .num 0⟩
def F.EXM_TABLE_STAT_STATIC : Field := ⟨218, 23, 23, .ro, .num 0⟩
def F.EXM_TABLE_STAT_STAMP_CLOCK : Field := ⟨219, 46, 7, .ro, .num 0⟩
def R.EXM_TABLE_STAT : Reg := ⟨"EXM_TABLE_STAT", 0xA0008, [(16, 16)], [F.EXM_TABLE_STAT_ENTRIES, F.EXM_TABLE_STAT_STATIC, F.EXM_TABLE_STAT_STAMP_CLOCK]⟩

/-! EXM_SWEEP: spec/08_exact_match_learning.md, R232. -/
def F.EXM_SWEEP_AGE_EN : Field := ⟨220, 0, 1, .rwp, .special .EXM_SWEEP_AGE_EN⟩
def F.EXM_SWEEP_PERIOD_MS : Field := ⟨221, 1, 22, .rwp, .special .EXM_SWEEP_PERIOD_MS⟩
def R.EXM_SWEEP : Reg := ⟨"EXM_SWEEP", 0xA0100, [(16, 8)], [F.EXM_SWEEP_AGE_EN, F.EXM_SWEEP_PERIOD_MS]⟩

/-! EXM_EVT_BASE: spec/08_exact_match_learning.md, R232. -/
def F.EXM_EVT_BASE_ADDR : Field := ⟨222, 0, 64, .rw, .num 0⟩
def R.EXM_EVT_BASE : Reg := ⟨"EXM_EVT_BASE", 0xA0200, [], [F.EXM_EVT_BASE_ADDR]⟩

/-! EXM_EVT_CTRL: spec/08_exact_match_learning.md, R232. -/
def F.EXM_EVT_CTRL_ENABLE : Field := ⟨223, 0, 1, .rw, .num 0⟩
def F.EXM_EVT_CTRL_LOG2_SIZE : Field := ⟨224, 1, 5, .rw, .num 10⟩
def F.EXM_EVT_CTRL_TYPE_MASK : Field := ⟨225, 6, 7, .rw, .num 127⟩
def R.EXM_EVT_CTRL : Reg := ⟨"EXM_EVT_CTRL", 0xA0208, [], [F.EXM_EVT_CTRL_ENABLE, F.EXM_EVT_CTRL_LOG2_SIZE, F.EXM_EVT_CTRL_TYPE_MASK]⟩

/-! EXM_EVT_HEAD: spec/08_exact_match_learning.md, R232. -/
def F.EXM_EVT_HEAD_HEAD : Field := ⟨226, 0, 20, .ro, .num 0⟩
def R.EXM_EVT_HEAD : Reg := ⟨"EXM_EVT_HEAD", 0xA0210, [], [F.EXM_EVT_HEAD_HEAD]⟩

/-! EXM_EVT_TAIL: spec/08_exact_match_learning.md, R232. -/
def F.EXM_EVT_TAIL_TAIL : Field := ⟨227, 0, 20, .rw, .num 0⟩
def R.EXM_EVT_TAIL : Reg := ⟨"EXM_EVT_TAIL", 0xA0218, [], [F.EXM_EVT_TAIL_TAIL]⟩

/-! EXM_EVENT: spec/08_exact_match_learning.md, R232. -/
def F.EXM_EVENT_EVT_OVERFLOW : Field := ⟨228, 0, 1, .w1c, .num 0⟩
def F.EXM_EVENT_SWEEP_REFUSED : Field := ⟨229, 1, 1, .w1c, .num 0⟩
def F.EXM_EVENT_BANK_TAKEOVER : Field := ⟨230, 2, 1, .w1c, .num 0⟩
def F.EXM_EVENT_SPARES_OUT : Field := ⟨231, 3, 1, .w1c, .num 0⟩
def F.EXM_EVENT_RECOUNT : Field := ⟨232, 4, 1, .ro, .num 0⟩
def F.EXM_EVENT_LEARN_QUEUE_FULL : Field := ⟨233, 5, 1, .w1c, .num 0⟩
def F.EXM_EVENT_PORT_TABLE_REFUSED : Field := ⟨234, 6, 1, .w1c, .num 0⟩
def R.EXM_EVENT : Reg := ⟨"EXM_EVENT", 0xA0220, [], [F.EXM_EVENT_EVT_OVERFLOW, F.EXM_EVENT_SWEEP_REFUSED, F.EXM_EVENT_BANK_TAKEOVER, F.EXM_EVENT_SPARES_OUT, F.EXM_EVENT_RECOUNT, F.EXM_EVENT_LEARN_QUEUE_FULL, F.EXM_EVENT_PORT_TABLE_REFUSED]⟩

/-! EXM_BANK_MAP: spec/08_exact_match_learning.md, R232. -/
def F.EXM_BANK_MAP_IN_USE : Field := ⟨235, 0, 1, .ro, .num 0⟩
def F.EXM_BANK_MAP_BANK : Field := ⟨236, 1, 9, .ro, .num 0⟩
def R.EXM_BANK_MAP : Reg := ⟨"EXM_BANK_MAP", 0xA0300, [(8, 8)], [F.EXM_BANK_MAP_IN_USE, F.EXM_BANK_MAP_BANK]⟩

/-! EXM_CNT: spec/08_exact_match_learning.md, R232. -/
def F.EXM_CNT_COUNT : Field := ⟨237, 0, 64, .rc, .num 0⟩
def R.EXM_CNT : Reg := ⟨"EXM_CNT", 0xA0400, [(8, 8)], [F.EXM_CNT_COUNT]⟩

/-! EXM_PORT_LEARN: spec/08_exact_match_learning.md, R232. -/
def F.EXM_PORT_LEARN_LEARN_EN : Field := ⟨238, 0, 1, .rwp, .num 0⟩
def F.EXM_PORT_LEARN_LIMIT_DROP : Field := ⟨239, 1, 1, .rwp, .num 0⟩
def F.EXM_PORT_LEARN_MOVE_EN : Field := ⟨240, 2, 1, .rwp, .num 1⟩
def F.EXM_PORT_LEARN_DEFAULT_FID : Field := ⟨241, 4, 12, .rwp, .num 1⟩
def F.EXM_PORT_LEARN_LIMIT : Field := ⟨242, 16, 23, .rwp, .num 0⟩
def F.EXM_PORT_LEARN_COUNT : Field := ⟨243, 39, 23, .ro, .num 0⟩
def R.EXM_PORT_LEARN : Reg := ⟨"EXM_PORT_LEARN", 0xA1000, [(516, 8)], [F.EXM_PORT_LEARN_LEARN_EN, F.EXM_PORT_LEARN_LIMIT_DROP, F.EXM_PORT_LEARN_MOVE_EN, F.EXM_PORT_LEARN_DEFAULT_FID, F.EXM_PORT_LEARN_LIMIT, F.EXM_PORT_LEARN_COUNT]⟩

/-! EXM_PORT_TABLES: spec/08_exact_match_learning.md, R232. -/
def F.EXM_PORT_TABLES_FDB_T : Field := ⟨244, 0, 4, .rwp, .special .EXM_PORT_TABLES_FDB_T⟩
def F.EXM_PORT_TABLES_FDB_EN : Field := ⟨245, 4, 1, .rwp, .special .EXM_PORT_TABLES_FDB_EN⟩
def F.EXM_PORT_TABLES_HR4_T : Field := ⟨246, 5, 4, .rwp, .special .EXM_PORT_TABLES_HR4_T⟩
def F.EXM_PORT_TABLES_HR4_EN : Field := ⟨247, 9, 1, .rwp, .special .EXM_PORT_TABLES_HR4_EN⟩
def F.EXM_PORT_TABLES_HR6_T : Field := ⟨248, 10, 4, .rwp, .special .EXM_PORT_TABLES_HR6_T⟩
def F.EXM_PORT_TABLES_HR6_EN : Field := ⟨249, 14, 1, .rwp, .special .EXM_PORT_TABLES_HR6_EN⟩
def F.EXM_PORT_TABLES_SG4_T : Field := ⟨250, 15, 4, .rwp, .special .EXM_PORT_TABLES_SG4_T⟩
def F.EXM_PORT_TABLES_SG4_EN : Field := ⟨251, 19, 1, .rwp, .special .EXM_PORT_TABLES_SG4_EN⟩
def F.EXM_PORT_TABLES_SG6_T : Field := ⟨252, 20, 4, .rwp, .special .EXM_PORT_TABLES_SG6_T⟩
def F.EXM_PORT_TABLES_SG6_EN : Field := ⟨253, 24, 1, .rwp, .special .EXM_PORT_TABLES_SG6_EN⟩
def F.EXM_PORT_TABLES_SID_T : Field := ⟨254, 25, 4, .rwp, .special .EXM_PORT_TABLES_SID_T⟩
def F.EXM_PORT_TABLES_SID_EN : Field := ⟨255, 29, 1, .rwp, .special .EXM_PORT_TABLES_SID_EN⟩
def F.EXM_PORT_TABLES_SIDW_T : Field := ⟨256, 30, 4, .rwp, .special .EXM_PORT_TABLES_SIDW_T⟩
def F.EXM_PORT_TABLES_SIDW_EN : Field := ⟨257, 34, 1, .rwp, .special .EXM_PORT_TABLES_SIDW_EN⟩
def F.EXM_PORT_TABLES_MRG_T : Field := ⟨258, 35, 4, .rwp, .special .EXM_PORT_TABLES_MRG_T⟩
def F.EXM_PORT_TABLES_MRG_EN : Field := ⟨259, 39, 1, .rwp, .special .EXM_PORT_TABLES_MRG_EN⟩
def F.EXM_PORT_TABLES_MTR_T : Field := ⟨260, 40, 4, .rwp, .special .EXM_PORT_TABLES_MTR_T⟩
def F.EXM_PORT_TABLES_MTR_EN : Field := ⟨261, 44, 1, .rwp, .special .EXM_PORT_TABLES_MTR_EN⟩
def F.EXM_PORT_TABLES_SID_MODE : Field := ⟨262, 45, 2, .rwp, .num 0⟩
def R.EXM_PORT_TABLES : Reg := ⟨"EXM_PORT_TABLES", 0xA3000, [(516, 8)], [F.EXM_PORT_TABLES_FDB_T, F.EXM_PORT_TABLES_FDB_EN, F.EXM_PORT_TABLES_HR4_T, F.EXM_PORT_TABLES_HR4_EN, F.EXM_PORT_TABLES_HR6_T, F.EXM_PORT_TABLES_HR6_EN, F.EXM_PORT_TABLES_SG4_T, F.EXM_PORT_TABLES_SG4_EN, F.EXM_PORT_TABLES_SG6_T, F.EXM_PORT_TABLES_SG6_EN, F.EXM_PORT_TABLES_SID_T, F.EXM_PORT_TABLES_SID_EN, F.EXM_PORT_TABLES_SIDW_T, F.EXM_PORT_TABLES_SIDW_EN, F.EXM_PORT_TABLES_MRG_T, F.EXM_PORT_TABLES_MRG_EN, F.EXM_PORT_TABLES_MTR_T, F.EXM_PORT_TABLES_MTR_EN, F.EXM_PORT_TABLES_SID_MODE]⟩

/-! MCR_CNT: spec/21_register_map.md, R537. -/
def F.MCR_CNT_COUNT : Field := ⟨263, 0, 64, .rc, .num 0⟩
def R.MCR_CNT : Reg := ⟨"MCR_CNT", 0xB0000, [(4, 32), (3, 8)], [F.MCR_CNT_COUNT]⟩

/-! MRG_CNT: spec/14_merge_and_yarro_ring.md, R405. -/
def F.MRG_CNT_COUNT : Field := ⟨264, 0, 64, .rc, .num 0⟩
def R.MRG_CNT : Reg := ⟨"MRG_CNT", 0xC0000, [(4, 64), (6, 8)], [F.MRG_CNT_COUNT]⟩

/-! MRG_EVENT: spec/14_merge_and_yarro_ring.md, R405. -/
def F.MRG_EVENT_ROGUE : Field := ⟨265, 0, 1, .w1c, .num 0⟩
def F.MRG_EVENT_SSRC_BAD : Field := ⟨266, 1, 1, .w1c, .num 0⟩
def F.MRG_EVENT_UNCHECKED : Field := ⟨267, 2, 1, .w1c, .num 0⟩
def R.MRG_EVENT : Reg := ⟨"MRG_EVENT", 0xC0100, [], [F.MRG_EVENT_ROGUE, F.MRG_EVENT_SSRC_BAD, F.MRG_EVENT_UNCHECKED]⟩

/-! RNG_GROUP_CFG: spec/14_merge_and_yarro_ring.md, R405. -/
def F.RNG_GROUP_CFG_MEMBER : Field := ⟨268, 0, 1, .ro, .special .RNG_GROUP_CFG_MEMBER⟩
def F.RNG_GROUP_CFG_RING_ID : Field := ⟨269, 1, 4, .ro, .special .RNG_GROUP_CFG_RING_ID⟩
def F.RNG_GROUP_CFG_NODE_ID : Field := ⟨270, 5, 16, .ro, .special .RNG_GROUP_CFG_NODE_ID⟩
def F.RNG_GROUP_CFG_ETHERTYPE : Field := ⟨271, 21, 16, .ro, .special .RNG_GROUP_CFG_ETHERTYPE⟩
def R.RNG_GROUP_CFG : Reg := ⟨"RNG_GROUP_CFG", 0xD0000, [(4, 64)], [F.RNG_GROUP_CFG_MEMBER, F.RNG_GROUP_CFG_RING_ID, F.RNG_GROUP_CFG_NODE_ID, F.RNG_GROUP_CFG_ETHERTYPE]⟩

/-! RNG_GROUP_CTX: spec/14_merge_and_yarro_ring.md, R405. -/
def F.RNG_GROUP_CTX_CTX_BASE : Field := ⟨272, 0, 16, .rwp, .num 0⟩
def F.RNG_GROUP_CTX_NODE_LOW : Field := ⟨273, 16, 16, .rwp, .num 0⟩
def F.RNG_GROUP_CTX_NODE_COUNT : Field := ⟨274, 32, 17, .rwp, .num 0⟩
def R.RNG_GROUP_CTX : Reg := ⟨"RNG_GROUP_CTX", 0xD0008, [(4, 64)], [F.RNG_GROUP_CTX_CTX_BASE, F.RNG_GROUP_CTX_NODE_LOW, F.RNG_GROUP_CTX_NODE_COUNT]⟩

/-! RNG_GROUP_STATUS: spec/14_merge_and_yarro_ring.md, R405. -/
def F.RNG_GROUP_STATUS_JOINED : Field := ⟨275, 0, 1, .ro, .num 0⟩
def F.RNG_GROUP_STATUS_EAST_UP : Field := ⟨276, 1, 1, .ro, .num 0⟩
def F.RNG_GROUP_STATUS_WEST_UP : Field := ⟨277, 2, 1, .ro, .num 0⟩
def F.RNG_GROUP_STATUS_NEXT_SEQ : Field := ⟨278, 16, 16, .ro, .num 0⟩
def F.RNG_GROUP_STATUS_EAST_NEIGHBOUR : Field := ⟨279, 32, 16, .ro, .num 0⟩
def F.RNG_GROUP_STATUS_WEST_NEIGHBOUR : Field := ⟨280, 48, 16, .ro, .num 0⟩
def R.RNG_GROUP_STATUS : Reg := ⟨"RNG_GROUP_STATUS", 0xD0010, [(4, 64)], [F.RNG_GROUP_STATUS_JOINED, F.RNG_GROUP_STATUS_EAST_UP, F.RNG_GROUP_STATUS_WEST_UP, F.RNG_GROUP_STATUS_NEXT_SEQ, F.RNG_GROUP_STATUS_EAST_NEIGHBOUR, F.RNG_GROUP_STATUS_WEST_NEIGHBOUR]⟩

/-! RNG_PROBE: spec/14_merge_and_yarro_ring.md, R405. -/
def F.RNG_PROBE_PERIOD_MS : Field := ⟨281, 0, 14, .rwp, .num 100⟩
def F.RNG_PROBE_LINK_DEFAULT_NS : Field := ⟨282, 14, 32, .rwp, .num 50000⟩
def R.RNG_PROBE : Reg := ⟨"RNG_PROBE", 0xD0018, [(4, 64)], [F.RNG_PROBE_PERIOD_MS, F.RNG_PROBE_LINK_DEFAULT_NS]⟩

/-! RNG_SPAN: spec/14_merge_and_yarro_ring.md, R405. -/
def F.RNG_SPAN_DELAY_NS : Field := ⟨283, 0, 32, .ro, .special .RNG_SPAN_DELAY_NS⟩
def F.RNG_SPAN_VALID : Field := ⟨284, 32, 1, .ro, .num 0⟩
def R.RNG_SPAN : Reg := ⟨"RNG_SPAN", 0xD0020, [(4, 64), (2, 8)], [F.RNG_SPAN_DELAY_NS, F.RNG_SPAN_VALID]⟩

/-! RNG_CNT: spec/14_merge_and_yarro_ring.md, R405. -/
def F.RNG_CNT_COUNT : Field := ⟨285, 0, 64, .rc, .num 0⟩
def R.RNG_CNT : Reg := ⟨"RNG_CNT", 0xD0100, [(4, 64), (6, 8)], [F.RNG_CNT_COUNT]⟩

/-! RNG_EVENT: spec/14_merge_and_yarro_ring.md, R405. -/
def F.RNG_EVENT_SPAN_CHANGE : Field := ⟨286, 0, 4, .w1c, .num 0⟩
def F.RNG_EVENT_BAD_TAG : Field := ⟨287, 4, 4, .w1c, .num 0⟩
def F.RNG_EVENT_CFG_REFUSED : Field := ⟨288, 8, 1, .w1c, .num 0⟩
def R.RNG_EVENT : Reg := ⟨"RNG_EVENT", 0xD0200, [], [F.RNG_EVENT_SPAN_CHANGE, F.RNG_EVENT_BAD_TAG, F.RNG_EVENT_CFG_REFUSED]⟩

/-! CSW_STATUS: spec/06_optics_lasers_causeway.md, R182. -/
def F.CSW_STATUS_STATE : Field := ⟨289, 0, 2, .ro, .num 0⟩
def F.CSW_STATUS_PRESENT : Field := ⟨290, 2, 1, .ro, .special .CSW_STATUS_PRESENT⟩
def F.CSW_STATUS_MEMBER : Field := ⟨291, 3, 1, .ro, .special .CSW_STATUS_MEMBER⟩
def F.CSW_STATUS_JOINED : Field := ⟨292, 4, 1, .ro, .num 0⟩
def F.CSW_STATUS_CLOSE_CAUSE : Field := ⟨293, 8, 4, .ro, .num 0⟩
def F.CSW_STATUS_CHANGES : Field := ⟨294, 16, 32, .ro, .num 0⟩
def R.CSW_STATUS : Reg := ⟨"CSW_STATUS", 0xE0000, [(4, 8)], [F.CSW_STATUS_STATE, F.CSW_STATUS_PRESENT, F.CSW_STATUS_MEMBER, F.CSW_STATUS_JOINED, F.CSW_STATUS_CLOSE_CAUSE, F.CSW_STATUS_CHANGES]⟩

/-! CSW_EVENT: spec/06_optics_lasers_causeway.md, R182. -/
def F.CSW_EVENT_STATE_CHANGE : Field := ⟨295, 0, 4, .w1c, .num 0⟩
def F.CSW_EVENT_ELEMENT_FAULT : Field := ⟨296, 4, 4, .w1c, .num 0⟩
def R.CSW_EVENT : Reg := ⟨"CSW_EVENT", 0xE0040, [], [F.CSW_EVENT_STATE_CHANGE, F.CSW_EVENT_ELEMENT_FAULT]⟩

/-! DRC_CFG: spec/17_dram_deep_buffer.md, R472. -/
def F.DRC_CFG_SR_EN : Field := ⟨297, 0, 1, .rwp, .num 0⟩
def F.DRC_CFG_SR_IDLE_US : Field := ⟨298, 1, 20, .rwp, .num 1000⟩
def F.DRC_CFG_PD_IDLE_NS : Field := ⟨299, 21, 12, .rwp, .num 1000⟩
def F.DRC_CFG_TRAIN_PERIOD_S : Field := ⟨300, 33, 16, .rwp, .num 3600⟩
def R.DRC_CFG : Reg := ⟨"DRC_CFG", 0x100000, [(2, 65536)], [F.DRC_CFG_SR_EN, F.DRC_CFG_SR_IDLE_US, F.DRC_CFG_PD_IDLE_NS, F.DRC_CFG_TRAIN_PERIOD_S]⟩

/-! DRC_STATUS: spec/17_dram_deep_buffer.md, R472. -/
def F.DRC_STATUS_STATE : Field := ⟨301, 0, 3, .ro, .num 0⟩
def F.DRC_STATUS_FENCED : Field := ⟨302, 3, 1, .ro, .num 0⟩
def F.DRC_STATUS_TEMP : Field := ⟨303, 4, 8, .ro, .num 0⟩
def F.DRC_STATUS_REFRESH : Field := ⟨304, 12, 2, .ro, .num 0⟩
def F.DRC_STATUS_PCS_DOWN : Field := ⟨305, 14, 6, .ro, .num 0⟩
def R.DRC_STATUS : Reg := ⟨"DRC_STATUS", 0x100008, [(2, 65536)], [F.DRC_STATUS_STATE, F.DRC_STATUS_FENCED, F.DRC_STATUS_TEMP, F.DRC_STATUS_REFRESH, F.DRC_STATUS_PCS_DOWN]⟩

/-! DRC_SHARE: spec/17_dram_deep_buffer.md, R472. -/
def F.DRC_SHARE_FIRST_MIB : Field := ⟨306, 0, 15, .ro, .special .DRC_SHARE_FIRST_MIB⟩
def F.DRC_SHARE_COUNT_MIB : Field := ⟨307, 15, 15, .ro, .special .DRC_SHARE_COUNT_MIB⟩
def R.DRC_SHARE : Reg := ⟨"DRC_SHARE", 0x100010, [(2, 65536), (5, 8)], [F.DRC_SHARE_FIRST_MIB, F.DRC_SHARE_COUNT_MIB]⟩

/-! DRC_EVENT: spec/17_dram_deep_buffer.md, R472. -/
def F.DRC_EVENT_FROZEN : Field := ⟨308, 0, 1, .w1c, .num 0⟩
def F.DRC_EVENT_CORRECTED : Field := ⟨309, 1, 1, .w1c, .num 0⟩
def F.DRC_EVENT_OVERTEMP : Field := ⟨310, 2, 1, .w1c, .num 0⟩
def F.DRC_EVENT_RETRAIN_DUE : Field := ⟨311, 3, 1, .ro, .num 0⟩
def R.DRC_EVENT : Reg := ⟨"DRC_EVENT", 0x100040, [(2, 65536)], [F.DRC_EVENT_FROZEN, F.DRC_EVENT_CORRECTED, F.DRC_EVENT_OVERTEMP, F.DRC_EVENT_RETRAIN_DUE]⟩

/-! DRC_FREEZE_0: spec/17_dram_deep_buffer.md, R472. -/
def F.DRC_FREEZE_0_CAUSE : Field := ⟨312, 0, 2, .ro, .num 0⟩
def F.DRC_FREEZE_0_PC : Field := ⟨313, 2, 5, .ro, .num 0⟩
def F.DRC_FREEZE_0_CMD : Field := ⟨314, 7, 2, .ro, .num 0⟩
def R.DRC_FREEZE_0 : Reg := ⟨"DRC_FREEZE_0", 0x100048, [(2, 65536)], [F.DRC_FREEZE_0_CAUSE, F.DRC_FREEZE_0_PC, F.DRC_FREEZE_0_CMD]⟩

/-! DRC_FREEZE_1: spec/17_dram_deep_buffer.md, R472. -/
def F.DRC_FREEZE_1_ADDR : Field := ⟨315, 0, 35, .ro, .num 0⟩
def F.DRC_FREEZE_1_NS : Field := ⟨316, 35, 29, .ro, .num 0⟩
def R.DRC_FREEZE_1 : Reg := ⟨"DRC_FREEZE_1", 0x100050, [(2, 65536)], [F.DRC_FREEZE_1_ADDR, F.DRC_FREEZE_1_NS]⟩

/-! DRC_DIAG_SEL: spec/17_dram_deep_buffer.md, R472. -/
def F.DRC_DIAG_SEL_PC : Field := ⟨317, 0, 5, .rw, .num 0⟩
def F.DRC_DIAG_SEL_ENTRY : Field := ⟨318, 5, 6, .rw, .num 0⟩
def R.DRC_DIAG_SEL : Reg := ⟨"DRC_DIAG_SEL", 0x100058, [(2, 65536)], [F.DRC_DIAG_SEL_PC, F.DRC_DIAG_SEL_ENTRY]⟩

/-! DRC_DIAG_DATA: spec/17_dram_deep_buffer.md, R472. -/
def F.DRC_DIAG_DATA_ADDR : Field := ⟨319, 0, 35, .ro, .num 0⟩
def F.DRC_DIAG_DATA_VALID : Field := ⟨320, 35, 1, .ro, .num 0⟩
def R.DRC_DIAG_DATA : Reg := ⟨"DRC_DIAG_DATA", 0x100060, [(2, 65536)], [F.DRC_DIAG_DATA_ADDR, F.DRC_DIAG_DATA_VALID]⟩

/-! DRC_CNT: spec/17_dram_deep_buffer.md, R472. -/
def F.DRC_CNT_COUNT : Field := ⟨321, 0, 64, .rc, .num 0⟩
def R.DRC_CNT : Reg := ⟨"DRC_CNT", 0x100100, [(2, 65536), (6, 8)], [F.DRC_CNT_COUNT]⟩

/-! DRC_TELEM_STAT: spec/17_dram_deep_buffer.md, R472. -/
def F.DRC_TELEM_STAT_WRITE_INDEX : Field := ⟨322, 0, 31, .ro, .num 0⟩
def F.DRC_TELEM_STAT_WRAPPED : Field := ⟨323, 31, 1, .ro, .num 0⟩
def R.DRC_TELEM_STAT : Reg := ⟨"DRC_TELEM_STAT", 0x100200, [(2, 65536)], [F.DRC_TELEM_STAT_WRITE_INDEX, F.DRC_TELEM_STAT_WRAPPED]⟩

/-! DRC_TELEM_EXPORT_ADDR: spec/17_dram_deep_buffer.md, R472. -/
def F.DRC_TELEM_EXPORT_ADDR_ADDR : Field := ⟨324, 0, 64, .rw, .num 0⟩
def R.DRC_TELEM_EXPORT_ADDR : Reg := ⟨"DRC_TELEM_EXPORT_ADDR", 0x100208, [(2, 65536)], [F.DRC_TELEM_EXPORT_ADDR_ADDR]⟩

/-! DRC_TELEM_EXPORT_CTRL: spec/17_dram_deep_buffer.md, R472. -/
def F.DRC_TELEM_EXPORT_CTRL_FIRST : Field := ⟨325, 0, 31, .rw, .num 0⟩
def F.DRC_TELEM_EXPORT_CTRL_GO : Field := ⟨326, 31, 1, .wo, .num 0⟩
def F.DRC_TELEM_EXPORT_CTRL_COUNT : Field := ⟨327, 32, 24, .rw, .num 0⟩
def F.DRC_TELEM_EXPORT_CTRL_BUSY : Field := ⟨328, 56, 1, .ro, .num 0⟩
def F.DRC_TELEM_EXPORT_CTRL_DONE : Field := ⟨329, 57, 1, .w1c, .num 0⟩
def F.DRC_TELEM_EXPORT_CTRL_ERR : Field := ⟨330, 58, 1, .w1c, .num 0⟩
def R.DRC_TELEM_EXPORT_CTRL : Reg := ⟨"DRC_TELEM_EXPORT_CTRL", 0x100210, [(2, 65536)], [F.DRC_TELEM_EXPORT_CTRL_FIRST, F.DRC_TELEM_EXPORT_CTRL_GO, F.DRC_TELEM_EXPORT_CTRL_COUNT, F.DRC_TELEM_EXPORT_CTRL_BUSY, F.DRC_TELEM_EXPORT_CTRL_DONE, F.DRC_TELEM_EXPORT_CTRL_ERR]⟩

/-! ELY_SLOT_CMD: spec/16_elytra_macsec.md, R451. -/
def F.ELY_SLOT_CMD_SWAP : Field := ⟨331, 0, 1, .wo, .num 0⟩
def F.ELY_SLOT_CMD_ZEROIZE : Field := ⟨332, 1, 1, .wo, .num 0⟩
def F.ELY_SLOT_CMD_CLEAR_STAGED : Field := ⟨333, 2, 1, .wo, .num 0⟩
def R.ELY_SLOT_CMD : Reg := ⟨"ELY_SLOT_CMD", 0x200000, [(8192, 128)], [F.ELY_SLOT_CMD_SWAP, F.ELY_SLOT_CMD_ZEROIZE, F.ELY_SLOT_CMD_CLEAR_STAGED]⟩

/-! ELY_SLOT_STATUS: spec/16_elytra_macsec.md, R451. -/
def F.ELY_SLOT_STATUS_ACT_VALID : Field := ⟨334, 0, 1, .ro, .num 0⟩
def F.ELY_SLOT_STATUS_ACT_AN : Field := ⟨335, 1, 2, .ro, .num 0⟩
def F.ELY_SLOT_STATUS_ACT_SUITE : Field := ⟨336, 3, 2, .ro, .num 0⟩
def F.ELY_SLOT_STATUS_STG_READY : Field := ⟨337, 5, 1, .ro, .num 0⟩
def F.ELY_SLOT_STATUS_STG_AN : Field := ⟨338, 6, 2, .ro, .num 0⟩
def F.ELY_SLOT_STATUS_SWAP_PENDING : Field := ⟨339, 8, 1, .ro, .num 0⟩
def F.ELY_SLOT_STATUS_ERASING : Field := ⟨340, 9, 1, .ro, .num 0⟩
def F.ELY_SLOT_STATUS_SOFT : Field := ⟨341, 10, 1, .ro, .num 0⟩
def F.ELY_SLOT_STATUS_HARD : Field := ⟨342, 11, 1, .ro, .num 0⟩
def F.ELY_SLOT_STATUS_WRITE_ERR : Field := ⟨343, 12, 1, .w1c, .num 0⟩
def F.ELY_SLOT_STATUS_IN_USE : Field := ⟨344, 13, 1, .ro, .num 0⟩
def F.ELY_SLOT_STATUS_DIR : Field := ⟨345, 14, 1, .ro, .num 0⟩
def R.ELY_SLOT_STATUS : Reg := ⟨"ELY_SLOT_STATUS", 0x200008, [(8192, 128)], [F.ELY_SLOT_STATUS_ACT_VALID, F.ELY_SLOT_STATUS_ACT_AN, F.ELY_SLOT_STATUS_ACT_SUITE, F.ELY_SLOT_STATUS_STG_READY, F.ELY_SLOT_STATUS_STG_AN, F.ELY_SLOT_STATUS_SWAP_PENDING, F.ELY_SLOT_STATUS_ERASING, F.ELY_SLOT_STATUS_SOFT, F.ELY_SLOT_STATUS_HARD, F.ELY_SLOT_STATUS_WRITE_ERR, F.ELY_SLOT_STATUS_IN_USE, F.ELY_SLOT_STATUS_DIR]⟩

/-! ELY_SLOT_ACT_PN: spec/16_elytra_macsec.md, R451. -/
def F.ELY_SLOT_ACT_PN_PN : Field := ⟨346, 0, 64, .ro, .num 0⟩
def R.ELY_SLOT_ACT_PN : Reg := ⟨"ELY_SLOT_ACT_PN", 0x200010, [(8192, 128)], [F.ELY_SLOT_ACT_PN_PN]⟩

/-! ELY_SLOT_STG_CFG: spec/16_elytra_macsec.md, R451. -/
def F.ELY_SLOT_STG_CFG_SUITE : Field := ⟨347, 0, 2, .rw, .num 0⟩
def F.ELY_SLOT_STG_CFG_AN : Field := ⟨348, 2, 2, .rw, .num 0⟩
def F.ELY_SLOT_STG_CFG_READY : Field := ⟨349, 4, 1, .rw, .num 0⟩
def R.ELY_SLOT_STG_CFG : Reg := ⟨"ELY_SLOT_STG_CFG", 0x200018, [(8192, 128)], [F.ELY_SLOT_STG_CFG_SUITE, F.ELY_SLOT_STG_CFG_AN, F.ELY_SLOT_STG_CFG_READY]⟩

/-! ELY_SLOT_STG_PN: spec/16_elytra_macsec.md, R451. -/
def F.ELY_SLOT_STG_PN_PN : Field := ⟨350, 0, 64, .rw, .num 0⟩
def R.ELY_SLOT_STG_PN : Reg := ⟨"ELY_SLOT_STG_PN", 0x200020, [(8192, 128)], [F.ELY_SLOT_STG_PN_PN]⟩

/-! ELY_SLOT_STG_SALT_HI: spec/16_elytra_macsec.md, R451. -/
def F.ELY_SLOT_STG_SALT_HI_SSCI : Field := ⟨351, 0, 32, .rw, .num 0⟩
def F.ELY_SLOT_STG_SALT_HI_SALT_HI : Field := ⟨352, 32, 32, .rw, .num 0⟩
def R.ELY_SLOT_STG_SALT_HI : Reg := ⟨"ELY_SLOT_STG_SALT_HI", 0x200028, [(8192, 128)], [F.ELY_SLOT_STG_SALT_HI_SSCI, F.ELY_SLOT_STG_SALT_HI_SALT_HI]⟩

/-! ELY_SLOT_STG_SALT_LO: spec/16_elytra_macsec.md, R451. -/
def F.ELY_SLOT_STG_SALT_LO_SALT_LO : Field := ⟨353, 0, 64, .rw, .num 0⟩
def R.ELY_SLOT_STG_SALT_LO : Reg := ⟨"ELY_SLOT_STG_SALT_LO", 0x200030, [(8192, 128)], [F.ELY_SLOT_STG_SALT_LO_SALT_LO]⟩

/-! ELY_SLOT_STG_KEY: spec/16_elytra_macsec.md, R451. -/
def F.ELY_SLOT_STG_KEY_KEY : Field := ⟨354, 0, 64, .wo, .num 0⟩
def R.ELY_SLOT_STG_KEY : Reg := ⟨"ELY_SLOT_STG_KEY", 0x200038, [(8192, 128), (4, 8)], [F.ELY_SLOT_STG_KEY_KEY]⟩

/-! POL_CNT: spec/13_scheduling_shaping_gates.md, R567. -/
def F.POL_CNT_COUNT : Field := ⟨355, 0, 64, .rc, .num 0⟩
def R.POL_CNT : Reg := ⟨"POL_CNT", 0x300000, [(6, 8)], [F.POL_CNT_COUNT]⟩

/-! POL_EVENT: spec/13_scheduling_shaping_gates.md, R567. -/
def F.POL_EVENT_FILTER_BLOCKED : Field := ⟨356, 0, 1, .w1c, .num 0⟩
def R.POL_EVENT : Reg := ⟨"POL_EVENT", 0x300100, [], [F.POL_EVENT_FILTER_BLOCKED]⟩

/-! PWQ_TILE_SLEEP: spec/04_hummock_clocks_sleep.md, R127. -/
def F.PWQ_TILE_SLEEP_DOZE_IDLE : Field := ⟨357, 0, 20, .rwp, .num 10⟩
def F.PWQ_TILE_SLEEP_TORPOR_IDLE : Field := ⟨358, 20, 20, .rwp, .num 5000⟩
def F.PWQ_TILE_SLEEP_STATE : Field := ⟨359, 40, 2, .ro, .num 0⟩
def F.PWQ_TILE_SLEEP_LAST_WAKE : Field := ⟨360, 42, 4, .ro, .num 0⟩
def R.PWQ_TILE_SLEEP : Reg := ⟨"PWQ_TILE_SLEEP", 0x400000, [(4, 1048576), (8, 8)], [F.PWQ_TILE_SLEEP_DOZE_IDLE, F.PWQ_TILE_SLEEP_TORPOR_IDLE, F.PWQ_TILE_SLEEP_STATE, F.PWQ_TILE_SLEEP_LAST_WAKE]⟩

/-! PWQ_PORT_SLEEP: spec/04_hummock_clocks_sleep.md, R127. -/
def F.PWQ_PORT_SLEEP_TORPOR_OK : Field := ⟨361, 0, 1, .rwp, .num 0⟩
def F.PWQ_PORT_SLEEP_DARK_WAKE : Field := ⟨362, 1, 1, .rwp, .num 0⟩
def F.PWQ_PORT_SLEEP_NO_DOZE : Field := ⟨363, 2, 1, .rwp, .num 0⟩
def F.PWQ_PORT_SLEEP_ROUSE_TX : Field := ⟨364, 3, 1, .rwp, .num 1⟩
def R.PWQ_PORT_SLEEP : Reg := ⟨"PWQ_PORT_SLEEP", 0x401000, [(4, 1048576), (128, 8)], [F.PWQ_PORT_SLEEP_TORPOR_OK, F.PWQ_PORT_SLEEP_DARK_WAKE, F.PWQ_PORT_SLEEP_NO_DOZE, F.PWQ_PORT_SLEEP_ROUSE_TX]⟩

/-! BUF_POOL_CFG: spec/11_buffers_replication.md, R331. -/
def F.BUF_POOL_CFG_SIZE : Field := ⟨365, 0, 14, .ro, .special .BUF_POOL_CFG_SIZE⟩
def F.BUF_POOL_CFG_COUNT : Field := ⟨366, 14, 20, .ro, .special .BUF_POOL_CFG_COUNT⟩
def R.BUF_POOL_CFG : Reg := ⟨"BUF_POOL_CFG", 0x410000, [(4, 1048576), (4, 8)], [F.BUF_POOL_CFG_SIZE, F.BUF_POOL_CFG_COUNT]⟩

/-! BUF_POOL_STAT: spec/11_buffers_replication.md, R331. -/
def F.BUF_POOL_STAT_FREE : Field := ⟨367, 0, 20, .ro, .special .BUF_POOL_STAT_FREE⟩
def F.BUF_POOL_STAT_MIN_FREE : Field := ⟨368, 20, 20, .rc, .special .BUF_POOL_STAT_MIN_FREE⟩
def R.BUF_POOL_STAT : Reg := ⟨"BUF_POOL_STAT", 0x410020, [(4, 1048576), (4, 8)], [F.BUF_POOL_STAT_FREE, F.BUF_POOL_STAT_MIN_FREE]⟩

/-! BUF_SHELTER_STAT: spec/11_buffers_replication.md, R331. -/
def F.BUF_SHELTER_STAT_FREE : Field := ⟨369, 0, 20, .ro, .special .BUF_SHELTER_STAT_FREE⟩
def F.BUF_SHELTER_STAT_COUNT : Field := ⟨370, 20, 20, .ro, .special .BUF_SHELTER_STAT_COUNT⟩
def R.BUF_SHELTER_STAT : Reg := ⟨"BUF_SHELTER_STAT", 0x410040, [(4, 1048576), (16, 8)], [F.BUF_SHELTER_STAT_FREE, F.BUF_SHELTER_STAT_COUNT]⟩

/-! BUF_PROFILE_ADM: spec/11_buffers_replication.md, R331. -/
def F.BUF_PROFILE_ADM_MODE : Field := ⟨371, 0, 1, .rwp, .num 0⟩
def F.BUF_PROFILE_ADM_ALPHA_EXP : Field := ⟨372, 1, 4, .rwp, .num 5⟩
def F.BUF_PROFILE_ADM_LIMIT : Field := ⟨373, 5, 28, .rwp, .num 65536⟩
def F.BUF_PROFILE_ADM_MIN : Field := ⟨374, 33, 20, .rwp, .num 0⟩
def R.BUF_PROFILE_ADM : Reg := ⟨"BUF_PROFILE_ADM", 0x410100, [(4, 1048576), (64, 16)], [F.BUF_PROFILE_ADM_MODE, F.BUF_PROFILE_ADM_ALPHA_EXP, F.BUF_PROFILE_ADM_LIMIT, F.BUF_PROFILE_ADM_MIN]⟩

/-! BUF_PROFILE_AGE: spec/11_buffers_replication.md, R331. -/
def F.BUF_PROFILE_AGE_AGE_LIMIT : Field := ⟨375, 0, 24, .rwp, .num 0⟩
def F.BUF_PROFILE_AGE_DEEP_THRESH : Field := ⟨376, 24, 20, .rwp, .num 4096⟩
def R.BUF_PROFILE_AGE : Reg := ⟨"BUF_PROFILE_AGE", 0x410108, [(4, 1048576), (64, 16)], [F.BUF_PROFILE_AGE_AGE_LIMIT, F.BUF_PROFILE_AGE_DEEP_THRESH]⟩

/-! BUF_DROP_CNT: spec/11_buffers_replication.md, R331. -/
def F.BUF_DROP_CNT_COUNT : Field := ⟨377, 0, 64, .rc, .num 0⟩
def R.BUF_DROP_CNT : Reg := ⟨"BUF_DROP_CNT", 0x410800, [(4, 1048576), (64, 8)], [F.BUF_DROP_CNT_COUNT]⟩

/-! BUF_DROP_LAST: spec/11_buffers_replication.md, R331. -/
def F.BUF_DROP_LAST_CODE : Field := ⟨378, 0, 6, .ro, .num 0⟩
def F.BUF_DROP_LAST_PORT : Field := ⟨379, 8, 10, .ro, .num 0⟩
def F.BUF_DROP_LAST_EGRESS : Field := ⟨380, 18, 1, .ro, .num 0⟩
def F.BUF_DROP_LAST_QUEUE : Field := ⟨381, 19, 6, .ro, .num 0⟩
def F.BUF_DROP_LAST_NS : Field := ⟨382, 32, 32, .ro, .num 0⟩
def R.BUF_DROP_LAST : Reg := ⟨"BUF_DROP_LAST", 0x410A00, [(4, 1048576)], [F.BUF_DROP_LAST_CODE, F.BUF_DROP_LAST_PORT, F.BUF_DROP_LAST_EGRESS, F.BUF_DROP_LAST_QUEUE, F.BUF_DROP_LAST_NS]⟩

/-! BUF_EVENT: spec/11_buffers_replication.md, R331. -/
def F.BUF_EVENT_BPM_FOREIGN_FREE : Field := ⟨383, 0, 1, .w1c, .num 0⟩
def F.BUF_EVENT_SEXTON_LEAK : Field := ⟨384, 1, 1, .w1c, .num 0⟩
def F.BUF_EVENT_SEXTON_DOUBLE : Field := ⟨385, 2, 1, .w1c, .num 0⟩
def F.BUF_EVENT_DEEP_REFUSED : Field := ⟨386, 3, 1, .w1c, .num 0⟩
def F.BUF_EVENT_DEEP_OFFLINE : Field := ⟨387, 4, 1, .w1c, .num 0⟩
def F.BUF_EVENT_POOL_EMPTY : Field := ⟨388, 5, 1, .w1c, .num 0⟩
def R.BUF_EVENT : Reg := ⟨"BUF_EVENT", 0x410A08, [(4, 1048576)], [F.BUF_EVENT_BPM_FOREIGN_FREE, F.BUF_EVENT_SEXTON_LEAK, F.BUF_EVENT_SEXTON_DOUBLE, F.BUF_EVENT_DEEP_REFUSED, F.BUF_EVENT_DEEP_OFFLINE, F.BUF_EVENT_POOL_EMPTY]⟩

/-! BUF_FOREIGN_FREE: spec/11_buffers_replication.md, R331. -/
def F.BUF_FOREIGN_FREE_VALID : Field := ⟨389, 0, 1, .w1c, .num 0⟩
def F.BUF_FOREIGN_FREE_MASTER : Field := ⟨390, 8, 8, .ro, .num 0⟩
def F.BUF_FOREIGN_FREE_HANDLE : Field := ⟨391, 16, 32, .ro, .num 0⟩
def F.BUF_FOREIGN_FREE_COUNT : Field := ⟨392, 48, 8, .ro, .num 0⟩
def R.BUF_FOREIGN_FREE : Reg := ⟨"BUF_FOREIGN_FREE", 0x410A10, [(4, 1048576)], [F.BUF_FOREIGN_FREE_VALID, F.BUF_FOREIGN_FREE_MASTER, F.BUF_FOREIGN_FREE_HANDLE, F.BUF_FOREIGN_FREE_COUNT]⟩

/-! BUF_FREE: spec/11_buffers_replication.md, R331. -/
def F.BUF_FREE_HANDLE : Field := ⟨393, 0, 32, .wo, .num 0⟩
def R.BUF_FREE : Reg := ⟨"BUF_FREE", 0x410A18, [(4, 1048576)], [F.BUF_FREE_HANDLE]⟩

/-! BUF_SEXTON_CTRL: spec/11_buffers_replication.md, R331. -/
def F.BUF_SEXTON_CTRL_INTERVAL_MS : Field := ⟨394, 0, 14, .rwp, .num 100⟩
def R.BUF_SEXTON_CTRL : Reg := ⟨"BUF_SEXTON_CTRL", 0x410B00, [(4, 1048576)], [F.BUF_SEXTON_CTRL_INTERVAL_MS]⟩

/-! BUF_SEXTON_LAST: spec/11_buffers_replication.md, R331. -/
def F.BUF_SEXTON_LAST_VALID : Field := ⟨395, 0, 1, .w1c, .num 0⟩
def F.BUF_SEXTON_LAST_KIND : Field := ⟨396, 1, 1, .ro, .num 0⟩
def F.BUF_SEXTON_LAST_PARTITION : Field := ⟨397, 2, 2, .ro, .num 0⟩
def F.BUF_SEXTON_LAST_POOL : Field := ⟨398, 4, 2, .ro, .num 0⟩
def F.BUF_SEXTON_LAST_INDEX : Field := ⟨399, 6, 20, .ro, .num 0⟩
def F.BUF_SEXTON_LAST_LEAKS : Field := ⟨400, 32, 16, .rc, .num 0⟩
def F.BUF_SEXTON_LAST_DOUBLES : Field := ⟨401, 48, 16, .rc, .num 0⟩
def R.BUF_SEXTON_LAST : Reg := ⟨"BUF_SEXTON_LAST", 0x410B08, [(4, 1048576)], [F.BUF_SEXTON_LAST_VALID, F.BUF_SEXTON_LAST_KIND, F.BUF_SEXTON_LAST_PARTITION, F.BUF_SEXTON_LAST_POOL, F.BUF_SEXTON_LAST_INDEX, F.BUF_SEXTON_LAST_LEAKS, F.BUF_SEXTON_LAST_DOUBLES]⟩

/-! BUF_DEEP_STAT: spec/11_buffers_replication.md, R331. -/
def F.BUF_DEEP_STAT_FLAGGED : Field := ⟨402, 0, 13, .ro, .num 0⟩
def F.BUF_DEEP_STAT_OFFLINE : Field := ⟨403, 13, 1, .ro, .num 0⟩
def F.BUF_DEEP_STAT_DRAM_BUFS : Field := ⟨404, 16, 32, .ro, .num 0⟩
def R.BUF_DEEP_STAT : Reg := ⟨"BUF_DEEP_STAT", 0x410C00, [(4, 1048576)], [F.BUF_DEEP_STAT_FLAGGED, F.BUF_DEEP_STAT_OFFLINE, F.BUF_DEEP_STAT_DRAM_BUFS]⟩

/-! BUF_PORT_DROP: spec/11_buffers_replication.md, R331. -/
def F.BUF_PORT_DROP_COUNT : Field := ⟨405, 0, 64, .rc, .num 0⟩
def R.BUF_PORT_DROP : Reg := ⟨"BUF_PORT_DROP", 0x412000, [(4, 1048576), (128, 32), (4, 8)], [F.BUF_PORT_DROP_COUNT]⟩

/-! BUF_PORT_BUDGET: spec/11_buffers_replication.md, R331. -/
def F.BUF_PORT_BUDGET_TAIL_NS : Field := ⟨406, 0, 16, .ro, .special .BUF_PORT_BUDGET_TAIL_NS⟩
def F.BUF_PORT_BUDGET_LINK_NS : Field := ⟨407, 16, 32, .ro, .num 0⟩
def R.BUF_PORT_BUDGET : Reg := ⟨"BUF_PORT_BUDGET", 0x413000, [(4, 1048576), (128, 8)], [F.BUF_PORT_BUDGET_TAIL_NS, F.BUF_PORT_BUDGET_LINK_NS]⟩

/-! BUF_HOST_QUEUE_CFG: spec/11_buffers_replication.md, R331. -/
def F.BUF_HOST_QUEUE_CFG_PROFILE : Field := ⟨408, 0, 6, .rwp, .num 0⟩
def F.BUF_HOST_QUEUE_CFG_HOLD_BUF : Field := ⟨409, 6, 1, .rwp, .num 0⟩
def F.BUF_HOST_QUEUE_CFG_DEPTH : Field := ⟨410, 32, 20, .ro, .num 0⟩
def R.BUF_HOST_QUEUE_CFG : Reg := ⟨"BUF_HOST_QUEUE_CFG", 0x413E00, [(4, 1048576), (16, 8)], [F.BUF_HOST_QUEUE_CFG_PROFILE, F.BUF_HOST_QUEUE_CFG_HOLD_BUF, F.BUF_HOST_QUEUE_CFG_DEPTH]⟩

/-! BUF_QUEUE_CFG: spec/11_buffers_replication.md, R331. -/
def F.BUF_QUEUE_CFG_PROFILE : Field := ⟨411, 0, 6, .rwp, .num 0⟩
def F.BUF_QUEUE_CFG_DEEP : Field := ⟨412, 6, 1, .rwp, .num 0⟩
def F.BUF_QUEUE_CFG_SHELTER : Field := ⟨413, 7, 2, .rwp, .num 0⟩
def F.BUF_QUEUE_CFG_DEPTH : Field := ⟨414, 32, 20, .ro, .num 0⟩
def F.BUF_QUEUE_CFG_IN_DRAM : Field := ⟨415, 52, 1, .ro, .num 0⟩
def R.BUF_QUEUE_CFG : Reg := ⟨"BUF_QUEUE_CFG", 0x414000, [(4, 1048576), (6144, 8)], [F.BUF_QUEUE_CFG_PROFILE, F.BUF_QUEUE_CFG_DEEP, F.BUF_QUEUE_CFG_SHELTER, F.BUF_QUEUE_CFG_DEPTH, F.BUF_QUEUE_CFG_IN_DRAM]⟩

/-! TCM_REGION: spec/09_associative_search.md, R258. -/
def F.TCM_REGION_USED : Field := ⟨416, 0, 1, .ro, .special .TCM_REGION_USED⟩
def F.TCM_REGION_KIND : Field := ⟨417, 1, 1, .ro, .special .TCM_REGION_KIND⟩
def F.TCM_REGION_REPL : Field := ⟨418, 2, 1, .ro, .special .TCM_REGION_REPL⟩
def F.TCM_REGION_FIRST_ROW : Field := ⟨419, 3, 17, .ro, .special .TCM_REGION_FIRST_ROW⟩
def F.TCM_REGION_ROWS : Field := ⟨420, 20, 18, .ro, .special .TCM_REGION_ROWS⟩
def F.TCM_REGION_FREE : Field := ⟨421, 38, 18, .ro, .special .TCM_REGION_FREE⟩
def R.TCM_REGION : Reg := ⟨"TCM_REGION", 0x420000, [(4, 1048576), (16, 8)], [F.TCM_REGION_USED, F.TCM_REGION_KIND, F.TCM_REGION_REPL, F.TCM_REGION_FIRST_ROW, F.TCM_REGION_ROWS, F.TCM_REGION_FREE]⟩

/-! TCM_STATUS: spec/09_associative_search.md, R258. -/
def F.TCM_STATUS_LPM_ROWS : Field := ⟨422, 0, 18, .ro, .special .TCM_STATUS_LPM_ROWS⟩
def F.TCM_STATUS_LPM_FREE : Field := ⟨423, 18, 18, .ro, .special .TCM_STATUS_LPM_FREE⟩
def F.TCM_STATUS_SUSPECT : Field := ⟨424, 36, 8, .ro, .num 0⟩
def F.TCM_STATUS_FENCED : Field := ⟨425, 44, 16, .ro, .num 0⟩
def R.TCM_STATUS : Reg := ⟨"TCM_STATUS", 0x420080, [(4, 1048576)], [F.TCM_STATUS_LPM_ROWS, F.TCM_STATUS_LPM_FREE, F.TCM_STATUS_SUSPECT, F.TCM_STATUS_FENCED]⟩

/-! TCM_EVENT: spec/09_associative_search.md, R258. -/
def F.TCM_EVENT_FALSE_HIT : Field := ⟨426, 0, 1, .w1c, .num 0⟩
def F.TCM_EVENT_DOUBLE_FALSE_HIT : Field := ⟨427, 1, 1, .w1c, .num 0⟩
def F.TCM_EVENT_ROW_FENCED : Field := ⟨428, 2, 1, .w1c, .num 0⟩
def F.TCM_EVENT_SHADOW_UNCORR : Field := ⟨429, 3, 1, .w1c, .num 0⟩
def F.TCM_EVENT_THROTTLE : Field := ⟨430, 4, 1, .w1c, .num 0⟩
def R.TCM_EVENT : Reg := ⟨"TCM_EVENT", 0x420088, [(4, 1048576)], [F.TCM_EVENT_FALSE_HIT, F.TCM_EVENT_DOUBLE_FALSE_HIT, F.TCM_EVENT_ROW_FENCED, F.TCM_EVENT_SHADOW_UNCORR, F.TCM_EVENT_THROTTLE]⟩

/-! TCM_CTRL: spec/09_associative_search.md, R258. -/
def F.TCM_CTRL_SCRUB_MS : Field := ⟨431, 0, 16, .rwp, .num 100⟩
def F.TCM_CTRL_HASH_SEED : Field := ⟨432, 32, 32, .rwp, .num 4294967295⟩
def R.TCM_CTRL : Reg := ⟨"TCM_CTRL", 0x420090, [(4, 1048576)], [F.TCM_CTRL_SCRUB_MS, F.TCM_CTRL_HASH_SEED]⟩

/-! TCM_CNT: spec/09_associative_search.md, R259. -/
def F.TCM_CNT_COUNT : Field := ⟨433, 0, 64, .rc, .num 0⟩
def R.TCM_CNT : Reg := ⟨"TCM_CNT", 0x420100, [(4, 1048576), (4, 8)], [F.TCM_CNT_COUNT]⟩

/-! TCM_ROUTER_MAC: spec/09_associative_search.md, R258. -/
def F.TCM_ROUTER_MAC_ADDR : Field := ⟨434, 0, 48, .rwp, .num 0⟩
def F.TCM_ROUTER_MAC_VALID : Field := ⟨435, 48, 1, .rwp, .num 0⟩
def R.TCM_ROUTER_MAC : Reg := ⟨"TCM_ROUTER_MAC", 0x420200, [(4, 1048576), (8, 8)], [F.TCM_ROUTER_MAC_ADDR, F.TCM_ROUTER_MAC_VALID]⟩

/-! TCM_PORT_L3: spec/09_associative_search.md, R258. -/
def F.TCM_PORT_L3_VRF : Field := ⟨436, 0, 10, .rwp, .num 0⟩
def F.TCM_PORT_L3_ROUTE_EN : Field := ⟨437, 10, 1, .rwp, .num 0⟩
def F.TCM_PORT_L3_MCAST_ROUTE_EN : Field := ⟨438, 11, 1, .rwp, .num 0⟩
def F.TCM_PORT_L3_TTL_TRAP : Field := ⟨439, 12, 1, .rwp, .num 0⟩
def F.TCM_PORT_L3_RMAC_MASK : Field := ⟨440, 13, 8, .rwp, .num 0⟩
def F.TCM_PORT_L3_ACL_EN : Field := ⟨441, 21, 1, .rwp, .num 0⟩
def F.TCM_PORT_L3_ACL_REGION : Field := ⟨442, 22, 4, .rwp, .num 0⟩
def F.TCM_PORT_L3_SF_EN : Field := ⟨443, 26, 1, .rwp, .num 0⟩
def F.TCM_PORT_L3_SF_REGION : Field := ⟨444, 27, 4, .rwp, .num 0⟩
def F.TCM_PORT_L3_FLOOD_GROUP : Field := ⟨445, 32, 16, .rwp, .num 0⟩
def R.TCM_PORT_L3 : Reg := ⟨"TCM_PORT_L3", 0x421000, [(4, 1048576), (129, 8)], [F.TCM_PORT_L3_VRF, F.TCM_PORT_L3_ROUTE_EN, F.TCM_PORT_L3_MCAST_ROUTE_EN, F.TCM_PORT_L3_TTL_TRAP, F.TCM_PORT_L3_RMAC_MASK, F.TCM_PORT_L3_ACL_EN, F.TCM_PORT_L3_ACL_REGION, F.TCM_PORT_L3_SF_EN, F.TCM_PORT_L3_SF_REGION, F.TCM_PORT_L3_FLOOD_GROUP]⟩

/-! TCM_ACL_CNT: spec/09_associative_search.md, R259. -/
def F.TCM_ACL_CNT_FRAMES : Field := ⟨446, 0, 64, .rc, .num 0⟩
def R.TCM_ACL_CNT : Reg := ⟨"TCM_ACL_CNT", 0x428000, [(4, 1048576), (4096, 8)], [F.TCM_ACL_CNT_FRAMES]⟩

/-! SMP_CTRL: spec/13_scheduling_shaping_gates.md, R567. -/
def F.SMP_CTRL_RING_EN : Field := ⟨447, 0, 1, .rwp, .num 0⟩
def F.SMP_CTRL_STAMP_EN : Field := ⟨448, 1, 1, .rwp, .num 0⟩
def F.SMP_CTRL_PERIOD_NS : Field := ⟨449, 32, 30, .ro, .special .SMP_CTRL_PERIOD_NS⟩
def R.SMP_CTRL : Reg := ⟨"SMP_CTRL", 0x440000, [(4, 1048576)], [F.SMP_CTRL_RING_EN, F.SMP_CTRL_STAMP_EN, F.SMP_CTRL_PERIOD_NS]⟩

/-! SMP_EVENT: spec/13_scheduling_shaping_gates.md, R567. -/
def F.SMP_EVENT_RECORDS_LOST : Field := ⟨450, 0, 1, .w1c, .num 0⟩
def F.SMP_EVENT_GAP : Field := ⟨451, 1, 1, .w1c, .num 0⟩
def R.SMP_EVENT : Reg := ⟨"SMP_EVENT", 0x440008, [(4, 1048576)], [F.SMP_EVENT_RECORDS_LOST, F.SMP_EVENT_GAP]⟩

/-! SMP_CNT: spec/13_scheduling_shaping_gates.md, R567. -/
def F.SMP_CNT_COUNT : Field := ⟨452, 0, 64, .rc, .num 0⟩
def R.SMP_CNT : Reg := ⟨"SMP_CNT", 0x440010, [(4, 1048576), (3, 8)], [F.SMP_CNT_COUNT]⟩

/-! SMP_WATCH: spec/13_scheduling_shaping_gates.md, R567. -/
def F.SMP_WATCH_WATCH : Field := ⟨453, 0, 64, .rwp, .num 0⟩
def R.SMP_WATCH : Reg := ⟨"SMP_WATCH", 0x440200, [(4, 1048576), (97, 8)], [F.SMP_WATCH_WATCH]⟩

/-! SMP_LAST: spec/13_scheduling_shaping_gates.md, R567. -/
def F.SMP_LAST_DEPTH : Field := ⟨454, 0, 24, .ro, .num 0⟩
def F.SMP_LAST_FRAMES : Field := ⟨455, 24, 20, .ro, .num 0⟩
def F.SMP_LAST_HOL_DELAY : Field := ⟨456, 44, 20, .ro, .num 0⟩
def R.SMP_LAST : Reg := ⟨"SMP_LAST", 0x448000, [(4, 1048576), (6160, 8)], [F.SMP_LAST_DEPTH, F.SMP_LAST_FRAMES, F.SMP_LAST_HOL_DELAY]⟩

/-! SMP_MAX: spec/13_scheduling_shaping_gates.md, R567. -/
def F.SMP_MAX_DEPTH : Field := ⟨457, 0, 24, .rc, .num 0⟩
def F.SMP_MAX_FRAMES : Field := ⟨458, 24, 20, .rc, .num 0⟩
def F.SMP_MAX_HOL_DELAY : Field := ⟨459, 44, 20, .rc, .num 0⟩
def R.SMP_MAX : Reg := ⟨"SMP_MAX", 0x458000, [(4, 1048576), (6160, 8)], [F.SMP_MAX_DEPTH, F.SMP_MAX_FRAMES, F.SMP_MAX_HOL_DELAY]⟩

/-! PRT_CFG: spec/05_ports_and_mac.md, R163. -/
def F.PRT_CFG_ADMIN_UP : Field := ⟨460, 0, 1, .rwp, .num 1⟩
def F.PRT_CFG_LOOPBACK : Field := ⟨461, 1, 2, .rw, .num 0⟩
def F.PRT_CFG_FC_MODE : Field := ⟨462, 3, 2, .rwp, .num 0⟩
def F.PRT_CFG_NARROW_OK : Field := ⟨463, 5, 1, .rwp, .num 0⟩
def F.PRT_CFG_DOWN_DEBOUNCE : Field := ⟨464, 7, 10, .rwp, .num 0⟩
def F.PRT_CFG_MTU : Field := ⟨465, 32, 14, .ro, .special .PRT_CFG_MTU⟩
def R.PRT_CFG : Reg := ⟨"PRT_CFG", 0x800000, [(32, 262144), (16, 1024)], [F.PRT_CFG_ADMIN_UP, F.PRT_CFG_LOOPBACK, F.PRT_CFG_FC_MODE, F.PRT_CFG_NARROW_OK, F.PRT_CFG_DOWN_DEBOUNCE, F.PRT_CFG_MTU]⟩

/-! PRT_STATUS: spec/05_ports_and_mac.md, R163. -/
def F.PRT_STATUS_LINK_UP : Field := ⟨466, 0, 1, .ro, .num 0⟩
def F.PRT_STATUS_LOCAL_FAULT : Field := ⟨467, 1, 1, .ro, .num 0⟩
def F.PRT_STATUS_REMOTE_FAULT : Field := ⟨468, 2, 1, .ro, .num 0⟩
def F.PRT_STATUS_FEC_LOCK : Field := ⟨469, 3, 1, .ro, .num 0⟩
def F.PRT_STATUS_HOLD : Field := ⟨470, 4, 1, .ro, .num 0⟩
def F.PRT_STATUS_NARROWED : Field := ⟨471, 5, 1, .ro, .num 0⟩
def F.PRT_STATUS_ACTIVE_WIDTH : Field := ⟨472, 6, 4, .ro, .num 0⟩
def F.PRT_STATUS_RX_PAUSED : Field := ⟨473, 16, 8, .ro, .num 0⟩
def F.PRT_STATUS_TX_XOFF : Field := ⟨474, 24, 8, .ro, .num 0⟩
def R.PRT_STATUS : Reg := ⟨"PRT_STATUS", 0x800008, [(32, 262144), (16, 1024)], [F.PRT_STATUS_LINK_UP, F.PRT_STATUS_LOCAL_FAULT, F.PRT_STATUS_REMOTE_FAULT, F.PRT_STATUS_FEC_LOCK, F.PRT_STATUS_HOLD, F.PRT_STATUS_NARROWED, F.PRT_STATUS_ACTIVE_WIDTH, F.PRT_STATUS_RX_PAUSED, F.PRT_STATUS_TX_XOFF]⟩

/-! PRT_EVENT: spec/05_ports_and_mac.md, R163. -/
def F.PRT_EVENT_LINK_DOWN : Field := ⟨475, 0, 1, .w1c, .num 0⟩
def F.PRT_EVENT_LINK_UP : Field := ⟨476, 1, 1, .w1c, .num 0⟩
def F.PRT_EVENT_HOLD_EXPIRED : Field := ⟨477, 2, 1, .w1c, .num 0⟩
def F.PRT_EVENT_NARROWED : Field := ⟨478, 3, 1, .w1c, .num 0⟩
def F.PRT_EVENT_FC_CFG_ERR : Field := ⟨479, 4, 1, .w1c, .num 0⟩
def F.PRT_EVENT_TSF_FLUSHED : Field := ⟨480, 5, 1, .w1c, .num 0⟩
def R.PRT_EVENT : Reg := ⟨"PRT_EVENT", 0x800010, [(32, 262144), (16, 1024)], [F.PRT_EVENT_LINK_DOWN, F.PRT_EVENT_LINK_UP, F.PRT_EVENT_HOLD_EXPIRED, F.PRT_EVENT_NARROWED, F.PRT_EVENT_FC_CFG_ERR, F.PRT_EVENT_TSF_FLUSHED]⟩

/-! PRT_LINK_HOLD: spec/05_ports_and_mac.md, R163. -/
def F.PRT_LINK_HOLD_HOLD_US : Field := ⟨481, 0, 16, .rwp, .num 0⟩
def R.PRT_LINK_HOLD : Reg := ⟨"PRT_LINK_HOLD", 0x800018, [(32, 262144), (16, 1024)], [F.PRT_LINK_HOLD_HOLD_US]⟩

/-! PRT_FC_TX: spec/05_ports_and_mac.md, R163. -/
def F.PRT_FC_TX_XOFF : Field := ⟨482, 0, 20, .rwp, .num 4096⟩
def F.PRT_FC_TX_XON : Field := ⟨483, 20, 20, .rwp, .num 2048⟩
def F.PRT_FC_TX_QUANTA : Field := ⟨484, 40, 16, .rwp, .num 65535⟩
def R.PRT_FC_TX : Reg := ⟨"PRT_FC_TX", 0x800020, [(32, 262144), (16, 1024)], [F.PRT_FC_TX_XOFF, F.PRT_FC_TX_XON, F.PRT_FC_TX_QUANTA]⟩

/-! PRT_PFC_MAP: spec/05_ports_and_mac.md, R164. -/
def F.PRT_PFC_MAP_PRI : Field := ⟨485, 0, 64, .rwp, .num 9241421688590303745⟩
def R.PRT_PFC_MAP : Reg := ⟨"PRT_PFC_MAP", 0x800028, [(32, 262144), (16, 1024)], [F.PRT_PFC_MAP_PRI]⟩

/-! PRT_MAC_SA: spec/05_ports_and_mac.md, R164. -/
def F.PRT_MAC_SA_ADDR : Field := ⟨486, 0, 48, .rwp, .num 0⟩
def R.PRT_MAC_SA : Reg := ⟨"PRT_MAC_SA", 0x800030, [(32, 262144), (16, 1024)], [F.PRT_MAC_SA_ADDR]⟩

/-! PRT_SEC_CFG: spec/16_elytra_macsec.md, R451. -/
def F.PRT_SEC_CFG_TX_EN : Field := ⟨487, 0, 1, .rw, .num 0⟩
def F.PRT_SEC_CFG_RX_EN : Field := ⟨488, 1, 1, .rw, .num 0⟩
def F.PRT_SEC_CFG_TX_SCI : Field := ⟨489, 2, 1, .rw, .num 1⟩
def F.PRT_SEC_CFG_TX_AUTO_SWAP : Field := ⟨490, 3, 1, .rw, .num 0⟩
def F.PRT_SEC_CFG_CONF_OFFSET : Field := ⟨491, 4, 2, .rw, .num 0⟩
def F.PRT_SEC_CFG_TX_SLOT : Field := ⟨492, 6, 13, .rw, .num 0⟩
def F.PRT_SEC_CFG_RX_SLOT : Field := ⟨493, 19, 13, .rw, .num 0⟩
def F.PRT_SEC_CFG_REPLAY_WINDOW : Field := ⟨494, 32, 30, .rw, .num 0⟩
def R.PRT_SEC_CFG : Reg := ⟨"PRT_SEC_CFG", 0x800040, [(32, 262144), (16, 1024)], [F.PRT_SEC_CFG_TX_EN, F.PRT_SEC_CFG_RX_EN, F.PRT_SEC_CFG_TX_SCI, F.PRT_SEC_CFG_TX_AUTO_SWAP, F.PRT_SEC_CFG_CONF_OFFSET, F.PRT_SEC_CFG_TX_SLOT, F.PRT_SEC_CFG_RX_SLOT, F.PRT_SEC_CFG_REPLAY_WINDOW]⟩

/-! PRT_SEC_SCI: spec/16_elytra_macsec.md, R451. -/
def F.PRT_SEC_SCI_SCI : Field := ⟨495, 0, 64, .rw, .num 0⟩
def R.PRT_SEC_SCI : Reg := ⟨"PRT_SEC_SCI", 0x800048, [(32, 262144), (16, 1024)], [F.PRT_SEC_SCI_SCI]⟩

/-! PRT_SEC_PEER_SCI: spec/16_elytra_macsec.md, R451. -/
def F.PRT_SEC_PEER_SCI_SCI : Field := ⟨496, 0, 64, .rw, .num 0⟩
def R.PRT_SEC_PEER_SCI : Reg := ⟨"PRT_SEC_PEER_SCI", 0x800050, [(32, 262144), (16, 1024)], [F.PRT_SEC_PEER_SCI_SCI]⟩

/-! PRT_SEC_LIMIT: spec/16_elytra_macsec.md, R451. -/
def F.PRT_SEC_LIMIT_SOFT_PN : Field := ⟨497, 0, 64, .rw, .num 0⟩
def R.PRT_SEC_LIMIT : Reg := ⟨"PRT_SEC_LIMIT", 0x800058, [(32, 262144), (16, 1024)], [F.PRT_SEC_LIMIT_SOFT_PN]⟩

/-! PRT_SEC_EVENT: spec/16_elytra_macsec.md, R451. -/
def F.PRT_SEC_EVENT_REKEY_REQ_TX : Field := ⟨498, 0, 1, .w1c, .num 0⟩
def F.PRT_SEC_EVENT_PN_EXHAUSTED : Field := ⟨499, 1, 1, .w1c, .num 0⟩
def F.PRT_SEC_EVENT_SWAPPED_TX : Field := ⟨500, 2, 1, .w1c, .num 0⟩
def F.PRT_SEC_EVENT_SWAPPED_RX : Field := ⟨501, 3, 1, .w1c, .num 0⟩
def F.PRT_SEC_EVENT_CFG_ERR : Field := ⟨502, 4, 1, .w1c, .num 0⟩
def F.PRT_SEC_EVENT_AUTH_FAIL : Field := ⟨503, 5, 1, .w1c, .num 0⟩
def F.PRT_SEC_EVENT_LANE_FAULT : Field := ⟨504, 6, 1, .w1c, .num 0⟩
def F.PRT_SEC_EVENT_REKEY_REQ_RX : Field := ⟨505, 7, 1, .w1c, .num 0⟩
def R.PRT_SEC_EVENT : Reg := ⟨"PRT_SEC_EVENT", 0x800060, [(32, 262144), (16, 1024)], [F.PRT_SEC_EVENT_REKEY_REQ_TX, F.PRT_SEC_EVENT_PN_EXHAUSTED, F.PRT_SEC_EVENT_SWAPPED_TX, F.PRT_SEC_EVENT_SWAPPED_RX, F.PRT_SEC_EVENT_CFG_ERR, F.PRT_SEC_EVENT_AUTH_FAIL, F.PRT_SEC_EVENT_LANE_FAULT, F.PRT_SEC_EVENT_REKEY_REQ_RX]⟩

/-! PRT_SEC_CNT: spec/16_elytra_macsec.md, R451. -/
def F.PRT_SEC_CNT_COUNT : Field := ⟨506, 0, 64, .rc, .num 0⟩
def R.PRT_SEC_CNT : Reg := ⟨"PRT_SEC_CNT", 0x800080, [(32, 262144), (16, 1024), (13, 8)], [F.PRT_SEC_CNT_COUNT]⟩

/-! PRT_CNT: spec/05_ports_and_mac.md, R164. -/
def F.PRT_CNT_COUNT : Field := ⟨507, 0, 64, .rc, .num 0⟩
def R.PRT_CNT : Reg := ⟨"PRT_CNT", 0x800200, [(32, 262144), (16, 1024), (64, 8)], [F.PRT_CNT_COUNT]⟩

/-! OPT_STATUS: spec/06_optics_lasers_causeway.md, R182. -/
def F.OPT_STATUS_PRESENT : Field := ⟨508, 0, 1, .ro, .special .OPT_STATUS_PRESENT⟩
def F.OPT_STATUS_CAL_DONE : Field := ⟨509, 1, 1, .ro, .num 0⟩
def F.OPT_STATUS_CALIBRATING : Field := ⟨510, 2, 1, .ro, .num 0⟩
def F.OPT_STATUS_LASER_OK : Field := ⟨511, 3, 2, .ro, .num 0⟩
def F.OPT_STATUS_LANE_FENCED : Field := ⟨512, 16, 16, .ro, .num 0⟩
def R.OPT_STATUS : Reg := ⟨"OPT_STATUS", 0x808000, [(32, 262144)], [F.OPT_STATUS_PRESENT, F.OPT_STATUS_CAL_DONE, F.OPT_STATUS_CALIBRATING, F.OPT_STATUS_LASER_OK, F.OPT_STATUS_LANE_FENCED]⟩

/-! OPT_EVENT: spec/06_optics_lasers_causeway.md, R182. -/
def F.OPT_EVENT_LASER_LOSS : Field := ⟨513, 0, 2, .w1c, .num 0⟩
def F.OPT_EVENT_TRACK_LIMIT : Field := ⟨514, 2, 1, .w1c, .num 0⟩
def F.OPT_EVENT_CAL_FAIL : Field := ⟨515, 3, 1, .w1c, .num 0⟩
def R.OPT_EVENT : Reg := ⟨"OPT_EVENT", 0x808008, [(32, 262144)], [F.OPT_EVENT_LASER_LOSS, F.OPT_EVENT_TRACK_LIMIT, F.OPT_EVENT_CAL_FAIL]⟩

/-! OPT_LASER_PWR: spec/06_optics_lasers_causeway.md, R182. -/
def F.OPT_LASER_PWR_PWR : Field := ⟨516, 0, 16, .ro, .num 0⟩
def F.OPT_LASER_PWR_PWR_MIN : Field := ⟨517, 16, 16, .rc, .num 0⟩
def R.OPT_LASER_PWR : Reg := ⟨"OPT_LASER_PWR", 0x808010, [(32, 262144), (2, 8)], [F.OPT_LASER_PWR_PWR, F.OPT_LASER_PWR_PWR_MIN]⟩

/-! OPT_LANE_PWR: spec/06_optics_lasers_causeway.md, R182. -/
def F.OPT_LANE_PWR_TX_PWR : Field := ⟨518, 0, 16, .ro, .num 0⟩
def F.OPT_LANE_PWR_RX_PWR : Field := ⟨519, 16, 16, .ro, .num 0⟩
def R.OPT_LANE_PWR : Reg := ⟨"OPT_LANE_PWR", 0x808100, [(32, 262144), (16, 8)], [F.OPT_LANE_PWR_TX_PWR, F.OPT_LANE_PWR_RX_PWR]⟩

/-! PRS_FARM: spec/07_parsing.md, R203. -/
def F.PRS_FARM_FENCED : Field := ⟨520, 0, 48, .ro, .num 0⟩
def F.PRS_FARM_ACTIVE : Field := ⟨521, 48, 6, .ro, .special .PRS_FARM_ACTIVE⟩
def F.PRS_FARM_SPARES_LEFT : Field := ⟨522, 54, 3, .ro, .special .PRS_FARM_SPARES_LEFT⟩
def F.PRS_FARM_UNDER_RATE : Field := ⟨523, 57, 1, .ro, .num 0⟩
def R.PRS_FARM : Reg := ⟨"PRS_FARM", 0x810000, [(32, 262144)], [F.PRS_FARM_FENCED, F.PRS_FARM_ACTIVE, F.PRS_FARM_SPARES_LEFT, F.PRS_FARM_UNDER_RATE]⟩

/-! PRS_SPARE_MASK: spec/07_parsing.md, R203. -/
def F.PRS_SPARE_MASK_SPARE : Field := ⟨524, 0, 48, .ro, .special .PRS_SPARE_MASK_SPARE⟩
def R.PRS_SPARE_MASK : Reg := ⟨"PRS_SPARE_MASK", 0x810008, [(32, 262144)], [F.PRS_SPARE_MASK_SPARE]⟩

/-! PRS_EVENT: spec/07_parsing.md, R203. -/
def F.PRS_EVENT_UNDER_RATE : Field := ⟨525, 0, 1, .w1c, .num 0⟩
def F.PRS_EVENT_REDEAL : Field := ⟨526, 1, 1, .w1c, .num 0⟩
def F.PRS_EVENT_REORDER_FULL : Field := ⟨527, 2, 1, .w1c, .num 0⟩
def F.PRS_EVENT_STAGE_DROP : Field := ⟨528, 3, 1, .w1c, .num 0⟩
def R.PRS_EVENT : Reg := ⟨"PRS_EVENT", 0x810010, [(32, 262144)], [F.PRS_EVENT_UNDER_RATE, F.PRS_EVENT_REDEAL, F.PRS_EVENT_REORDER_FULL, F.PRS_EVENT_STAGE_DROP]⟩

/-! PRS_GROUP: spec/07_parsing.md, R203. -/
def F.PRS_GROUP_DEPTH : Field := ⟨529, 0, 10, .ro, .special .PRS_GROUP_DEPTH⟩
def F.PRS_GROUP_HDR_SET : Field := ⟨530, 10, 16, .ro, .special .PRS_GROUP_HDR_SET⟩
def R.PRS_GROUP : Reg := ⟨"PRS_GROUP", 0x810040, [(32, 262144), (8, 8)], [F.PRS_GROUP_DEPTH, F.PRS_GROUP_HDR_SET]⟩

/-! PRS_TILE_CNT: spec/07_parsing.md, R203. -/
def F.PRS_TILE_CNT_COUNT : Field := ⟨531, 0, 64, .rc, .num 0⟩
def R.PRS_TILE_CNT : Reg := ⟨"PRS_TILE_CNT", 0x810100, [(32, 262144), (3, 8)], [F.PRS_TILE_CNT_COUNT]⟩

/-! PRS_PORT_CNT: spec/07_parsing.md, R203. -/
def F.PRS_PORT_CNT_COUNT : Field := ⟨532, 0, 64, .rc, .num 0⟩
def R.PRS_PORT_CNT : Reg := ⟨"PRS_PORT_CNT", 0x810400, [(32, 262144), (16, 16), (2, 8)], [F.PRS_PORT_CNT_COUNT]⟩

/-! SCH_CTRL: spec/13_scheduling_shaping_gates.md, R386. -/
def F.SCH_CTRL_REFILL : Field := ⟨533, 0, 13, .ro, .special .SCH_CTRL_REFILL⟩
def R.SCH_CTRL : Reg := ⟨"SCH_CTRL", 0x820000, [(32, 262144)], [F.SCH_CTRL_REFILL]⟩

/-! SCH_EVENT: spec/13_scheduling_shaping_gates.md, R386. -/
def F.SCH_EVENT_CFG_REFUSED : Field := ⟨534, 0, 1, .w1c, .num 0⟩
def R.SCH_EVENT : Reg := ⟨"SCH_EVENT", 0x820008, [(32, 262144)], [F.SCH_EVENT_CFG_REFUSED]⟩

/-! SCH_PORT_CFG: spec/13_scheduling_shaping_gates.md, R386. -/
def F.SCH_PORT_CFG_TRUST : Field := ⟨535, 0, 2, .rwp, .num 0⟩
def F.SCH_PORT_CFG_DEFAULT_CLASS : Field := ⟨536, 2, 3, .rwp, .num 0⟩
def F.SCH_PORT_CFG_PTP_CLASS7 : Field := ⟨537, 5, 1, .rwp, .num 1⟩
def R.SCH_PORT_CFG : Reg := ⟨"SCH_PORT_CFG", 0x820100, [(32, 262144), (17, 64)], [F.SCH_PORT_CFG_TRUST, F.SCH_PORT_CFG_DEFAULT_CLASS, F.SCH_PORT_CFG_PTP_CLASS7]⟩

/-! SCH_PCP_MAP: spec/13_scheduling_shaping_gates.md, R386. -/
def F.SCH_PCP_MAP_PCP : Field := ⟨538, 0, 24, .rwp, .num 16434824⟩
def R.SCH_PCP_MAP : Reg := ⟨"SCH_PCP_MAP", 0x820108, [(32, 262144), (17, 64)], [F.SCH_PCP_MAP_PCP]⟩

/-! SCH_DSCP_MAP: spec/13_scheduling_shaping_gates.md, R386. -/
def F.SCH_DSCP_MAP_DSCP : Field := ⟨539, 0, 48, .rwp, .special .SCH_DSCP_MAP_DSCP⟩
def R.SCH_DSCP_MAP : Reg := ⟨"SCH_DSCP_MAP", 0x820110, [(32, 262144), (17, 64), (4, 8)], [F.SCH_DSCP_MAP_DSCP]⟩

/-! SCH_PORT_SHAPER: spec/13_scheduling_shaping_gates.md, R567. -/
def F.SCH_PORT_SHAPER_EN : Field := ⟨540, 0, 1, .rwp, .num 0⟩
def F.SCH_PORT_SHAPER_RATE : Field := ⟨541, 1, 21, .rwp, .num 1600000⟩
def F.SCH_PORT_SHAPER_BURST : Field := ⟨542, 22, 24, .rwp, .num 1048576⟩
def R.SCH_PORT_SHAPER : Reg := ⟨"SCH_PORT_SHAPER", 0x820130, [(32, 262144), (16, 64)], [F.SCH_PORT_SHAPER_EN, F.SCH_PORT_SHAPER_RATE, F.SCH_PORT_SHAPER_BURST]⟩

/-! SCH_PORT_STATUS: spec/13_scheduling_shaping_gates.md, R567. -/
def F.SCH_PORT_STATUS_ELIGIBLE : Field := ⟨543, 0, 8, .ro, .num 0⟩
def F.SCH_PORT_STATUS_GATE_STATES : Field := ⟨544, 8, 8, .ro, .num 255⟩
def F.SCH_PORT_STATUS_SHAPER_BLOCKED : Field := ⟨545, 16, 1, .ro, .num 0⟩
def R.SCH_PORT_STATUS : Reg := ⟨"SCH_PORT_STATUS", 0x820138, [(32, 262144), (16, 64)], [F.SCH_PORT_STATUS_ELIGIBLE, F.SCH_PORT_STATUS_GATE_STATES, F.SCH_PORT_STATUS_SHAPER_BLOCKED]⟩

/-! SCH_SHAPER_CIR: spec/13_scheduling_shaping_gates.md, R567. -/
def F.SCH_SHAPER_CIR_EN : Field := ⟨546, 0, 1, .rwp, .num 0⟩
def F.SCH_SHAPER_CIR_RATE : Field := ⟨547, 1, 21, .rwp, .num 1600000⟩
def F.SCH_SHAPER_CIR_BURST : Field := ⟨548, 22, 24, .rwp, .num 1048576⟩
def R.SCH_SHAPER_CIR : Reg := ⟨"SCH_SHAPER_CIR", 0x820800, [(32, 262144), (16, 256), (8, 32)], [F.SCH_SHAPER_CIR_EN, F.SCH_SHAPER_CIR_RATE, F.SCH_SHAPER_CIR_BURST]⟩

/-! SCH_CBS: spec/13_scheduling_shaping_gates.md, R567. -/
def F.SCH_CBS_IDLE_SLOPE : Field := ⟨549, 0, 32, .rwp, .num 0⟩
def F.SCH_CBS_EN : Field := ⟨550, 32, 1, .ro, .special .SCH_CBS_EN⟩
def F.SCH_CBS_CREDIT : Field := ⟨551, 33, 31, .ro, .num 0⟩
def R.SCH_CBS : Reg := ⟨"SCH_CBS", 0x820808, [(32, 262144), (16, 256), (8, 32)], [F.SCH_CBS_IDLE_SLOPE, F.SCH_CBS_EN, F.SCH_CBS_CREDIT]⟩

/-! SCH_QMAP: spec/13_scheduling_shaping_gates.md, R567. -/
def F.SCH_QMAP_UQ_BASE : Field := ⟨552, 0, 5, .rwp, .special .SCH_QMAP_UQ_BASE⟩
def F.SCH_QMAP_SPAN : Field := ⟨553, 5, 2, .rwp, .num 0⟩
def R.SCH_QMAP : Reg := ⟨"SCH_QMAP", 0x820810, [(32, 262144), (16, 256), (8, 32)], [F.SCH_QMAP_UQ_BASE, F.SCH_QMAP_SPAN]⟩

/-! SCH_CLASS_STATUS: spec/13_scheduling_shaping_gates.md, R567. -/
def F.SCH_CLASS_STATUS_VTIME : Field := ⟨554, 0, 48, .ro, .num 0⟩
def F.SCH_CLASS_STATUS_SHAPER_BLOCKED : Field := ⟨555, 48, 1, .ro, .num 0⟩
def F.SCH_CLASS_STATUS_CBS_BLOCKED : Field := ⟨556, 49, 1, .ro, .num 0⟩
def F.SCH_CLASS_STATUS_PAUSED : Field := ⟨557, 50, 1, .ro, .num 0⟩
def R.SCH_CLASS_STATUS : Reg := ⟨"SCH_CLASS_STATUS", 0x820818, [(32, 262144), (16, 256), (8, 32)], [F.SCH_CLASS_STATUS_VTIME, F.SCH_CLASS_STATUS_SHAPER_BLOCKED, F.SCH_CLASS_STATUS_CBS_BLOCKED, F.SCH_CLASS_STATUS_PAUSED]⟩

/-! SCH_QUEUE_CFG: spec/13_scheduling_shaping_gates.md, R567. -/
def F.SCH_QUEUE_CFG_RANK : Field := ⟨558, 0, 6, .rwp, .special .SCH_QUEUE_CFG_RANK⟩
def F.SCH_QUEUE_CFG_WEIGHT : Field := ⟨559, 6, 10, .rwp, .num 1⟩
def F.SCH_QUEUE_CFG_DL_NS : Field := ⟨560, 16, 32, .rwp, .num 1000000⟩
def F.SCH_QUEUE_CFG_DL_BUDGET : Field := ⟨561, 48, 1, .rwp, .num 0⟩
def F.SCH_QUEUE_CFG_CLASS : Field := ⟨562, 49, 3, .ro, .special .SCH_QUEUE_CFG_CLASS⟩
def R.SCH_QUEUE_CFG : Reg := ⟨"SCH_QUEUE_CFG", 0x822000, [(32, 262144), (16, 384), (48, 8)], [F.SCH_QUEUE_CFG_RANK, F.SCH_QUEUE_CFG_WEIGHT, F.SCH_QUEUE_CFG_DL_NS, F.SCH_QUEUE_CFG_DL_BUDGET, F.SCH_QUEUE_CFG_CLASS]⟩

/-! RWE_STATUS: spec/15_rewrite_microcode.md, R428. -/
def F.RWE_STATUS_IN_SERVICE : Field := ⟨563, 0, 6, .ro, .num 63⟩
def F.RWE_STATUS_FENCED : Field := ⟨564, 6, 6, .ro, .num 0⟩
def F.RWE_STATUS_RELOADING : Field := ⟨565, 12, 6, .ro, .num 0⟩
def F.RWE_STATUS_UNDER_RATE : Field := ⟨566, 18, 1, .ro, .num 0⟩
def F.RWE_STATUS_PATCHED : Field := ⟨567, 19, 1, .ro, .num 0⟩
def R.RWE_STATUS : Reg := ⟨"RWE_STATUS", 0x828000, [(32, 262144)], [F.RWE_STATUS_IN_SERVICE, F.RWE_STATUS_FENCED, F.RWE_STATUS_RELOADING, F.RWE_STATUS_UNDER_RATE, F.RWE_STATUS_PATCHED]⟩

/-! RWE_EVENT: spec/15_rewrite_microcode.md, R428. -/
def F.RWE_EVENT_RESTART : Field := ⟨568, 0, 1, .w1c, .num 0⟩
def F.RWE_EVENT_CS_CORR : Field := ⟨569, 1, 1, .w1c, .num 0⟩
def F.RWE_EVENT_CS_UNCORR : Field := ⟨570, 2, 1, .w1c, .num 0⟩
def F.RWE_EVENT_CLUSTER_FENCED : Field := ⟨571, 3, 1, .w1c, .num 0⟩
def F.RWE_EVENT_UNDER_RATE : Field := ⟨572, 4, 1, .w1c, .num 0⟩
def F.RWE_EVENT_BAD_TARGET : Field := ⟨573, 5, 1, .w1c, .num 0⟩
def F.RWE_EVENT_WINDOW_OVERRUN : Field := ⟨574, 6, 1, .w1c, .num 0⟩
def F.RWE_EVENT_DEFAULT_REFUSED : Field := ⟨575, 7, 1, .w1c, .num 0⟩
def R.RWE_EVENT : Reg := ⟨"RWE_EVENT", 0x828008, [(32, 262144)], [F.RWE_EVENT_RESTART, F.RWE_EVENT_CS_CORR, F.RWE_EVENT_CS_UNCORR, F.RWE_EVENT_CLUSTER_FENCED, F.RWE_EVENT_UNDER_RATE, F.RWE_EVENT_BAD_TARGET, F.RWE_EVENT_WINDOW_OVERRUN, F.RWE_EVENT_DEFAULT_REFUSED]⟩

/-! RWE_PARAM_SHARE: spec/15_rewrite_microcode.md, R428. -/
def F.RWE_PARAM_SHARE_BASE : Field := ⟨576, 0, 18, .ro, .special .RWE_PARAM_SHARE_BASE⟩
def F.RWE_PARAM_SHARE_COUNT : Field := ⟨577, 18, 19, .ro, .special .RWE_PARAM_SHARE_COUNT⟩
def R.RWE_PARAM_SHARE : Reg := ⟨"RWE_PARAM_SHARE", 0x828010, [(32, 262144)], [F.RWE_PARAM_SHARE_BASE, F.RWE_PARAM_SHARE_COUNT]⟩

/-! RWE_CNT: spec/15_rewrite_microcode.md, R428. -/
def F.RWE_CNT_COUNT : Field := ⟨578, 0, 64, .rc, .num 0⟩
def R.RWE_CNT : Reg := ⟨"RWE_CNT", 0x828100, [(32, 262144), (6, 8)], [F.RWE_CNT_COUNT]⟩

/-! RWE_RECIPE: spec/15_rewrite_microcode.md, R428. -/
def F.RWE_RECIPE_LOADED : Field := ⟨579, 0, 1, .ro, .special .RWE_RECIPE_LOADED⟩
def F.RWE_RECIPE_PATCHED : Field := ⟨580, 1, 1, .ro, .num 0⟩
def F.RWE_RECIPE_STEPS : Field := ⟨581, 2, 5, .ro, .special .RWE_RECIPE_STEPS⟩
def F.RWE_RECIPE_GROW : Field := ⟨582, 7, 7, .ro, .special .RWE_RECIPE_GROW⟩
def F.RWE_RECIPE_ENTRY : Field := ⟨583, 14, 13, .ro, .special .RWE_RECIPE_ENTRY⟩
def R.RWE_RECIPE : Reg := ⟨"RWE_RECIPE", 0x828400, [(32, 262144), (256, 8)], [F.RWE_RECIPE_LOADED, F.RWE_RECIPE_PATCHED, F.RWE_RECIPE_STEPS, F.RWE_RECIPE_GROW, F.RWE_RECIPE_ENTRY]⟩

/-! RWE_RECIPE_CNT: spec/15_rewrite_microcode.md, R428. -/
def F.RWE_RECIPE_CNT_COUNT : Field := ⟨584, 0, 64, .rc, .num 0⟩
def R.RWE_RECIPE_CNT : Reg := ⟨"RWE_RECIPE_CNT", 0x828C00, [(32, 262144), (256, 8)], [F.RWE_RECIPE_CNT_COUNT]⟩

/-! RWE_PORT_DEFAULT: spec/15_rewrite_microcode.md, R428. -/
def F.RWE_PORT_DEFAULT_RECIPE : Field := ⟨585, 0, 8, .rwp, .num 0⟩
def F.RWE_PORT_DEFAULT_PARAM : Field := ⟨586, 8, 18, .rwp, .num 0⟩
def R.RWE_PORT_DEFAULT : Reg := ⟨"RWE_PORT_DEFAULT", 0x829400, [(32, 262144), (16, 8)], [F.RWE_PORT_DEFAULT_RECIPE, F.RWE_PORT_DEFAULT_PARAM]⟩

/-! GAT_PORT_CTRL: spec/13_scheduling_shaping_gates.md, R567. -/
def F.GAT_PORT_CTRL_ADMIN_EN : Field := ⟨587, 0, 1, .rw, .num 0⟩
def F.GAT_PORT_CTRL_CHANGE : Field := ⟨588, 1, 1, .wo, .num 0⟩
def F.GAT_PORT_CTRL_CANCEL : Field := ⟨589, 2, 1, .wo, .num 0⟩
def F.GAT_PORT_CTRL_ADMIN_LEN : Field := ⟨590, 8, 9, .rw, .num 0⟩
def R.GAT_PORT_CTRL : Reg := ⟨"GAT_PORT_CTRL", 0x830000, [(32, 262144), (16, 64)], [F.GAT_PORT_CTRL_ADMIN_EN, F.GAT_PORT_CTRL_CHANGE, F.GAT_PORT_CTRL_CANCEL, F.GAT_PORT_CTRL_ADMIN_LEN]⟩

/-! GAT_PORT_CYCLE: spec/13_scheduling_shaping_gates.md, R567. -/
def F.GAT_PORT_CYCLE_CYCLE_NS : Field := ⟨591, 0, 30, .rw, .num 1000000⟩
def R.GAT_PORT_CYCLE : Reg := ⟨"GAT_PORT_CYCLE", 0x830008, [(32, 262144), (16, 64)], [F.GAT_PORT_CYCLE_CYCLE_NS]⟩

/-! GAT_PORT_BASE_NS: spec/13_scheduling_shaping_gates.md, R370. -/
def F.GAT_PORT_BASE_NS_NS : Field := ⟨592, 0, 30, .rw, .num 0⟩
def R.GAT_PORT_BASE_NS : Reg := ⟨"GAT_PORT_BASE_NS", 0x830010, [(32, 262144), (16, 64)], [F.GAT_PORT_BASE_NS_NS]⟩

/-! GAT_PORT_BASE_S: spec/13_scheduling_shaping_gates.md, R370. -/
def F.GAT_PORT_BASE_S_SECONDS : Field := ⟨593, 0, 48, .rw, .num 0⟩
def R.GAT_PORT_BASE_S : Reg := ⟨"GAT_PORT_BASE_S", 0x830018, [(32, 262144), (16, 64)], [F.GAT_PORT_BASE_S_SECONDS]⟩

/-! GAT_PORT_STATUS: spec/13_scheduling_shaping_gates.md, R567. -/
def F.GAT_PORT_STATUS_OPER_EN : Field := ⟨594, 0, 1, .ro, .num 0⟩
def F.GAT_PORT_STATUS_PENDING : Field := ⟨595, 1, 1, .ro, .num 0⟩
def F.GAT_PORT_STATUS_STATES : Field := ⟨596, 2, 8, .ro, .num 255⟩
def F.GAT_PORT_STATUS_ENTRY : Field := ⟨597, 10, 8, .ro, .num 0⟩
def F.GAT_PORT_STATUS_OPER_LEN : Field := ⟨598, 18, 9, .ro, .num 0⟩
def F.GAT_PORT_STATUS_LIST_BASE : Field := ⟨599, 27, 11, .ro, .special .GAT_PORT_STATUS_LIST_BASE⟩
def R.GAT_PORT_STATUS : Reg := ⟨"GAT_PORT_STATUS", 0x830020, [(32, 262144), (16, 64)], [F.GAT_PORT_STATUS_OPER_EN, F.GAT_PORT_STATUS_PENDING, F.GAT_PORT_STATUS_STATES, F.GAT_PORT_STATUS_ENTRY, F.GAT_PORT_STATUS_OPER_LEN, F.GAT_PORT_STATUS_LIST_BASE]⟩

/-! GAT_PORT_CHANGE_NS: spec/13_scheduling_shaping_gates.md, R370. -/
def F.GAT_PORT_CHANGE_NS_NS : Field := ⟨600, 0, 30, .ro, .num 0⟩
def R.GAT_PORT_CHANGE_NS : Reg := ⟨"GAT_PORT_CHANGE_NS", 0x830028, [(32, 262144), (16, 64)], [F.GAT_PORT_CHANGE_NS_NS]⟩

/-! GAT_PORT_CHANGE_S: spec/13_scheduling_shaping_gates.md, R370. -/
def F.GAT_PORT_CHANGE_S_SECONDS : Field := ⟨601, 0, 48, .ro, .num 0⟩
def R.GAT_PORT_CHANGE_S : Reg := ⟨"GAT_PORT_CHANGE_S", 0x830030, [(32, 262144), (16, 64)], [F.GAT_PORT_CHANGE_S_SECONDS]⟩

/-! GAT_PORT_EVENT: spec/13_scheduling_shaping_gates.md, R567. -/
def F.GAT_PORT_EVENT_BASE_PAST : Field := ⟨602, 0, 1, .w1c, .num 0⟩
def F.GAT_PORT_EVENT_CFG_ERR : Field := ⟨603, 1, 1, .w1c, .num 0⟩
def F.GAT_PORT_EVENT_ADMIN_LOCKED : Field := ⟨604, 2, 1, .w1c, .num 0⟩
def F.GAT_PORT_EVENT_STARTED : Field := ⟨605, 3, 1, .w1c, .num 0⟩
def R.GAT_PORT_EVENT : Reg := ⟨"GAT_PORT_EVENT", 0x830038, [(32, 262144), (16, 64)], [F.GAT_PORT_EVENT_BASE_PAST, F.GAT_PORT_EVENT_CFG_ERR, F.GAT_PORT_EVENT_ADMIN_LOCKED, F.GAT_PORT_EVENT_STARTED]⟩

/-! GAT_SG_CTRL: spec/13_scheduling_shaping_gates.md, R567. -/
def F.GAT_SG_CTRL_ADMIN_EN : Field := ⟨606, 0, 1, .rw, .num 0⟩
def F.GAT_SG_CTRL_CHANGE : Field := ⟨607, 1, 1, .wo, .num 0⟩
def F.GAT_SG_CTRL_CANCEL : Field := ⟨608, 2, 1, .wo, .num 0⟩
def F.GAT_SG_CTRL_ADMIN_LEN : Field := ⟨609, 8, 9, .rw, .num 0⟩
def R.GAT_SG_CTRL : Reg := ⟨"GAT_SG_CTRL", 0x830400, [(32, 262144), (16, 64)], [F.GAT_SG_CTRL_ADMIN_EN, F.GAT_SG_CTRL_CHANGE, F.GAT_SG_CTRL_CANCEL, F.GAT_SG_CTRL_ADMIN_LEN]⟩

/-! GAT_SG_CYCLE: spec/13_scheduling_shaping_gates.md, R567. -/
def F.GAT_SG_CYCLE_CYCLE_NS : Field := ⟨610, 0, 30, .rw, .num 1000000⟩
def R.GAT_SG_CYCLE : Reg := ⟨"GAT_SG_CYCLE", 0x830408, [(32, 262144), (16, 64)], [F.GAT_SG_CYCLE_CYCLE_NS]⟩

/-! GAT_SG_BASE_NS: spec/13_scheduling_shaping_gates.md, R370. -/
def F.GAT_SG_BASE_NS_NS : Field := ⟨611, 0, 30, .rw, .num 0⟩
def R.GAT_SG_BASE_NS : Reg := ⟨"GAT_SG_BASE_NS", 0x830410, [(32, 262144), (16, 64)], [F.GAT_SG_BASE_NS_NS]⟩

/-! GAT_SG_BASE_S: spec/13_scheduling_shaping_gates.md, R370. -/
def F.GAT_SG_BASE_S_SECONDS : Field := ⟨612, 0, 48, .rw, .num 0⟩
def R.GAT_SG_BASE_S : Reg := ⟨"GAT_SG_BASE_S", 0x830418, [(32, 262144), (16, 64)], [F.GAT_SG_BASE_S_SECONDS]⟩

/-! GAT_SG_STATUS: spec/13_scheduling_shaping_gates.md, R380. -/
def F.GAT_SG_STATUS_OPER_EN : Field := ⟨613, 0, 1, .ro, .num 0⟩
def F.GAT_SG_STATUS_PENDING : Field := ⟨614, 1, 1, .ro, .num 0⟩
def F.GAT_SG_STATUS_OPEN : Field := ⟨615, 2, 1, .ro, .num 1⟩
def F.GAT_SG_STATUS_IPV : Field := ⟨616, 3, 3, .ro, .num 0⟩
def F.GAT_SG_STATUS_IPV_VALID : Field := ⟨617, 6, 1, .ro, .num 0⟩
def F.GAT_SG_STATUS_ENTRY : Field := ⟨618, 10, 8, .ro, .num 0⟩
def F.GAT_SG_STATUS_OPER_LEN : Field := ⟨619, 18, 9, .ro, .num 0⟩
def F.GAT_SG_STATUS_LIST_BASE : Field := ⟨620, 27, 11, .ro, .special .GAT_SG_STATUS_LIST_BASE⟩
def R.GAT_SG_STATUS : Reg := ⟨"GAT_SG_STATUS", 0x830420, [(32, 262144), (16, 64)], [F.GAT_SG_STATUS_OPER_EN, F.GAT_SG_STATUS_PENDING, F.GAT_SG_STATUS_OPEN, F.GAT_SG_STATUS_IPV, F.GAT_SG_STATUS_IPV_VALID, F.GAT_SG_STATUS_ENTRY, F.GAT_SG_STATUS_OPER_LEN, F.GAT_SG_STATUS_LIST_BASE]⟩

/-! GAT_SG_CHANGE_NS: spec/13_scheduling_shaping_gates.md, R370. -/
def F.GAT_SG_CHANGE_NS_NS : Field := ⟨621, 0, 30, .ro, .num 0⟩
def R.GAT_SG_CHANGE_NS : Reg := ⟨"GAT_SG_CHANGE_NS", 0x830428, [(32, 262144), (16, 64)], [F.GAT_SG_CHANGE_NS_NS]⟩

/-! GAT_SG_CHANGE_S: spec/13_scheduling_shaping_gates.md, R370. -/
def F.GAT_SG_CHANGE_S_SECONDS : Field := ⟨622, 0, 48, .ro, .num 0⟩
def R.GAT_SG_CHANGE_S : Reg := ⟨"GAT_SG_CHANGE_S", 0x830430, [(32, 262144), (16, 64)], [F.GAT_SG_CHANGE_S_SECONDS]⟩

/-! GAT_SG_EVENT: spec/13_scheduling_shaping_gates.md, R567. -/
def F.GAT_SG_EVENT_BASE_PAST : Field := ⟨623, 0, 1, .w1c, .num 0⟩
def F.GAT_SG_EVENT_CFG_ERR : Field := ⟨624, 1, 1, .w1c, .num 0⟩
def F.GAT_SG_EVENT_ADMIN_LOCKED : Field := ⟨625, 2, 1, .w1c, .num 0⟩
def F.GAT_SG_EVENT_STARTED : Field := ⟨626, 3, 1, .w1c, .num 0⟩
def R.GAT_SG_EVENT : Reg := ⟨"GAT_SG_EVENT", 0x830438, [(32, 262144), (16, 64)], [F.GAT_SG_EVENT_BASE_PAST, F.GAT_SG_EVENT_CFG_ERR, F.GAT_SG_EVENT_ADMIN_LOCKED, F.GAT_SG_EVENT_STARTED]⟩

/-! GAT_SG_ADMIN_LIST: spec/13_scheduling_shaping_gates.md, R370. -/
def F.GAT_SG_ADMIN_LIST_ENTRY : Field := ⟨627, 0, 38, .rw, .num 0⟩
def R.GAT_SG_ADMIN_LIST : Reg := ⟨"GAT_SG_ADMIN_LIST", 0x832000, [(32, 262144), (512, 8)], [F.GAT_SG_ADMIN_LIST_ENTRY]⟩

/-! GAT_SG_OPER_LIST: spec/13_scheduling_shaping_gates.md, R370. -/
def F.GAT_SG_OPER_LIST_ENTRY : Field := ⟨628, 0, 38, .ro, .num 0⟩
def R.GAT_SG_OPER_LIST : Reg := ⟨"GAT_SG_OPER_LIST", 0x833000, [(32, 262144), (512, 8)], [F.GAT_SG_OPER_LIST_ENTRY]⟩

/-! GAT_ADMIN_LIST: spec/13_scheduling_shaping_gates.md, R370. -/
def F.GAT_ADMIN_LIST_ENTRY : Field := ⟨629, 0, 38, .rw, .num 0⟩
def R.GAT_ADMIN_LIST : Reg := ⟨"GAT_ADMIN_LIST", 0x834000, [(32, 262144), (2048, 8)], [F.GAT_ADMIN_LIST_ENTRY]⟩

/-! GAT_OPER_LIST: spec/13_scheduling_shaping_gates.md, R370. -/
def F.GAT_OPER_LIST_ENTRY : Field := ⟨630, 0, 38, .ro, .num 0⟩
def R.GAT_OPER_LIST : Reg := ⟨"GAT_OPER_LIST", 0x838000, [(32, 262144), (2048, 8)], [F.GAT_OPER_LIST_ENTRY]⟩

/-! TSF_CTRL: spec/12_time_and_timestamps.md, R358. -/
def F.TSF_CTRL_PACE_EN : Field := ⟨631, 0, 1, .rwp, .num 1⟩
def F.TSF_CTRL_TS_CLASS : Field := ⟨632, 8, 8, .rwp, .num 128⟩
def F.TSF_CTRL_WATERMARK : Field := ⟨633, 16, 7, .ro, .special .TSF_CTRL_WATERMARK⟩
def R.TSF_CTRL : Reg := ⟨"TSF_CTRL", 0x83C000, [(32, 262144)], [F.TSF_CTRL_PACE_EN, F.TSF_CTRL_TS_CLASS, F.TSF_CTRL_WATERMARK]⟩

/-! TSF_STAT: spec/12_time_and_timestamps.md, R358. -/
def F.TSF_STAT_RECORDS : Field := ⟨634, 0, 7, .ro, .num 0⟩
def F.TSF_STAT_RESERVED : Field := ⟨635, 7, 7, .ro, .num 0⟩
def F.TSF_STAT_TELEM : Field := ⟨636, 14, 7, .ro, .num 0⟩
def F.TSF_STAT_PACING : Field := ⟨637, 21, 1, .ro, .num 0⟩
def R.TSF_STAT : Reg := ⟨"TSF_STAT", 0x83C008, [(32, 262144)], [F.TSF_STAT_RECORDS, F.TSF_STAT_RESERVED, F.TSF_STAT_TELEM, F.TSF_STAT_PACING]⟩

/-! TSF_EVENT: spec/12_time_and_timestamps.md, R358. -/
def F.TSF_EVENT_TSF_OVERFLOW : Field := ⟨638, 0, 1, .w1c, .num 0⟩
def F.TSF_EVENT_TELEM_DISPLACED : Field := ⟨639, 1, 1, .w1c, .num 0⟩
def R.TSF_EVENT : Reg := ⟨"TSF_EVENT", 0x83C010, [(32, 262144)], [F.TSF_EVENT_TSF_OVERFLOW, F.TSF_EVENT_TELEM_DISPLACED]⟩

/-! TSF_HEAD_0: spec/12_time_and_timestamps.md, R358. -/
def F.TSF_HEAD_0_TS_LOW : Field := ⟨640, 0, 64, .ro, .num 0⟩
def R.TSF_HEAD_0 : Reg := ⟨"TSF_HEAD_0", 0x83C018, [(32, 262144)], [F.TSF_HEAD_0_TS_LOW]⟩

/-! TSF_HEAD_1: spec/12_time_and_timestamps.md, R358. -/
def F.TSF_HEAD_1_TS_HIGH : Field := ⟨641, 0, 16, .ro, .num 0⟩
def F.TSF_HEAD_1_SEQUENCE_ID : Field := ⟨642, 16, 16, .ro, .num 0⟩
def F.TSF_HEAD_1_MSG_TYPE : Field := ⟨643, 32, 4, .ro, .num 0⟩
def F.TSF_HEAD_1_DOMAIN : Field := ⟨644, 36, 8, .ro, .num 0⟩
def F.TSF_HEAD_1_PORT : Field := ⟨645, 44, 10, .ro, .num 0⟩
def F.TSF_HEAD_1_VALID : Field := ⟨646, 63, 1, .ro, .num 0⟩
def R.TSF_HEAD_1 : Reg := ⟨"TSF_HEAD_1", 0x83C020, [(32, 262144)], [F.TSF_HEAD_1_TS_HIGH, F.TSF_HEAD_1_SEQUENCE_ID, F.TSF_HEAD_1_MSG_TYPE, F.TSF_HEAD_1_DOMAIN, F.TSF_HEAD_1_PORT, F.TSF_HEAD_1_VALID]⟩

/-! TSF_POP: spec/12_time_and_timestamps.md, R358. -/
def F.TSF_POP_POP : Field := ⟨647, 0, 1, .wo, .num 0⟩
def R.TSF_POP : Reg := ⟨"TSF_POP", 0x83C028, [(32, 262144)], [F.TSF_POP_POP]⟩

/-! TSF_CNT: spec/12_time_and_timestamps.md, R358. -/
def F.TSF_CNT_COUNT : Field := ⟨648, 0, 64, .rc, .num 0⟩
def R.TSF_CNT : Reg := ⟨"TSF_CNT", 0x83C100, [(32, 262144), (3, 8)], [F.TSF_CNT_COUNT]⟩

def regs0 : List Reg := [R.TOP_ID, R.TOP_BOOT, R.TOP_RESET_CAUSE, R.TOP_RESET_CTRL, R.TOP_FENCE, R.TOP_ENTROPY, R.TOP_CAPACITY, R.HUM_DEVICE_STATE, R.HUM_HIB_WAKE, R.HUM_TEMP, R.CLK_QCTRL, R.CLK_STATUS, R.NVM_STATUS, R.NVM_WCOUNT, R.FWM_CMD, R.FWM_ARG]
def regs1 : List Reg := [R.FWM_DOORBELL, R.FWM_STATUS, R.FWM_RESP_0, R.FWM_RESP_1, R.FWM_RESP_POP, R.PTL_STATUS, R.PTL_ACTIVE_SERIAL, R.PTL_SWAP, R.PTL_CLAIM_ERR, R.HST_RING_BASE, R.HST_RING_CTRL, R.HST_RING_TAIL, R.HST_RING_HEAD, R.HST_RING_CPL_BASE, R.HST_RING_CPL_TAIL, R.HST_RING_WB]
def regs2 : List Reg := [R.HST_RING_EVENT, R.HST_INT_CAUSE, R.HST_INT_MASK, R.HST_INT_PIN, R.HST_TRAP_QUEUE, R.HST_PORT_CNT, R.FLT_MODE, R.FLT_STATUS, R.FLT_MSG_HI, R.FLT_MSG_LO, R.FLT_MSG_POP, R.FLT_CAP_SEL, R.FLT_CAP_0, R.FLT_CAP_1, R.FLT_CAP_2, R.FLT_CAP_VALID]
def regs3 : List Reg := [R.FLT_FENCED, R.FLT_FENCE_CMD, R.FLT_LOG_CTRL, R.FLT_LOG_STAT, R.FLT_UNAVAIL, R.TIM_NOW_LO, R.TIM_NOW_HI, R.TIM_RATE, R.TIM_ADJ_ARG_NS, R.TIM_ADJ_ARG_S, R.TIM_ADJ_CTRL, R.TIM_EVENT, R.TIM_CAP_CTRL, R.TIM_CAP_LO, R.TIM_CAP_HI, R.TIM_PPS_OUT]
def regs4 : List Reg := [R.TIM_PPS_WIDTH, R.TIM_TOD_OUT, R.TIM_TOD_IN_0, R.TIM_TOD_IN_1, R.TIM_BC_DOMAIN, R.TIM_CNT, R.TIM_PORT_PTP, R.TUE_RING_BASE, R.TUE_RING_CTRL, R.TUE_RING_TAIL, R.TUE_RING_HEAD, R.TUE_CPL_BASE, R.TUE_CPL_HEAD, R.TUE_CPL_TAIL, R.TUE_EPOCH, R.TUE_EVENT]
def regs5 : List Reg := [R.TUE_ORDER_STRICT, R.TUE_CUT_STATUS, R.TUE_CNT, R.EXM_TABLE_CFG, R.EXM_TABLE_STAT, R.EXM_SWEEP, R.EXM_EVT_BASE, R.EXM_EVT_CTRL, R.EXM_EVT_HEAD, R.EXM_EVT_TAIL, R.EXM_EVENT, R.EXM_BANK_MAP, R.EXM_CNT, R.EXM_PORT_LEARN, R.EXM_PORT_TABLES, R.MCR_CNT]
def regs6 : List Reg := [R.MRG_CNT, R.MRG_EVENT, R.RNG_GROUP_CFG, R.RNG_GROUP_CTX, R.RNG_GROUP_STATUS, R.RNG_PROBE, R.RNG_SPAN, R.RNG_CNT, R.RNG_EVENT, R.CSW_STATUS, R.CSW_EVENT, R.DRC_CFG, R.DRC_STATUS, R.DRC_SHARE, R.DRC_EVENT, R.DRC_FREEZE_0]
def regs7 : List Reg := [R.DRC_FREEZE_1, R.DRC_DIAG_SEL, R.DRC_DIAG_DATA, R.DRC_CNT, R.DRC_TELEM_STAT, R.DRC_TELEM_EXPORT_ADDR, R.DRC_TELEM_EXPORT_CTRL, R.ELY_SLOT_CMD, R.ELY_SLOT_STATUS, R.ELY_SLOT_ACT_PN, R.ELY_SLOT_STG_CFG, R.ELY_SLOT_STG_PN, R.ELY_SLOT_STG_SALT_HI, R.ELY_SLOT_STG_SALT_LO, R.ELY_SLOT_STG_KEY, R.POL_CNT]
def regs8 : List Reg := [R.POL_EVENT, R.PWQ_TILE_SLEEP, R.PWQ_PORT_SLEEP, R.BUF_POOL_CFG, R.BUF_POOL_STAT, R.BUF_SHELTER_STAT, R.BUF_PROFILE_ADM, R.BUF_PROFILE_AGE, R.BUF_DROP_CNT, R.BUF_DROP_LAST, R.BUF_EVENT, R.BUF_FOREIGN_FREE, R.BUF_FREE, R.BUF_SEXTON_CTRL, R.BUF_SEXTON_LAST, R.BUF_DEEP_STAT]
def regs9 : List Reg := [R.BUF_PORT_DROP, R.BUF_PORT_BUDGET, R.BUF_HOST_QUEUE_CFG, R.BUF_QUEUE_CFG, R.TCM_REGION, R.TCM_STATUS, R.TCM_EVENT, R.TCM_CTRL, R.TCM_CNT, R.TCM_ROUTER_MAC, R.TCM_PORT_L3, R.TCM_ACL_CNT, R.SMP_CTRL, R.SMP_EVENT, R.SMP_CNT, R.SMP_WATCH]
def regs10 : List Reg := [R.SMP_LAST, R.SMP_MAX, R.PRT_CFG, R.PRT_STATUS, R.PRT_EVENT, R.PRT_LINK_HOLD, R.PRT_FC_TX, R.PRT_PFC_MAP, R.PRT_MAC_SA, R.PRT_SEC_CFG, R.PRT_SEC_SCI, R.PRT_SEC_PEER_SCI, R.PRT_SEC_LIMIT, R.PRT_SEC_EVENT, R.PRT_SEC_CNT, R.PRT_CNT]
def regs11 : List Reg := [R.OPT_STATUS, R.OPT_EVENT, R.OPT_LASER_PWR, R.OPT_LANE_PWR, R.PRS_FARM, R.PRS_SPARE_MASK, R.PRS_EVENT, R.PRS_GROUP, R.PRS_TILE_CNT, R.PRS_PORT_CNT, R.SCH_CTRL, R.SCH_EVENT, R.SCH_PORT_CFG, R.SCH_PCP_MAP, R.SCH_DSCP_MAP, R.SCH_PORT_SHAPER]
def regs12 : List Reg := [R.SCH_PORT_STATUS, R.SCH_SHAPER_CIR, R.SCH_CBS, R.SCH_QMAP, R.SCH_CLASS_STATUS, R.SCH_QUEUE_CFG, R.RWE_STATUS, R.RWE_EVENT, R.RWE_PARAM_SHARE, R.RWE_CNT, R.RWE_RECIPE, R.RWE_RECIPE_CNT, R.RWE_PORT_DEFAULT, R.GAT_PORT_CTRL, R.GAT_PORT_CYCLE, R.GAT_PORT_BASE_NS]
def regs13 : List Reg := [R.GAT_PORT_BASE_S, R.GAT_PORT_STATUS, R.GAT_PORT_CHANGE_NS, R.GAT_PORT_CHANGE_S, R.GAT_PORT_EVENT, R.GAT_SG_CTRL, R.GAT_SG_CYCLE, R.GAT_SG_BASE_NS, R.GAT_SG_BASE_S, R.GAT_SG_STATUS, R.GAT_SG_CHANGE_NS, R.GAT_SG_CHANGE_S, R.GAT_SG_EVENT, R.GAT_SG_ADMIN_LIST, R.GAT_SG_OPER_LIST, R.GAT_ADMIN_LIST]
def regs14 : List Reg := [R.GAT_OPER_LIST, R.TSF_CTRL, R.TSF_STAT, R.TSF_EVENT, R.TSF_HEAD_0, R.TSF_HEAD_1, R.TSF_POP, R.TSF_CNT]

/-- Every register of BAR0, in the order of its offset (R506, Table 20.1). -/
def allRegs : List Reg := regs0 ++ regs1 ++ regs2 ++ regs3 ++ regs4 ++ regs5 ++ regs6 ++ regs7 ++ regs8 ++ regs9 ++ regs10 ++ regs11 ++ regs12 ++ regs13 ++ regs14

end Sys2Proof.Machine
end

