-- ==== Sys2Proof/Machine/Units.lean ====
section
/-! DEFINITION. The frame path, the tables and the engines as parts of the state: frames at every stage, buffers, queues, TCAM rows, objects, merge windows, gate lists, key slots, telemetry rings, table commands and cuts. -/

namespace Sys2Proof.Machine

/-- A decision that a transmit descriptor gives (R514). -/
structure Direct where
  dest : Nat
  queue : Nat
  recipe : Nat
  param : Nat
  deriving DecidableEq, Repr, Inhabited

/-- A frame inside the module; its bytes go without the FCS (log 12). -/
structure Frame where
  /-- Number of the frame, in order of arrival. -/
  id : Nat
  /-- Ingress port, host ports included. -/
  port : Nat
  bytes : List Byte
  /-- Counters of PRT_CNT that the receive MAC raised for it, and by how much (R145). -/
  tally : List (Nat × Nat)
  /-- A ring probe of this module: 0 none, 1 request, 2 reply (R401). -/
  probe : Nat
  /-- 0 none, 1 errored under R147, 2 errored under R195. -/
  mark : Nat
  /-- Elapsed time of the last byte. -/
  endAt : Nat
  /-- Elapsed time from which the mark shows: the byte at which the frame runs longer or is cut off, or its end (R195, R197). -/
  markAt : Nat
  /-- Staging has cut the frame off and holds none of its bytes (R197). -/
  cutOff : Bool
  /-- t_rx on the local scale in quarter ns; for a host-injected frame its DMA fetch (R317, R336). -/
  rxQ : Nat
  /-- t_rx in quarter ns of PTP time; none for a host-injected frame (R342). -/
  rxPtp : Option Nat
  vec : ParseVec
  /-- The frame head ends inside a header (R190). -/
  trunc : Bool
  tsMode : Nat
  /-- REF_TIME of the descriptor, in quarter nanoseconds (R345). -/
  refTime : Nat
  direct : Option Direct
  /-- Buffer that a FORM 1 descriptor reinjects (R312). -/
  handle : Option Nat
  epoch : Nat
  /-- Mapped class and frame class (R359). -/
  mapped : Nat
  cls : Nat
  hash : Nat
  /-- Fabric plane that it crosses by (R264, R266). -/
  plane : Nat
  /-- A local copy of a ring frame, which leaves the ring (R399). -/
  ringLocal : Bool
  /-- Cuts applied before its lookup, and cuts that its port saw early (R292, R293, R295). -/
  cutsSeen : Nat
  early : List Nat
  deriving DecidableEq, Repr, Inhabited

/-- Where one copy goes. -/
inductive Target where
  | unicast (port recipe param : Nat)
  /-- Host port by quadrant, local host queue, REASON of Table 20.4. -/
  | host (h queue reason : Nat)
  /-- Host or front queue that a descriptor names (R514). -/
  | directed (d : Direct)
  /-- Multicast group copy: first entry, count, SHELTER. -/
  | group (first count : Nat) (shelter : Bool)
  deriving DecidableEq, Repr, Inhabited

/-- A copy on its way over the crossbar to a quadrant. -/
structure Copy where
  frame : Frame
  quadrant : Nat
  target : Target
  /-- Merge context and member. -/
  merge : Option (Nat × Nat)
  /-- Ring group that a transit copy stays on (R396). -/
  transit : Option Nat
  /-- Ring port that a local copy must not leave by (R396). -/
  localOf : Option Nat
  /-- Time at which it reached the crossbar (R302, R393). -/
  since : Nat := 0
  deriving DecidableEq, Repr, Inhabited

/-- A reorder entry: its frame, the group and configuration that it was dealt under (R56), the engine that holds the head, none while it waits to be dealt again, errors met, completion (R199 to R202). -/
structure FarmEntry where
  frame : Frame
  cfg : Nat × ParseCfg
  engine : Option Nat
  errors : Nat
  done : Bool
  /-- The engine whose error its restart answers, until it is dealt again (R493). -/
  erred : Option Nat := none
  deriving DecidableEq, Repr, Inhabited

/-- The farm of a tile: heads released and not dealt, reorder entries earliest first, engine at which the rotation goes on. -/
structure Farm where
  heads : List Frame
  entries : List FarmEntry
  last : Nat
  deriving DecidableEq, Repr, Inhabited

/-- A buffer in use. -/
structure Buf where
  frame : Frame
  /-- 0 ordinary, else 1 + partition (R309). -/
  region : Nat
  size : Nat
  holders : Nat
  /-- The closer's departure frees the buffer; a unicast frame is its own closer (R315). -/
  closerGone : Bool
  /-- The host owns the buffer (R312). -/
  hostOwned : Bool
  /-- Time of the walk that found it unreferenced (R323). -/
  marked : Option Nat
  deriving DecidableEq, Repr, Inhabited

/-- One frame or replica in a queue, in a rewrite engine or on the wire. -/
structure QEntry where
  buf : Nat
  recipe : Nat
  param : Nat
  closer : Bool
  /-- EDF deadline in ns modulo 2^32 (R366). -/
  deadline : Nat
  /-- Ring sequence taken (R398). -/
  ringSeq : Option Nat
  /-- REASON for the host (Table 20.4). -/
  reason : Nat
  /-- A sample marked it as tail (R386). -/
  stamp : Bool
  /-- It is a multicast replica. -/
  replica : Bool
  deriving DecidableEq, Repr, Inhabited

/-- Start, finish and last finish tags of a queue (R365). -/
structure Tags where
  start : Nat
  finish : Nat
  last : Nat
  deriving DecidableEq, Repr, Inhabited

/-- A frame in a rewrite engine. -/
structure Rewriting where
  entry : QEntry
  queue : Nat
  /-- Place in the order in which the tile dequeued (R417). -/
  order : Nat
  cluster : Nat
  /-- The routine has been restarted after a fault or read error (R420). -/
  faulted : Bool
  /-- The frame waits for an engine: for its first, or to be dealt again (R408, R418). -/
  waiting : Bool
  /-- The routine has been abandoned and restarts from its entry word (R418). -/
  abandoned : Bool
  /-- It has found no engine free since it began to wait (R408). -/
  held : Bool := false
  /-- Class of its queue as it was dequeued, and W_b charged to the shapers (R367). -/
  cls : Nat
  charged : Nat
  /-- A timestamp FIFO entry is reserved (R350). -/
  reserved : Bool
  /-- Parameter entry content that a routine restarted by an epoch abort finishes on (R419). -/
  content : Option Nat
  deriving DecidableEq, Repr, Inhabited

/-- A frame on the wire: the bytes sent without FCS, t_tx in quarter ns on the local scale and of PTP. -/
structure OnWire where
  entry : QEntry
  queue : Nat
  sent : List Byte
  txQ : Nat
  txPtp : Nat
  cls : Nat
  charged : Nat
  reserved : Bool
  deriving DecidableEq, Repr, Inhabited

/-- A port's live state outside its registers. -/
structure PortLive where
  /-- Alignment delay measured at link-up, ns (R340). -/
  deskew : Nat
  /-- Frames are discarded as LINK_FLUSH as they are enqueued (R141). -/
  flushing : Bool
  /-- Pause frames waiting: class enable bits and quanta (R159). -/
  pauses : List (Nat × Nat)
  /-- Classes that a received pause holds back from the next frame boundary on (R156). -/
  pauseIn : Nat
  /-- Elapsed time at which the running link hold expires (R140). -/
  holdUntil : Nat
  rewriting : List Rewriting
  wire : List OnWire
  /-- Lane fenced in the lower half, or the port not narrowed: the port stays down. -/
  held : Bool
  /-- The link has come up since the port was brought into service (R568). -/
  wasUp : Bool
  /-- The next frame waits until earlier frames have crossed (R266). -/
  orderHold : Bool
  /-- The secure channels as they are in force (R448). -/
  secTx : Bool
  secRx : Bool
  deriving DecidableEq, Repr, Inhabited

/-- A transmit timestamp FIFO entry of a tile: port, domain, type, sequence, t_tx in quarter ns (R350). -/
structure TsRecord where
  port : Nat
  domain : Nat
  msgType : Nat
  seqId : Nat
  txPtp : Nat
  deriving DecidableEq, Repr, Inhabited

/-- Free bytes of a quadrant at an instant: of regions 0 to 4 on-die (R309, R310), and of its DRAM pools (R326). -/
structure FreeAt where
  region : List Nat
  dram : Nat
  deriving DecidableEq, Repr, Inhabited

/-- The cycle of a quadrant in which it last allocated: its elapsed time, when the copies that it serves reached the crossbar, the ingress tile served last, the free bytes at its start, and whether an arrival in it was discarded (R302, R308, R331). -/
structure QuadCycle where
  now : Nat
  since : Nat
  tile : Nat
  free : FreeAt
  dropped : Bool := false
  deriving DecidableEq, Repr, Inhabited

/-- A shaper as it is in force: settings taken at the last refill, bucket in 2^-16 bytes, time of the last write of its register (R367, R368). -/
structure Shaper where
  on : Bool
  rate : Nat
  burst : Nat
  bucket : Int
  wrote : Option Nat
  /-- Settings written before the instant `wrote` and still to be taken by a refill of that instant (R368). -/
  due : Option (Bool × Nat × Nat)
  deriving DecidableEq, Repr, Inhabited

/-- The frame path. -/
structure Path where
  /-- Frames numbered so far. -/
  ids : Nat
  /-- Frames staged and not released, by port. -/
  staging : SMap (List Frame)
  farms : SMap Farm
  /-- Copies that cross, oldest first. -/
  crossing : List Copy
  /-- Cycle under way, by quadrant (R308). -/
  cycles : SMap QuadCycle
  /-- Buffers in use by handle (R305). -/
  bufs : SMap Buf
  /-- Queues by global ID, head first. -/
  queues : SMap (List QEntry)
  /-- Queues that have dequeued since the last head check (R319). -/
  dequeued : List Nat
  tags : SMap Tags
  /-- Class shapers by 9 × port + class, port shaper 9 × port + 8. -/
  shapers : SMap Shaper
  /-- CBS credits in 10^-7 bits by 8 × port + class (R369). -/
  credits : SMap Int
  /-- Frames dequeued so far. -/
  dequeues : Nat
  ports : SMap PortLive
  /-- Cluster dealt last, by tile (R406). -/
  cluster : SMap Nat
  /-- Transmit timestamp records by tile, oldest first. -/
  tsf : SMap (List TsRecord)
  /-- Departure stamps on their way to the ring, and what the write of each meets there, by tile, oldest first (R353, R466). -/
  stamps : SMap (List (Nat × DramFault))
  /-- Time until which a frame of a tile last waited for an engine (R408). -/
  waited : SMap Nat
  /-- Telemetry records of a quadrant since its last sample instant (R386). -/
  records : SMap Nat
  /-- Quadrants that slept since their last sample, and time of the resumption (R385). -/
  gaps : SMap Nat
  /-- Frames being written to host memory, by receive ring: their queue, entry, and bytes written (R516). -/
  delivering : SMap (Nat × QEntry × Nat)
  deriving DecidableEq, Repr

/-- A TCAM row and its shadow copy; a wide entry stands at its even row with 320 bits (R234, R252). -/
structure TcamRow where
  wide : Bool
  value : Nat
  mask : Nat
  action : Nat
  prio : Nat
  deriving DecidableEq, Repr, Inhabited

/-- The TCAMs: rows by 131,072 × quadrant + row; masked rows. -/
structure Tcam where
  rows : SMap TcamRow
  suspect : List Nat
  fenced : List Nat
  /-- Masked under R255 until rewritten. -/
  lost : List Nat
  /-- Rows that miss through a flipped cell until they are rewritten (R254). -/
  missing : List Nat
  deriving DecidableEq, Repr

/-- A merge window of one quadrant (R391): time of the last pass in 0.2 ns, history as bits. -/
structure Window where
  rseq : Nat
  hist : Nat
  span : Nat
  takeAny : Bool
  last : Nat
  ssrc : Nat
  deriving DecidableEq, Repr, Inhabited

/-- A gate list in force or pending: entries in the layout of Table 13.1 or 13.4, start and cycle in ns. -/
structure GateList where
  entries : List Nat
  start : Nat
  cycle : Nat
  /-- The list gives way to no list at its start (ADMIN_EN 0, R374). -/
  clear : Bool
  deriving DecidableEq, Repr, Inhabited

/-- Gate control of one port or stream gate unit. -/
structure Gate where
  oper : Option GateList
  pending : Option GateList
  deriving DecidableEq, Repr, Inhabited

/-- A half of a key slot (R434). -/
structure Half where
  valid : Bool
  suite : Nat
  an : Nat
  /-- Key words 0 to 3. -/
  key : Nat
  /-- STG_PN of a staged half, which it carries to transmit as its next PN and to receive as the lowest acceptable PN until it is used (R440). -/
  pn : Nat
  /-- Receive: highest accepted PN, 0 when none. -/
  high : Nat
  ssci : Nat
  salt : Nat
  deriving DecidableEq, Repr, Inhabited

/-- A key slot beside its registers: the active half, the staged key and which words have been written, a pending ZEROIZE. -/
structure KeySlot where
  active : Half
  stagedKey : Nat
  written : Nat
  zeroing : Bool
  /-- The soft-limit event of the active SA has been raised (R438). -/
  soft : Bool
  deriving DecidableEq, Repr, Inhabited

/-- A burst that waits in a write queue: its byte address in the stack, and whether it is a telemetry write (R459). -/
structure DramWrite where
  addr : Nat
  telem : Bool
  deriving DecidableEq, Repr, Inhabited

/-- A read that waits for pending writes (R459, R460): the read-back of a queue's first deep frame and what it meets, or the export. -/
inductive DramWait where
  | readback (queue buf : Nat) (fault : DramFault)
  | records (fault : DramFault)
  deriving DecidableEq, Repr

/-- A stack beside its registers. -/
structure Stack where
  /-- Temperature of the last full training, none before the first (R463). -/
  trainedAt : Option Int
  /-- Instant of that training. -/
  since : Nat
  /-- Write queues by pseudo-channel, oldest first, 64 entries each (R459). -/
  writes : SMap (List DramWrite)
  /-- Pseudo-channels whose writes take priority over reads (R459). -/
  flooded : List Nat
  /-- Reads that wait (R460). -/
  waits : List DramWait
  /-- Retraining under way: the command's tag, and whether the stack still drains (R464). -/
  retrain : Option (Nat × Bool)
  /-- Pseudo-channels powered down (R469). -/
  pcDown : List Nat
  /-- Telemetry records by index in the ring (R456). -/
  ring : SMap Nat
  /-- Export under way: host address, first record, count (R457). -/
  exporting : Option (Nat × Nat × Nat)
  deriving DecidableEq, Repr, Inhabited

/-- A command that TUE has accepted and not completed (R267). -/
structure TueCmd where
  slot : Nat
  word : Nat
  /-- Order of acceptance over all rings. -/
  seq : Nat
  /-- Tables with EXM_SWEEP.AGE_EN set, and WAIT_US of the ring, as its doorbell found them (R263). -/
  ageEn : Nat
  waitUs : Nat
  /-- A quadrant that it names has been reset, quiesced or fenced since it was accepted (Table 10.5). -/
  aborted : Bool
  deriving DecidableEq, Repr, Inhabited

/-- A pending epoch: its number, the ring and tag of its command, its record still owed for a timeout. -/
structure PendEpoch where
  epoch : Nat
  ring : Nat
  tag : Nat
  timeout : Bool
  deriving DecidableEq, Repr, Inhabited

/-- A change held in the cut store (R288), and the slot that an insert reserved. -/
structure CutChange where
  opcode : Nat
  flags : Nat
  space : Nat
  quad : Nat
  index : Nat
  body : Nat
  place : Option (Nat × Nat × Nat)
  /-- Tables with EXM_SWEEP.AGE_EN set as the doorbell found them (R263). -/
  ageEn : Nat
  /-- Windows of a merge context that frames of the watch port have used before T_x, by quadrant (R292). -/
  windows : SMap Window
  deriving DecidableEq, Repr, Inhabited

/-- A cut: state 1 open, 2 armed, 3 applying (TUE_CUT_STATUS). Times in quarter ns. -/
structure Cut where
  /-- Its number among all cuts opened. -/
  uid : Nat
  state : Nat
  mode : Nat
  changes : List CutChange
  ring : Nat
  tag : Nat
  t : Nat
  watch : Nat
  stream : Nat
  waitNs : Nat
  gapNs : Nat
  /-- T_x once fixed by a marker, a gap, a wait or AT_TIME. -/
  tx : Option Nat
  late : Bool
  waitExpired : Bool
  isPartial : Bool
  /-- Quadrants that took no part (R298). -/
  missed : List Nat
  /-- Elapsed time in 0.2 ns of the last lookup of the named stream, arming included (R293, R337). -/
  lastLook : Nat
  deriving DecidableEq, Repr, Inhabited

/-- What an object held before a cut, for the frames looked up before T_x: the cut's place among those applied and its number, the object, its content and the windows of a merge context by quadrant (R295). -/
structure OldObj where
  order : Nat
  uid : Nat
  kind : Nat
  index : Nat
  value : Nat
  windows : SMap Window
  deriving DecidableEq, Repr, Inhabited

/-- The table update engine. -/
structure Tue where
  /-- Commands read from each ring and not accepted, oldest first. -/
  waiting : SMap (List TueCmd)
  flight : SMap (List TueCmd)
  /-- Records held while host access is stopped: ring and record (R508). -/
  held : List (Nat × Nat)
  /-- Records owed, by ring (R268). -/
  owed : SMap Nat
  /-- Ring served last (R268). -/
  served : Nat
  accepted : Nat
  epochs : List PendEpoch
  cuts : SMap Cut
  /-- Cuts opened and cuts applied so far. -/
  opened : Nat
  applied : Nat
  /-- Contents that frames looked up before a cut still read, earliest cut first (R295). -/
  olds : List OldObj
  deriving DecidableEq, Repr

/-- Tables beside the exact-match fabric: objects by 2^22 × kind + index, merge windows by 4 × context + quadrant. -/
structure Tables where
  objs : SMap Nat
  windows : SMap Window
  /-- Central time of the last access to a meter, in 0.2 ns, and the fraction of a byte left, TC then TP (R383). -/
  meterAt : SMap (Nat × Nat × Nat)
  deriving DecidableEq, Repr

/-- The Yarro ring agent of one ring port: probe number and t1 of the last request in quarter ns, numbers of the requests without a reply, oldest first. -/
structure Probe where
  number : Nat
  t1 : Nat
  waiting : List Nat
  deriving DecidableEq, Repr, Inhabited

end Sys2Proof.Machine
end

