-- ==== Sys2Proof/Machine/State.lean ====
section
/-! DEFINITION. The state of the module, its faults and refusals, and the machine right after reset. -/

namespace Sys2Proof.Machine

/-- The whole machine as plain data. -/
structure State where
  variant : Variant
  /-- Time since the first step, in 0.2 ns (log 1). -/
  elapsed : Nat
  /-- Draws of free values so far (log 17). -/
  freeCtr : Nat
  /-- Register fields that differ from reset, by 1,024 × instance + field number. -/
  regs : SMap Nat
  /-- The 64 MiB NVM (R88). -/
  nvm : Mem
  /-- Stores made to each region since manufacture, kept in the reserved area (R88, NVM_WCOUNT). -/
  nvmCount : SMap Nat
  nvmJob : Option NvmJob
  image : Image
  swap : Option SwapJob
  handover : Handover
  pins : Pins
  boot : BootInfo
  sundew : Sundew
  host : HostIf
  clocks : Clocks
  optics : Optics
  time : Timebase
  exm : Exm
  path : Path
  tcam : Tcam
  tables : Tables
  /-- Gate control: ports by number, stream gates by 512 + 16 × tile + unit. -/
  gates : SMap Gate
  /-- Key slots in use (R434). -/
  keys : SMap KeySlot
  drams : SMap Stack
  tue : Tue
  /-- Probes by ring port. -/
  probes : SMap Probe
  out : Outputs
  /-- Commands waiting, first in first out. -/
  pending : List Instr
  deriving DecidableEq, Repr

/-- Why the machine stops. -/
inductive Fault where
  /-- An access beyond the 16 MiB of BAR0 or the 8 KiB of BAR2, an address the endpoint does not decode (R506); raised by the register commands; safe. -/
  | outsideBar0
  deriving DecidableEq, Repr

/-- Why a command has no meaning here. -/
inductive Refusal where
  /-- A command not modelled yet; raised by the dispatch; safe. -/
  | notModelled (mnemonic : String)
  deriving DecidableEq, Repr

/-- The bare image (R51, R423, R511, R561): it always validates, with no port, every quadrant at 0.8 GHz, the default rings, and recipe 0x00 in every cluster. DESIGN CHOICE (log 125): the spec says nothing more of its layers, nor of LENGTH and CRC of any of them. They are empty here (no pool, no sheltered buffer, no spare, floor 0) but for what the loader's checks ask of every image: the host ports parse 64 bytes, the stages stand in the order of their codes, the sampler runs once a second. The directory is empty, by which every PEAT_SWAP_LAYER on it is refused (R53). -/
def bareImage : Image where
  serial := 0
  source := .bare
  dir := []
  layers :=
    { clock := { boot := [(0, 2), (1, 2), (2, 2), (3, 2)], floor := [(0, 2), (1, 2), (2, 2), (3, 2)] }
      parse := { groups := (List.range 4).map fun h => (64 * h, { depth := 64, hdrs := 0 }) }
      search := { stageOrder := [.acl, .host, .sg, .lpm, .fdb] }
      sched := { samplePeriod := (List.range 4).map fun q => (q, 1000000000) }
      rewrite := { recipes := (List.range 192).map fun k => (k, [0]) }
      host :=
        { owner := [(0, 0), (8, 1), (16, 2), (24, 3), (32, 0), (40, 1), (48, 2), (56, 3)]
          queues := [(0, List.range 16), (8, List.range' 16 16), (16, List.range' 32 16), (24, List.range' 48 16)] } }

/-- The machine right after reset: a cold reset, POR_N low, every rail present (R66, R80; log 4). -/
def State.reset : State where
  variant := .o
  elapsed := 0
  freeCtr := 0
  regs := []
  nvm := []
  nvmCount := []
  nvmJob := none
  image := bareImage
  swap := none
  handover := { goal := none, held := [], late := [], parse := [], pins := none, floating := [], search := [] }
  pins := { humPower := true, porLow := true, resetLow := false, perstLow := false, hostAllowed := true, refclk := true,
            thermTrip := false, vid := [], lastEdge := [], tap := .idcode, boundary := 0, shiftIn := [] }
  boot := { cold := true, patch := none, param := [], inReset := [] }
  sundew := { caps := [], reacting := [], fencing := [], fenced := [], msgs := [], log := [], seq := 0, bootFirst := none, line := 0, below := 0 }
  host := { rings := [], msixTable := [], msixPending := [], taken := [], resp := [], smbOffset := 0, smbRefused := false,
            smbPecErr := false, lastTx := [], fences := 0 }
  clocks := { raising := [], heldOff := false, tiles := [], rouse := [], caddisAsleep := false, woken := [], glow := [], hibWake := none, change := none }
  optics := { cal := [], opening := [], faulted := [] }
  time := { master := 0, stepSum := 0, rate := 0, pendingRate := none, pendingStep := none, phase := 0, unaligned := [], stepAt := 0, ppsFrom := none,
            ppsOld := (1000000000, 0, 100000000, false), ppsLate := none, todDue := none }
  exm := { slots := [], tables := [], queue := [], limitAt := [], out := [], recount := [], hits := [], touched := [] }
  path := { ids := 0, staging := [], farms := [], crossing := [], cycles := [], bufs := [], queues := [], dequeued := [], tags := [], shapers := [], credits := [], dequeues := 0,
            ports := [], cluster := [], tsf := [], stamps := [], waited := [], records := [], gaps := [], delivering := [] }
  tcam := { rows := [], suspect := [], fenced := [], lost := [], missing := [] }
  tables := { objs := [], windows := [], meterAt := [] }
  gates := []
  keys := []
  drams := []
  tue := { waiting := [], flight := [], held := [], owed := [], served := 7, accepted := 0, epochs := [], cuts := [], opened := 0, applied := 0, olds := [] }
  probes := []
  out := { readData := none, msi := [], frames := [], tod := [], pps := [], rouse := [], hostMem := [], tdo := none }
  pending := []

end Sys2Proof.Machine
end

