-- ==== Sys2Proof/Machine/Ops.lean ====
section
/-! DEFINITION. The named operations over the register file, time, interrupts and Sundew that every family shares. -/

namespace Sys2Proof.Machine

/-! ## What the image and the variant fix (R534, Table 21.4) -/

/-- Rate in Gbit/s of a lane rate code (Table 2.4). -/
def laneGbps (code : Nat) : Nat :=
  if code = 1 then 10 else if code = 2 then 25 else if code = 3 then 50 else if code = 4 then 100 else if code = 5 then 200 else 0

/-- The configured port whose first lane is p (R25). -/
def Layers.port (l : Layers) (p : Nat) : Option PortCfg := l.fabric.find? (fun c => c.lane = p)

/-- Whether an optical engine serves a tile (Table 1.3). -/
def optical (v : Variant) (t : Nat) : Bool := v == .o || decide (t < 24)

/-- Whether a Causeway group is present (Table 1.4). -/
def groupPresent (v : Variant) (g : Nat) : Bool := optical v (8 * g) && decide (g < 4)

/-- T_rxphy of Table 5.1 without the additions of R130. -/
def rxPhy (c : PortCfg) : Nat :=
  if c.rate = 5 then 104 else if c.rate = 4 then 132 else if c.rate = 3 then 176
  else if c.rate = 2 then (if c.fec = 0 then 48 else 196) else 62

/-- T_txphy of Table 5.1 without the addition of R130. -/
def txPhy (c : PortCfg) : Nat :=
  if c.rate = 5 then 46 else if c.rate = 4 then 58 else if c.rate = 3 then 70
  else if c.rate = 2 then (if c.fec = 0 then 36 else 76) else 44

/-- C_tx of a port: T_txphy with the optical addition (R130, R340). -/
def cTx (v : Variant) (c : PortCfg) : Nat := txPhy c + if optical v (c.lane / 16) then 4 else 0

/-- C_rx of a port, the alignment delay measured at link-up in place of the deskew bound (R130, R340). -/
def cRx (v : Variant) (c : PortCfg) (deskew : Nat) : Nat :=
  rxPhy c + (if optical v (c.lane / 16) then 6 else 0) + if 1 < c.width then deskew else 0

/-- KIND code of a table (EXM_TABLE_CFG). -/
def TableKind.code : TableKind → Nat
  | .fdb => 0 | .hostRoute => 1 | .streamId => 2 | .sg => 3 | .merge => 4 | .meter => 5

/-- The lowest-numbered table of a kind and width (rule under EXM_PORT_TABLES). -/
def Layers.firstTable (l : Layers) (k : TableKind) (wide : Bool) : Option Nat :=
  (l.tables.find? (fun e => e.2.kind = k && e.2.wide = wide)).map (·.1)

/-- Steps and growth of a library recipe (Table 15.5). -/
def recipeInfo (id : Nat) : Option (Nat × Nat) :=
  if id = 0 then some (4, 0)
  else if id ≤ 3 then some (6, 4 * id)
  else if id ≤ 9 then some (5, 0)
  else if id = 0x0A ∨ id = 0x0C then some (6, 0)
  else if id = 0x0B ∨ id = 0x0D then some (8, 4)
  else if id ≤ 0x0F then some (8, 0)
  else if id = 0x10 then some (5, 0)
  else if id = 0x11 then some (7, 16)
  else if id = 0x12 then some (4, 0)
  else if id = 0x13 then some (5, 0)
  else if id = 0x14 then some (6, 6)
  else if id = 0x15 then some (5, 0)
  else if id = 0x16 then some (10, 50)
  else if id = 0x17 then some (10, 54)
  else if id = 0x18 then some (15, 70)
  else if id = 0x19 then some (15, 74)
  else if id = 0x1A then some (5, 0)
  else none

/-- The recipes loaded in a tile; all six clusters hold the same set (R423). -/
def Layers.recipesOf (l : Layers) (t : Nat) : List Nat := SMap.findD l.rewrite.recipes (6 * t) []

/-- S_MAX of a tile (R409). -/
def Layers.sMax (l : Layers) (t : Nat) : Nat :=
  (l.recipesOf t).foldl (fun m id => max m ((recipeInfo id).elim 0 (·.1))) 0

/-- Nanoseconds of a number of cycles at an operating point, rounded up (Table 4.2). -/
def cyclesNs (n point : Nat) : Nat :=
  if point = 0 then ceilDiv (n * 5) 8 else if point = 1 then ceilDiv (n * 5) 6 else ceilDiv (n * 5) 4

/-- TAIL_NS of a front port, fixed at image load (R320). -/
def Layers.tailNs (l : Layers) (v : Variant) (p : Nat) : Nat :=
  match l.port p with
  | none => 0
  | some c => cTx v c + 36 + cyclesNs (52 + 2 * l.sMax (p / 16)) (SMap.findD l.clock.floor (p / 128) 2)

/-- The lowest unicast queue of a class on a port (R360). -/
def Layers.lowQueue (l : Layers) (p c : Nat) : Nat :=
  ((List.range 32).find? (fun n => SMap.findD l.sched.queueClass (48 * p + n) 0 = c)).getD 0

/-- Entries before those of unit k in a list of shares laid out in ascending order. -/
def shareBase (m : SMap Nat) (lo k : Nat) : Nat :=
  m.foldl (fun n e => if lo ≤ e.1 ∧ e.1 < k then n + e.2 else n) 0

/-- Buffers of an ordinary pool: POOL_COUNT less the sheltered ones (R309). -/
def Layers.ordinary (l : Layers) (i : Nat) : Nat :=
  SMap.findD l.buffer.poolCount i 0 -
    ((List.range 4).map fun j => SMap.findD l.buffer.shelter (16 * (i / 4) + 4 * j + i % 4) 0).sum

/-- LPM_ROWS and STAGE_ORDER of quadrant q (R59). -/
def State.searchOf (s : State) (q : Nat) : Nat × List Stage :=
  SMap.findD s.handover.search q (s.image.layers.search.lpmRows, s.image.layers.search.stageOrder)

/-- The value that a field with no constant reset value takes. -/
def State.special (s : State) (src : Src) (i : Nat) : Nat :=
  let l := s.image.layers
  let tbl (k : TableKind) (w : Bool) : Nat := (l.firstTable k w).getD 0
  let tblEn (k : TableKind) (w : Bool) : Nat := b2n (l.firstTable k w).isSome
  match src with
  | .TOP_ID_VARIANT => if s.variant = .o then 0x4F else 0x48
  | .TOP_ID_STEPPING => 1
  | .TOP_ID_ROM_VERSION => Config.romVersion
  | .TOP_CAPACITY_FLOOR => l.fault.floor
  | .CLK_QCTRL_POINT => SMap.findD l.clock.boot i 2
  | .CLK_QCTRL_FLOOR => SMap.findD l.clock.floor i 2
  | .CLK_QCTRL_ACTUAL => SMap.findD l.clock.boot i 2
  | .NVM_WCOUNT_STORES => SMap.findD s.nvmCount i 0
  | .HST_RING_CTRL_OWNER => SMap.findD l.host.owner i 0
  | .HST_RING_CTRL_OWNED => b2n (SMap.find l.host.owner i).isSome
  | .FLT_MODE_COLLECTOR => l.fault.mode
  | .FLT_LOG_STAT_NEXT_LINE => s.sundew.line
  | .TUE_ORDER_STRICT_PORT =>
    l.fabric.foldl (fun n c => if c.lane / 64 = i ∧ c.strict then n + 2 ^ (c.lane % 64) else n) 0
  | .EXM_TABLE_CFG_USED => b2n (SMap.find l.tables i).isSome
  | .EXM_TABLE_CFG_KIND => (SMap.find l.tables i).elim 0 (·.kind.code)
  | .EXM_TABLE_CFG_WIDE => (SMap.find l.tables i).elim 0 (b2n ·.wide)
  | .EXM_TABLE_CFG_EVICT => (SMap.find l.tables i).elim 0 (b2n ·.evictOldest)
  | .EXM_TABLE_CFG_BANK_FIRST => (SMap.find l.tables i).elim 0 (·.bankFirst)
  | .EXM_TABLE_CFG_BANK_COUNT => (SMap.find l.tables i).elim 0 (·.bankCount)
  | .EXM_SWEEP_AGE_EN => (SMap.find l.tables i).elim 0 (b2n ·.ageing)
  | .EXM_SWEEP_PERIOD_MS => (SMap.find l.tables i).elim 0 (·.sweepMs)
  | .EXM_PORT_TABLES_FDB_T => tbl .fdb false
  | .EXM_PORT_TABLES_FDB_EN => tblEn .fdb false
  | .EXM_PORT_TABLES_HR4_T => tbl .hostRoute false
  | .EXM_PORT_TABLES_HR4_EN => tblEn .hostRoute false
  | .EXM_PORT_TABLES_HR6_T => tbl .hostRoute true
  | .EXM_PORT_TABLES_HR6_EN => tblEn .hostRoute true
  | .EXM_PORT_TABLES_SG4_T => tbl .sg false
  | .EXM_PORT_TABLES_SG4_EN => tblEn .sg false
  | .EXM_PORT_TABLES_SG6_T => tbl .sg true
  | .EXM_PORT_TABLES_SG6_EN => tblEn .sg true
  | .EXM_PORT_TABLES_SID_T => tbl .streamId false
  | .EXM_PORT_TABLES_SID_EN => tblEn .streamId false
  | .EXM_PORT_TABLES_SIDW_T => tbl .streamId true
  | .EXM_PORT_TABLES_SIDW_EN => tblEn .streamId true
  | .EXM_PORT_TABLES_MRG_T => tbl .merge false
  | .EXM_PORT_TABLES_MRG_EN => tblEn .merge false
  | .EXM_PORT_TABLES_MTR_T => tbl .meter false
  | .EXM_PORT_TABLES_MTR_EN => tblEn .meter false
  | .RNG_GROUP_CFG_MEMBER => (SMap.find l.ring i).elim 0 (b2n ·.member)
  | .RNG_GROUP_CFG_RING_ID => (SMap.find l.ring i).elim 0 (·.ringId)
  | .RNG_GROUP_CFG_NODE_ID => (SMap.find l.ring i).elim 0 (·.nodeId)
  | .RNG_GROUP_CFG_ETHERTYPE => (SMap.find l.ring i).elim 0x88B5 (·.ethertype)
  | .RNG_SPAN_DELAY_NS => 50000
  | .CSW_STATUS_PRESENT => b2n (groupPresent s.variant i)
  | .CSW_STATUS_MEMBER => (SMap.find l.ring i).elim 0 (b2n ·.member)
  | .DRC_SHARE_FIRST_MIB => shareBase l.buffer.share (i / 5 * 5) i
  | .DRC_SHARE_COUNT_MIB => SMap.findD l.buffer.share i 0
  | .BUF_POOL_CFG_SIZE => SMap.findD l.buffer.poolSize i ([320, 1600, 4160, 9728].getD (i % 4) 0)
  | .BUF_POOL_CFG_COUNT => l.ordinary i
  | .BUF_POOL_STAT_FREE => l.ordinary i
  | .BUF_POOL_STAT_MIN_FREE => l.ordinary i
  | .BUF_SHELTER_STAT_FREE => SMap.findD l.buffer.shelter i 0
  | .BUF_SHELTER_STAT_COUNT => SMap.findD l.buffer.shelter i 0
  | .BUF_PORT_BUDGET_TAIL_NS => l.tailNs s.variant i
  | .TCM_REGION_USED => b2n (SMap.find l.search.regions i).isSome
  | .TCM_REGION_KIND => (SMap.find l.search.regions i).elim 0 (fun r => b2n (r.kind == .stream))
  | .TCM_REGION_REPL => (SMap.find l.search.regions i).elim 0 (b2n ·.replicated)
  | .TCM_REGION_FIRST_ROW => (SMap.find l.search.regions i).elim 0 (·.first)
  | .TCM_REGION_ROWS => (SMap.find l.search.regions i).elim 0 (·.rows)
  | .TCM_REGION_FREE => (SMap.find l.search.regions i).elim 0 (·.rows)
  | .TCM_STATUS_LPM_ROWS => (s.searchOf i).1
  | .TCM_STATUS_LPM_FREE => (s.searchOf i).1
  | .SMP_CTRL_PERIOD_NS => SMap.findD l.sched.samplePeriod i 0
  | .PRT_CFG_MTU => (l.port i).elim 0 (·.mtu)
  | .OPT_STATUS_PRESENT => b2n (optical s.variant i)
  | .PRS_FARM_ACTIVE => 48 - SMap.findD l.parse.spares i 0
  | .PRS_FARM_SPARES_LEFT => SMap.findD l.parse.spares i 0
  | .PRS_SPARE_MASK_SPARE => 2 ^ 48 - 2 ^ (48 - SMap.findD l.parse.spares i 0)
  | .PRS_GROUP_DEPTH => (SMap.find l.parse.groups i).elim 0 (·.depth)
  | .PRS_GROUP_HDR_SET => (SMap.find l.parse.groups i).elim 0 (·.hdrs)
  | .SCH_CTRL_REFILL => SMap.findD l.sched.refill i 64
  | .SCH_DSCP_MAP_DSCP => (List.range 16).foldl (fun n k => n + (16 * (i % 4) + k) / 8 * 8 ^ k) 0
  | .SCH_CBS_EN => b2n (SMap.findD l.sched.cbs i false)
  | .SCH_QMAP_UQ_BASE => l.lowQueue (i / 8) (i % 8)
  | .SCH_QUEUE_CFG_RANK => i % 48
  | .SCH_QUEUE_CFG_CLASS => SMap.findD l.sched.queueClass i 0
  | .RWE_PARAM_SHARE_BASE => (SMap.findD l.rewrite.split i (0, 0)).1
  | .RWE_PARAM_SHARE_COUNT => (SMap.findD l.rewrite.split i (0, 0)).2
  | .RWE_RECIPE_LOADED => b2n ((l.recipesOf (i / 256)).contains (i % 256))
  | .RWE_RECIPE_STEPS => if (l.recipesOf (i / 256)).contains (i % 256) then (recipeInfo (i % 256)).elim 0 (·.1) else 0
  | .RWE_RECIPE_GROW => if (l.recipesOf (i / 256)).contains (i % 256) then (recipeInfo (i % 256)).elim 0 (·.2) else 0
  | .RWE_RECIPE_ENTRY => if (l.recipesOf (i / 256)).contains (i % 256) then Config.recipeEntry (i / 256) (i % 256) else 0
  | .GAT_PORT_STATUS_LIST_BASE => shareBase l.time.gateListLen (i / 16 * 16) i
  | .GAT_SG_STATUS_LIST_BASE => i % 16 * 32
  | .TSF_CTRL_WATERMARK => SMap.findD l.time.watermark i 48

/-! ## Register fields -/

/-- Where a field of an instance is stored. -/
def Field.key (f : Field) (i : Nat) : Nat := i * 1024 + f.id % 1024

/-- A field's value after a reset that resets it (R534). -/
def State.resetOf (s : State) (f : Field) (i : Nat) : Nat :=
  match f.reset with
  | .num n => n
  | .special src => s.special src i % 2 ^ f.width

/-- Read a field. -/
def State.get (s : State) (f : Field) (i : Nat) : Nat :=
  (SMap.find s.regs (f.key i)).getD (s.resetOf f i)

/-- Store a value in a field, cut to its width. -/
def State.set (s : State) (f : Field) (i v : Nat) : State :=
  { s with regs := SMap.put s.regs (f.key i) (v % 2 ^ f.width) }

/-- A field that is not zero. -/
def State.on (s : State) (f : Field) (i : Nat) : Bool := s.get f i != 0

/-- Return a field to its reset value. -/
def State.unset (s : State) (f : Field) (i : Nat) : State := { s with regs := SMap.del s.regs (f.key i) }

/-- Add to a counter that saturates at its largest value (R161). -/
def State.count (s : State) (f : Field) (i k : Nat) : State :=
  s.set f i (satAdd (s.get f i) k (2 ^ f.width - 1))

/-- Set one bit of a field. -/
def State.setBit (s : State) (f : Field) (i b : Nat) : State := s.set f i (orN (s.get f i) (2 ^ b))

/-- Clear one bit of a field. -/
def State.clrBit (s : State) (f : Field) (i b : Nat) : State :=
  if bitOf (s.get f i) b then s.set f i (s.get f i - 2 ^ b) else s

/-- A signed field. -/
def State.getInt (s : State) (f : Field) (i : Nat) : Int :=
  let v := s.get f i
  if 2 * v < 2 ^ f.width then v else (v : Int) - 2 ^ f.width

/-- The image's layers. -/
def State.layers (s : State) : Layers := s.image.layers

/-- The configured port whose first lane is p. -/
def State.port (s : State) (p : Nat) : Option PortCfg := s.image.layers.port p

/-- p is the first lane of a configured port. -/
def State.isPort (s : State) (p : Nat) : Bool := (s.port p).isSome

/-- p is a host port or the first lane of a configured port. -/
def State.isAnyPort (s : State) (p : Nat) : Bool := (decide (512 ≤ p) && decide (p < 516)) || s.isPort p

/-- The quadrant of a port, host ports included (R24, R29). -/
def quadOf (p : Nat) : Nat := if p < 512 then p / 128 else p - 512

/-- The tile whose pipeline serves a port (R24, R29). -/
def tileOf (p : Nat) : Nat := if p < 512 then p / 16 else 8 * (p - 512)

/-! ## Time (R333, R336) -/

/-- The master's unit in one nanosecond: 2^32 fractions, five parts each, so that 12.8 ns is whole (log 11). -/
def unitNs : Nat := 5 * 2 ^ 32

/-- Whole nanoseconds of the timebase since 0 s. -/
def State.nowNs (s : State) : Nat := s.time.master / unitNs

/-- Nanoseconds on the local scale (R336). -/
def State.localNs (s : State) : Nat := ((s.time.master : Int) - s.time.stepSum).toNat / unitNs

/-- Quarter nanoseconds on the local scale. -/
def State.localQ (s : State) : Nat := ((s.time.master : Int) - s.time.stepSum).toNat / (unitNs / 4)

/-- Elapsed time in units of 0.2 ns for a number of nanoseconds. -/
def nsUnits (n : Nat) : Nat := 5 * n

/-! ## Free values (log 17) -/

/-- Draw one free value. -/
def State.draw (s : State) : Nat × State := (Config.free s.freeCtr, { s with freeCtr := s.freeCtr + 1 })

/-! ## Interrupts (R519, R521) -/

/-- A byte of the MSI-X table: 16 bytes a vector, whose byte 12 holds the mask bit, set at reset (R506; log 123). -/
def State.msixByte (s : State) (o : Nat) : Byte := SMap.findD s.host.msixTable o (if o % 16 = 12 then 1 else 0)

/-- The mask of a vector in the MSI-X table (R519). -/
def State.vectorMasked (s : State) (v : Nat) : Bool := (s.msixByte (16 * v + 12)).toNat % 2 == 1

/-- Send the message of a vector, or set its pending bit where a mask holds or host memory is out of reach (R508, R519; log 120). -/
def State.message (s : State) (src : Nat) : State :=
  let v := SMap.findD s.layers.host.msix src src
  if bitOf (s.get F.HST_INT_MASK_MASK (src / 64)) (src % 64) || s.vectorMasked v || !s.pins.hostAllowed then
    { s with host := { s.host with msixPending := if s.host.msixPending.contains src then s.host.msixPending else src :: s.host.msixPending } }
  else { s with out := { s.out with msi := v :: s.out.msi } }

/-- Messages of sources that nothing holds back any longer follow the unmasking (R519). -/
def State.unmasked (s : State) : State :=
  let wait := s.host.msixPending
  wait.reverse.foldl (fun s src =>
    ({ s with host := { s.host with msixPending := s.host.msixPending.erase src } }).message src) s

/-- Set a cause bit; a rise sends its message (R519). -/
def State.cause (s : State) (src : Nat) : State :=
  if bitOf (s.get F.HST_INT_CAUSE_CAUSE (src / 64)) (src % 64) then s
  else (s.setBit F.HST_INT_CAUSE_CAUSE (src / 64) (src % 64)).message src

/-- Set a sticky event bit of a block of group g; in local mode the group's interrupt is raised (R488, R490). -/
def State.eventBit (s : State) (f : Field) (i b g : Nat) : State :=
  let t := s.setBit f i b
  if bitOf (s.get F.FLT_MODE_COLLECTOR 0) g then t else t.cause (75 + g)

/-- Set a sticky event field of one bit. -/
def State.event (s : State) (f : Field) (i g : Nat) : State := s.eventBit f i 0 g

/-- An event of a central block. -/
def State.evC (s : State) (f : Field) (i : Nat) : State := s.event f i 0

/-- An event of a block of quadrant q. -/
def State.evQ (s : State) (f : Field) (q : Nat) : State := s.event f q (2 + q)

/-- An event of a block of tile t. -/
def State.evT (s : State) (f : Field) (t : Nat) : State := s.event f t (2 + t / 8)

/-- A TIM_EVENT bit, which also raises source 89 (Table 20.5). -/
def State.evTim (s : State) (f : Field) : State := (s.event f 0 0).cause 89

/-- A PRT_EVENT bit of a port, which also raises source 90 + q (Table 20.5). -/
def State.evPrt (s : State) (f : Field) (p : Nat) : State := (s.event f p (2 + p / 128)).cause (90 + p / 128)

/-- An event of the optical lanes of tile t. -/
def State.evOpt (s : State) (f : Field) (t : Nat) : State := s.event f t 6

/-- An event of the Elytra lanes of port p. -/
def State.evSec (s : State) (f : Field) (p : Nat) : State := s.event f p 7

/-- INT_N0: some capture is valid, or BELOW_FLOOR is set (R521). -/
def State.intN0 (s : State) : Bool := s.sundew.caps.any (fun e => e.2.valid) || s.on F.TOP_CAPACITY_BELOW_FLOOR 0

/-- INT_N1: some cause whose HST_INT_PIN bit is 1 is set, whatever the mask says (R521). -/
def State.intN1 (s : State) : Bool :=
  (s.get F.HST_INT_CAUSE_CAUSE 0 &&& s.get F.HST_INT_PIN_PIN 0) != 0 ||
    (s.get F.HST_INT_CAUSE_CAUSE 1 &&& s.get F.HST_INT_PIN_PIN 1) != 0

/-- Do something only where a condition holds (log 8). -/
def State.when (s : State) (b : Bool) (f : State → State) : State := if b then f s else s

/-! ## Sundew (R485 to R493, R501) -/

/-- KIND bits of Table 19.3. -/
def kCorr : Nat := 1
def kUncorr : Nat := 2
def kCheck : Nat := 4
def kTimeout : Nat := 8
def kAccess : Nat := 16
def kLimit : Nat := 32

/-- The source of a tile's unit u (Table 19.1). -/
def srcTile (t u : Nat) : Nat := 0x100 + 16 * t + u

/-- The source of a quadrant's unit u (Table 19.1). -/
def srcQuad (q u : Nat) : Nat := 0x80 + 16 * q + u

/-- The block group of a source (Table 19.4). -/
def sourceGroup (src : Nat) : Nat :=
  if src < 0x10 then 0 else if src < 0x80 then 1 else if src < 0x100 then 2 + (src - 0x80) / 16
  else if src % 16 = 2 then 6 else if src % 16 = 3 then 7 else 2 + (src - 0x100) / 128

/-- Whether a source ID is one of Table 19.1. -/
def sourceValid (src : Nat) : Bool :=
  (decide (1 ≤ src) && decide (src ≤ 11)) || src == 0x10 || src == 0x11 ||
    (decide (0x80 ≤ src) && decide (src < 0xC0) && decide (src % 16 < 5)) ||
    (decide (0x100 ≤ src) && decide (src < 0x300) && decide (src % 16 < 15))

/-- The coded message of a capture (Table 19.3). -/
def Capture.message (c : Capture) (src : Nat) : Nat :=
  src % 2 ^ 10 * 2 ^ 118 + c.kind % 2 ^ 6 * 2 ^ 112 + c.master % 2 ^ 8 * 2 ^ 104 + c.access % 2 ^ 3 * 2 ^ 101 +
    c.address % 2 ^ 48 * 2 ^ 48 + c.time % 2 ^ 48

/-- Put a fault-log record in the queue of 64, or count it lost; only while AUTO is 1 (R501). -/
def State.logDue (s : State) (reason src : Nat) (c : Capture) : State :=
  if s.on F.FLT_LOG_CTRL_AUTO 0 = false then s
  else if 64 ≤ s.sundew.log.length then s.count F.FLT_LOG_STAT_LOST 0 1
  else { s with sundew := { s.sundew with log := s.sundew.log ++ [⟨reason, src, c⟩] } }

/-- A message enters the FIFO of 512, or is lost (R489). -/
def State.message512 (s : State) (m : Nat) : State :=
  if 512 ≤ s.sundew.msgs.length then (s.evC F.FLT_STATUS_FIFO_OVERFLOW 0).count F.FLT_STATUS_LOST 0 1
  else { s with sundew := { s.sundew with msgs := s.sundew.msgs ++ [m] } }.cause 74

/-- The unit that a report's ADDRESS names within its source (Table 19.1, R486). -/
def unitIndex (src address : Nat) : Nat :=
  if src = 0x007 then address / 2048
  else if src < 0x80 then 0
  else if src < 0x100 then address
  else if src % 16 = 2 ∨ src % 16 = 3 ∨ src % 16 = 4 then address
  else 0

/-- The FAULT layer gives the unit fence policy: the bank, row, engine, lane, cluster, tile or DRC of a source (R44, R485, R495). -/
def State.fencePolicy (s : State) (src idx : Nat) : Bool := s.layers.fault.fence.contains (src, idx)

/-- The Hummock restarts Caddis (R117); the 20 µs that it takes are not measured (log 9). -/
def State.caddisRestart (s : State) : State := { s with clocks := { s.clocks with caddisAsleep := false } }

/-- The capture takes the whole message; collector mode writes it to the FIFO (R489, R491). A message of a unit with fence policy restarts Caddis (R117). -/
def State.openCapture (s : State) (src kind master access address : Nat) : State :=
  let c : Capture :=
    { valid := true, kind := kind, master := master, access := access, address := address,
      time := s.nowNs % 2 ^ 48, seconds := s.nowNs / 10 ^ 9, merge := 0 }
  let s := { s with sundew := { s.sundew with caps := SMap.put s.sundew.caps src c } }
  let s := (s.logDue 1 src c).when (s.fencePolicy src (unitIndex src address)) State.caddisRestart
  if bitOf (s.get F.FLT_MODE_COLLECTOR 0) (sourceGroup src) then s.message512 (c.message src) else s


/-- A report of a source: it opens its capture, or merges into it (R489 to R493). -/
def State.report (s : State) (src kind master access address : Nat) : State :=
  let old := SMap.find s.sundew.caps src
  let reacting := s.sundew.reacting.any (fun r => r.1 = src)
  match old with
  | some c =>
    if c.valid || reacting then
      { s with sundew := { s.sundew with
          caps := SMap.put s.sundew.caps src { c with merge := satAdd c.merge 1 65535, kind := orN c.kind kind } } }
    else s.openCapture src kind master access address
  | none => s.openCapture src kind master access address

/-- A reaction of a source to a fault of one of its units begins (R493). -/
def State.react (s : State) (src idx : Nat) : State :=
  if s.sundew.reacting.contains (src, idx) then s
  else { s with sundew := { s.sundew with reacting := (src, idx) :: s.sundew.reacting } }

/-- The reaction ends (R493). -/
def State.reacted (s : State) (src idx : Nat) : State :=
  { s with sundew := { s.sundew with reacting := s.sundew.reacting.filter (fun r => r ≠ (src, idx)) } }

/-- Whether a unit is fenced. -/
def State.isFenced (s : State) (src idx : Nat) : Bool := s.sundew.fenced.contains (src, idx)

/-- The fence of a unit begins (R493, R496). -/
def State.fenceStart (s : State) (src idx : Nat) : State :=
  if s.isFenced src idx ∨ s.sundew.fencing.contains (src, idx) then s
  else
    let s := s.react src idx
    { s with sundew := { s.sundew with fencing := (src, idx) :: s.sundew.fencing } }

/-- The fence of a unit has completed: shown in FLT_FENCED, its reaction over, its fault-log record due (R493, R496, R501). -/
def State.fenceDone (s : State) (src idx : Nat) : State :=
  let s := s.reacted src idx
  let s := { s with sundew := { s.sundew with
    fencing := s.sundew.fencing.filter fun r => r ≠ (src, idx)
    fenced := if s.sundew.fenced.contains (src, idx) then s.sundew.fenced else (src, idx) :: s.sundew.fenced } }
  s.logDue 3 src (SMap.findD s.sundew.caps src default)

/-- An event that its chapter names as a fault of a unit: the report, then the unit's policy (R485, R491). The fence itself completes with FENCE_COMPLETE (R496). -/
def State.unitFault (s : State) (src idx kind master access address : Nat) : State :=
  let s := s.report src kind master access address
  if s.fencePolicy src idx then s.fenceStart src idx else s

/-! ## Refused claims (R47, R64, R563) -/

/-- A refused claim on a unit of a kind of Table 2.5: captured, or counted while VALID is set (R64). -/
def State.claimErr (s : State) (kind index master : Nat) : State :=
  if s.on F.PTL_CLAIM_ERR_VALID 0 then s.count F.PTL_CLAIM_ERR_COUNT 0 1
  else
    ((((s.set F.PTL_CLAIM_ERR_KIND 0 kind).set F.PTL_CLAIM_ERR_INDEX 0 index).set F.PTL_CLAIM_ERR_MASTER 0 master).set
      F.PTL_CLAIM_ERR_COUNT 0 0).evC F.PTL_CLAIM_ERR_VALID 0

/-! ## Host memory and records -/

/-- Write bytes to host memory (R510). -/
def State.hostWrite (s : State) (addr : Nat) (bs : List Byte) : State :=
  { s with out := { s.out with hostMem :=
      (bs.zip (List.range bs.length)).foldl (fun m e => SMap.put m (addr + e.2) e.1) s.out.hostMem } }

/-- The running conditions: powered, out of cold and warm reset, booted, not hibernating, not halted (R73, R80, R118). -/
def State.up (s : State) : Bool :=
  s.pins.humPower && !s.pins.porLow && !s.pins.held && s.on F.TOP_BOOT_READY 0 &&
    s.get F.HUM_DEVICE_STATE_STATE 0 != 3

/-- Quadrant q is present: its rail was good at the release of POR_N (R69). -/
def State.quadThere (s : State) (q : Nat) : Bool := s.up && !bitOf (s.get F.TOP_BOOT_RAIL_MISSING 0) q

/-- A unit is in reset (R83, R533). -/
def State.inReset (s : State) (u : ResetUnit) : Bool := s.boot.inReset.any fun x => x.1 == u

/-- Quadrant q is present and not in reset (R69, R533). -/
def State.quadUp (s : State) (q : Nat) : Bool := s.quadThere q && !s.inReset (.quadrant q)

/-- Tile t is in no reset, and its quadrant is present (R69, R533). -/
def State.tileReach (s : State) (t : Nat) : Bool := s.quadUp (t / 8) && !s.inReset (.tile t)

/-- Tile t is in service: its quadrant is present, and it is neither in reset nor fenced (R69, Table 19.5). -/
def State.tileUp (s : State) (t : Nat) : Bool := s.tileReach t && !s.isFenced (srcTile t 0) 0

/-- Frames for or from the ports of tile t are discarded as FENCED_UNIT: it is fenced or in reset (Tables 3.4 and 19.5). -/
def State.tileOut (s : State) (t : Nat) : Bool := s.isFenced (srcTile t 0) 0 || s.inReset (.tile t) || s.inReset (.quadrant (t / 8))

/-- A rail was not good at the release of POR_N: 0 to 3 a quadrant, 4 VDD_SRD, 5 VDD_OPT, 6 VDD_HBM (R69). -/
def State.railMissing (s : State) (k : Nat) : Bool := bitOf (s.get F.TOP_BOOT_RAIL_MISSING 0) k

/-- Run a change over a list of indexes. -/
def State.forAll {α : Type} (s : State) (l : List α) (f : State → α → State) : State := l.foldl f s

/-- The first lanes of the ports of a tile. -/
def State.portsOf (s : State) (t : Nat) : List Nat := (s.layers.fabric.filter (fun c => c.lane / 16 = t)).map (·.lane)

/-- The first lanes of all ports. -/
def State.allPorts (s : State) : List Nat := s.layers.fabric.map (·.lane)

end Sys2Proof.Machine
end

