-- ==== Sys2Proof/Machine/Micro.lean ====
section
/-! DEFINITION. Microcode: the control-store word, its operations and next addresses, the edit window, and the routines that a patch supplies (R203, R412 to R417, R426, R427). -/

namespace Sys2Proof.Machine

/-! ## The parse vector as bits (R203, Table 7.5) -/

/-- The 512 bits that TBIT counts; offsets in 2-byte units. -/
def ParseVec.toBits (v : ParseVec) : Nat :=
  let fields : List (Nat × Nat × Nat) :=
    [(0, 10, v.inPort), (10, 3, v.group), (13, 1, b2n v.lenEarly), (14, 14, v.len), (28, 10, v.parsed),
      (40, 8, v.offVlan / 2), (48, 8, v.outer.offL3 / 2), (56, 8, v.outer.offL4 / 2), (64, 8, v.offTun1 / 2), (72, 8, v.offTun2 / 2),
      (80, 8, v.offIL2 / 2), (88, 8, v.inner.offL3 / 2), (96, 8, v.inner.offL4 / 2), (104, 8, v.offApp / 2)] ++
    [(112, 4, v.outer.l3), (116, 4, v.outer.l4), (120, 2, v.tunLevels), (122, 2, v.tun1), (124, 2, v.tun2), (126, 2, v.app),
      (128, 4, v.inner.l3), (132, 4, v.inner.l4), (136, 1, b2n v.ringTag), (137, 1, b2n v.rtag), (138, 1, b2n v.vlanExcess),
      (139, 1, b2n v.ip4CsumBad), (140, 1, b2n v.ipOptions), (141, 1, b2n v.l3Malformed), (142, 1, b2n v.fragFirst), (143, 1, b2n v.fragLater),
      (144, 1, b2n v.extLimit), (145, 1, b2n v.l4Malformed), (146, 1, b2n v.greUnsupported), (147, 1, b2n v.innerMalformed),
      (148, 1, b2n v.depthStop), (149, 1, b2n v.mcastCtrl), (150, 1, b2n v.ptpEvent), (151, 1, b2n v.daMcast), (152, 1, b2n v.daBcast),
      (153, 1, b2n v.longHead), (154, 1, b2n v.redealt)] ++
    [(160, 16, v.vlan0), (176, 16, v.vlan1), (192, 3, v.vlanCount), (195, 1, b2n v.vlan0S), (196, 1, b2n v.vlan1S), (200, 16, v.ethertype),
      (216, 16, v.ringSrc), (232, 16, v.ringSeq), (248, 4, v.ringId), (252, 4, v.ringClass), (256, 16, v.rtagSeq), (272, 8, v.outer.tos),
      (280, 8, v.outer.ttl), (288, 8, v.outer.proto), (296, 20, v.outer.flow), (316, 16, v.outer.src), (332, 16, v.outer.dst),
      (348, 8, v.outer.tcpFlags), (356, 24, v.vni), (380, 8, v.inner.tos), (388, 16, v.inner.src), (404, 16, v.inner.dst),
      (420, 16, v.appSeq), (436, 32, v.appWord), (468, 32, v.ssrc), (500, 1, b2n v.rtpM), (501, 7, v.rtpPt)]
  fields.foldl (fun n f => n + f.2.2 % 2 ^ f.2.1 * 2 ^ f.1) 0

/-! ## The control-store word (R412, Table 15.1) -/

/-- Fields of a word. -/
structure CsWord where
  opc : Nat
  dbase : Nat
  ddisp : Int
  sbase : Nat
  sdisp : Int
  len : Nat
  poff : Nat
  aop : Nat
  na : Nat
  target : Nat
  tbit : Nat
  tsense : Bool
  cnt : Bool
  fullCsum : Bool
  imm : Nat
  deriving DecidableEq, Repr

/-- A signed displacement of 10 bits. -/
def disp10 (n : Nat) : Int := if n < 512 then n else (n : Int) - 1024

/-- A word of 192 bits. -/
def csWord (w : Nat) : CsWord where
  opc := bits w 186 6
  dbase := bits w 182 4
  ddisp := disp10 (bits w 172 10)
  sbase := bits w 168 4
  sdisp := disp10 (bits w 158 10)
  len := bits w 151 7
  poff := bits w 145 6
  aop := bits w 141 4
  na := bits w 138 3
  target := bits w 125 13
  tbit := bits w 116 9
  tsense := bitOf w 115
  cnt := bitOf w 114
  fullCsum := bitOf w 113
  imm := bits w 16 64

/-- A reserved bit, OPC, base or next-address code: a control-store read error (R412, R415). -/
def csBad (w : Nat) : Bool :=
  let x := csWord w
  let base (b : Nat) : Bool := decide (10 ≤ b) && decide (b ≤ 14)
  bits w 80 33 != 0 || (decide (9 < x.opc) && x.opc != 0x3F) || base x.dbase || base x.sbase || x.na == 7

/-! ## The engine (R413, R414, R416) -/

/-- A routine's state: the held bytes, each with its offset in the frame unless it was inserted; bases 1 to 9; the micro-stack; the HANDOFF record. -/
structure Engine where
  held : List (Byte × Option Nat)
  bases : List (Option Nat)
  stack : List Nat
  handoff : Option Nat
  deriving DecidableEq, Repr

/-- What a routine reads beside its window: the parameter entry, META, the parse vector's bits, LEN, its recipe, the store; what no rule gives is drawn from `free`. -/
structure MicroCtx where
  entry : List Byte
  info : List Byte
  vec : Nat
  len : Nat
  id : Nat
  store : Nat → Nat
  free : Nat → Nat

/-- The window as loaded (R413, R416). -/
def Engine.load (v : ParseVec) (bs : List Byte) : Engine :=
  let n := min bs.length 176
  let base (o : Nat) : Option Nat := if o = 0 then none else some o
  { held := (bs.take n).zip ((List.range n).map some)
    bases := [some 0, base v.offVlan, base v.outer.offL3, base v.outer.offL4, base v.offTun1, base v.offTun2, base v.offIL2, base v.inner.offL3,
      base v.inner.offL4, base v.offApp]
    stack := []
    handoff := none }

/-- The base of a code is absent (Table 15.2). -/
def Engine.absent (e : Engine) (b : Nat) : Bool := decide (1 ≤ b) && decide (b ≤ 9) && (e.bases.getD b none).isNone

/-- A base plus a displacement, where it is not negative. -/
def Engine.at (e : Engine) (b : Nat) (d : Int) : Option Nat :=
  let a : Int := ((e.bases.getD b none).getD 0 : Nat) + d
  if a < 0 then none else some a.toNat

/-- Bytes of the window; none beyond the held bytes (R416). -/
def Engine.read (e : Engine) (a n : Nat) : Option (List Byte) := if a + n ≤ e.held.length then some ((slice (e.held.map (·.1)) a n)) else none

/-- Overwrite bytes of the window. -/
def Engine.write (e : Engine) (a : Nat) (bs : List Byte) : Option Engine :=
  if a + bs.length ≤ e.held.length then
    let mid := bs.zip ((e.held.drop a).map (·.2))
    some { e with held := e.held.take a ++ mid ++ e.held.drop (a + bs.length) }
  else none

/-- Open n zero bytes at a; bases after it move (R413). -/
def Engine.insert (e : Engine) (a n : Nat) : Option Engine :=
  if a ≤ e.held.length ∧ e.held.length + n ≤ 256 then
    some { e with
      held := e.held.take a ++ List.replicate n (0, none) ++ e.held.drop a
      bases := e.bases.map fun b => b.map fun x => if a < x then x + n else x }
  else none

/-- Remove n bytes at a; bases inside become absent, later ones move (R413). -/
def Engine.delete (e : Engine) (a n : Nat) : Option Engine :=
  if a + n ≤ e.held.length then
    some { e with
      held := e.held.take a ++ e.held.drop (a + n)
      bases := match e.bases with
        | [] => []
        | w :: rest => w :: rest.map fun b => b.bind fun x => if x < a then some x else if x < a + n then none else some (x - n) }
  else none

/-- Source bytes: the window, or META (Table 15.2); META beyond its 17 bytes is not given. -/
def Engine.source (e : Engine) (c : MicroCtx) (x : CsWord) : Option (List Byte) :=
  if x.sbase = 15 then
    if x.sdisp < 0 then none
    else some ((List.range x.len).map fun k => (c.info[x.sdisp.toNat + k]?).getD (BitVec.ofNat 8 (c.free (x.sdisp.toNat + k))))
  else (e.at x.sbase x.sdisp).bind fun a => e.read a x.len

/-- The ALU (Table 15.1); codes above 5 are not given. -/
def aluOp (c : MicroCtx) (x : CsWord) (w : Nat) : Nat :=
  let i := x.imm % 65536
  match x.aop with
  | 0 => (w + i) % 65536
  | 1 => (w + 65536 - i) % 65536
  | 2 => w &&& i
  | 3 => w ||| i
  | 4 => w ^^^ i
  | 5 => (w + c.len + 65536 - i) % 65536
  | _ => c.free (1024 + x.aop) % 65536

/-- One operation; none where it addresses a byte beyond the held bytes, exceeds the window, or writes META (R414, R416). -/
def Engine.op (e : Engine) (c : MicroCtx) (x : CsWord) : Option Engine :=
  if e.absent x.dbase || e.absent x.sbase then some e
  else if x.opc = 0 ∨ x.opc = 0x3F then some e
  else if x.opc = 9 then some { e with handoff := e.bases.getD 9 none }
  else if x.dbase = 15 then none
  else if x.opc = 8 then
    if x.sbase = 15 ∨ x.dbase = 0 then some e else (e.at x.sbase x.sdisp).map fun a => { e with bases := e.bases.set x.dbase (some a) }
  else
    (e.at x.dbase x.ddisp).bind fun d =>
      match x.opc with
      | 1 => (e.source c x).bind fun b => e.write d b
      | 2 => e.write d ((List.range x.len).map fun k => (c.entry[x.poff + k]?).getD (BitVec.ofNat 8 (c.free (512 + k))))
      | 3 => e.write d (beBytes x.imm x.len)
      | 4 => e.insert d x.len
      | 5 => e.delete d x.len
      | 6 => if x.sbase = 15 then none else (e.at x.sbase x.sdisp).bind fun a => e.delete d (a - d)
      | 7 => (e.read d 2).bind fun b => e.write d (beBytes (aluOp c x (beNat b)) 2)
      | _ => some e

/-! ## The routine (R415 to R417) -/

/-- How a routine ends: at its COMMIT word, with the address of an end word that is a read error; by R416; by a read error at an address; or never. -/
inductive MicroEnd where
  | commit (e : Engine) (cnt full : Bool) (badEnd : Option Nat)
  | overrun
  | badRead (addr : Nat)
  | never
  deriving DecidableEq, Repr

/-- The next word, or an error of the micro-stack; none at the end. -/
def nextWord (e : Engine) (c : MicroCtx) (x : CsWord) (pc : Nat) : Option (Option (Engine × Nat)) :=
  let seq := (pc + 1) % 8192
  let taken := bitOf c.vec x.tbit == x.tsense
  match x.na with
  | 0 => some (some (e, seq))
  | 1 => some (some (e, x.target))
  | 2 => some (some (e, if taken then x.target else seq))
  | 3 =>
    if taken = false then some (some (e, seq))
    else if 4 ≤ e.stack.length then none
    else some (some ({ e with stack := seq :: e.stack }, x.target))
  | 4 =>
    match e.stack with
    | [] => none
    | a :: rest => some (some ({ e with stack := rest }, a))
  | 5 => some none
  | _ => some (some (e, (x.target + c.id) % 8192))

/-- The word that is a read error after the COMMIT word x at pc: the COMMIT word itself, whose next address breaks the micro-stack, or the one end word, malformed or with such a next address (R412, R415); the end word's operation changes nothing any more (log 85). -/
def Engine.badEnd (e : Engine) (c : MicroCtx) (x : CsWord) (pc : Nat) : Option Nat :=
  match nextWord e c x pc with
  | none => some pc
  | some none => none
  | some (some (e, pc)) => if csBad (c.store pc) || (nextWord e c (csWord (c.store pc)) pc).isNone then some pc else none

/-- Run from a word. -/
def Engine.run (c : MicroCtx) : Nat → Engine → Nat → MicroEnd
  | 0, _, _ => .never
  | fuel + 1, e, pc =>
    let w := c.store pc
    let x := csWord w
    if csBad w then .badRead pc
    else
      match e.op c x with
      | none => .overrun
      | some e =>
        if x.opc = 0x3F ∧ e.absent x.dbase = false ∧ e.absent x.sbase = false then .commit e x.cnt x.fullCsum (e.badEnd c x pc)
        else
          match nextWord e c x pc with
          | none => .badRead pc
          | some none => .never
          | some (some (e, pc)) => Engine.run c fuel e pc

/-- A routine from a word executes a PARAM operation before its COMMIT word; what it reads decides no next address (R285, R414, R415). -/
def Engine.reads (c : MicroCtx) : Nat → Engine → Nat → Bool
  | 0, _, _ => false
  | fuel + 1, e, pc =>
    let w := c.store pc
    let x := csWord w
    if csBad w then false
    else if x.opc = 2 ∧ e.absent x.dbase = false ∧ e.absent x.sbase = false then true
    else
      match e.op c x with
      | none => false
      | some e =>
        if x.opc = 0x3F ∧ e.absent x.dbase = false ∧ e.absent x.sbase = false then false
        else
          match nextWord e c x pc with
          | some (some (e, pc)) => Engine.reads c fuel e pc
          | _ => false

/-- Where an R-tag that the routine inserted begins. -/
def Engine.rtag (e : Engine) : Option Nat :=
  (List.range e.held.length).find? fun i => (e.held.drop i).take 2 == [((0xF1 : Byte), none), ((0xC1 : Byte), none)]

/-- A base where it lies on a byte that the routine inserted. -/
def Engine.insertedAt (e : Engine) (b : Nat) : Option Nat :=
  (e.bases.getD b none).bind fun a => match e.held[a]? with
    | some (_, none) => some a
    | _ => none

/-- What a routine hands on at its commit point: held bytes ahead of the rest, the R-tag's sequence, inserted headers at the final bases (R417). -/
def Engine.committed (e : Engine) (v : ParseVec) (bs : List Byte) (seqNext : Nat) (cnt full : Bool) (badEnd : Option Nat) : Committed :=
  let n := min bs.length 176
  let held := e.held.map (·.1)
  let held := match e.rtag with
    | some i => splice held (i + 4) (beBytes seqNext 2)
    | none => held
  let new := held ++ bs.drop n
  let ip4 (b : Nat) : List Nat := ((e.insertedAt b).filter fun a => be new a 1 / 16 == 4).toList
  { bytes := new
    moved := fun o => if o < n then e.held.findIdx? (fun x => x.2 == some o) else some (o - n + held.length)
    ip4 := ip4 2 ++ ip4 7
    full := if full && !v.lenEarly then (match e.bases.getD 2 none, e.bases.getD 3 none with
      | some a, some b => some (a, b)
      | some a, none => some (a, a + if be new a 1 / 16 = 6 then 40 else ip4Len new a)
      | _, _ => none) else none
    ptp := e.handoff
    cnt := cnt
    seq := e.rtag.isSome
    badEnd := badEnd }

/-! ## Patches (R426, R427) -/

/-- One section of a patch's plaintext: type, ADDR, entries (R427). -/
structure PatchSection where
  kind : Nat
  addr : Nat
  entries : List (List Byte)
  deriving DecidableEq, Repr

/-- Bytes of an entry of a section type. -/
def patchEntry (kind : Nat) : Nat := if kind = 1 then 24 else 4

/-- The run of sections up to END; an unknown type ends it too. -/
def patchSections : Nat → List Byte → List PatchSection
  | 0, _ => []
  | fuel + 1, bs =>
    let kind := be bs 0 1
    if kind = 0 ∨ 3 < kind then []
    else
      let n := be bs 2 2
      let w := patchEntry kind
      { kind := kind, addr := be bs 4 4, entries := (List.range n).map fun k => slice bs (8 + w * k) w } ::
        patchSections fuel (bs.drop (8 + w * n))

/-- Sections of the plaintext; each takes 8 bytes at least. -/
def sectionsOf (p : List Byte) : List PatchSection := patchSections (p.length / 8 + 1) p

/-- The patch region of a cluster: first word and count (REWRITE layer). -/
def Layers.patchRegion (l : Layers) (cluster : Nat) : Option (Nat × Nat) :=
  (l.rewrite.regions.find? fun r => r.cluster == cluster && r.owner == .patch).map fun r => (r.first, r.count)

/-- The patch's word for an address of a patch region. -/
def patchWord (l : List PatchSection) (a : Nat) : Option Nat :=
  (l.find? fun x => x.kind == 1 && decide (x.addr ≤ a) && decide (a < x.addr + x.entries.length)).bind fun x => (x.entries[a - x.addr]?).map beNat

/-- The region address that a patch's jump word for a recipe leads to. -/
def patchEntryOf (l : List PatchSection) (id : Nat) : Option Nat :=
  (l.filter fun x => x.kind == 2).findSome? fun x => (x.entries.find? fun e => be e 0 1 == id).map fun e => be e 2 2

/-- A word of the control store of cluster k of tile t (R75, R412). -/
def State.storeWord (s : State) (t k a : Nat) : Nat :=
  let lib := Config.libraryWord t a
  match s.boot.patch, s.layers.patchRegion (6 * t + k) with
  | some (_, _, p), some (first, count) =>
    if s.on F.RWE_STATUS_PATCHED t && decide (first ≤ a) && decide (a < first + count) then (patchWord (sectionsOf p) (a - first)).getD lib else lib
  | _, _ => lib

/-- The entry word of a recipe in cluster k of tile t: the patch's jump word, or the image's. -/
def State.storeEntry (s : State) (t k id : Nat) : Nat :=
  let lib := Config.recipeEntry t id
  match s.boot.patch, s.layers.patchRegion (6 * t + k) with
  | some (_, _, p), some (first, _) => if s.on F.RWE_RECIPE_PATCHED (256 * t + id) then (patchEntryOf (sectionsOf p) id).elim lib (first + ·) else lib
  | _, _ => lib

/-- A recipe whose routine the microcode gives: a patched one, or one that Table 15.5 does not list. -/
def State.microcoded (s : State) (t id : Nat) : Bool := s.on F.RWE_RECIPE_PATCHED (256 * t + id) || (recipeInfo id).isNone

end Sys2Proof.Machine
end

