-- ==== Sys2Proof/Machine/Buffers.lean ====
section
/-! DEFINITION. Buffers, admission, queues, ageing, budgets and drops (chapter 11), with the ingress occupancy that drives sent pauses (R158). -/

namespace Sys2Proof.Machine

/-! ## Access to the parts of the frame path -/

/-- Live state of a port. -/
def State.live (s : State) (p : Nat) : PortLive := SMap.findD s.path.ports p default

/-- Change the live state of a port. -/
def State.withLive (s : State) (p : Nat) (f : PortLive → PortLive) : State :=
  { s with path := { s.path with ports := SMap.modify s.path.ports p default f } }

/-- A queue, head first. -/
def State.queue (s : State) (gq : Nat) : List QEntry := SMap.findD s.path.queues gq []

/-- Replace a queue. -/
def State.withQueue (s : State) (gq : Nat) (l : List QEntry) : State :=
  { s with path := { s.path with queues := if l.isEmpty then SMap.del s.path.queues gq else SMap.put s.path.queues gq l } }

/-- A buffer in use. -/
def State.buf (s : State) (h : Nat) : Option Buf := SMap.find s.path.bufs h

/-- Replace the buffers. -/
def State.withBufs (s : State) (m : SMap Buf) : State := { s with path := { s.path with bufs := m } }

/-- Change one buffer in use. -/
def State.onBuf (s : State) (h : Nat) (f : Buf → Buf) : State :=
  match s.buf h with
  | some b => s.withBufs (SMap.put s.path.bufs h (f b))
  | none => s

/-! ## Handles, pools and regions (R300 to R310) -/

/-- A handle (R305). -/
def handleOf (q pool index : Nat) (dram : Bool) : Nat := index % 2 ^ 20 + pool * 2 ^ 20 + q * 2 ^ 24 + b2n dram * 2 ^ 26

/-- Fields of a handle (R305). -/
def handlePool (h : Nat) : Nat := bits h 20 2
def handleQuad (h : Nat) : Nat := bits h 24 2
def handleDram (h : Nat) : Bool := bitOf h 26
def handleIndex (h : Nat) : Nat := bits h 0 20

/-- Size of the buffers of pool i. -/
def State.poolSize (s : State) (q i : Nat) : Nat := s.get F.BUF_POOL_CFG_SIZE (4 * q + i)

/-- Buffers of a region in a pool: 0 ordinary, else 1 + partition. -/
def State.regionCount (s : State) (q region i : Nat) : Nat :=
  if region = 0 then s.get F.BUF_POOL_CFG_COUNT (4 * q + i) else s.get F.BUF_SHELTER_STAT_COUNT (16 * q + 4 * (region - 1) + i)

/-- On-die buffers of a region in use. -/
def State.regionUsed (s : State) (q region i : Nat) : Nat :=
  (s.path.bufs.filter fun e =>
    !handleDram e.1 && handleQuad e.1 == q && handlePool e.1 == i && e.2.region == region).length

/-- Free buffers of a region in a pool. -/
def State.regionFree (s : State) (q region i : Nat) : Nat := s.regionCount q region i - s.regionUsed q region i

/-- Free bytes of a region. -/
def State.regionBytes (s : State) (q region : Nat) : Nat :=
  ((List.range 4).map fun i => s.regionFree q region i * s.poolSize q i).sum

/-- The smallest pool that holds n bytes (R301). -/
def State.fitting (s : State) (q n : Nat) : Option Nat := (List.range 4).find? fun i => decide (n ≤ s.poolSize q i)

/-- DRAM buffers of pool i of quadrant q on stack d (R325, R454). -/
def State.dramCount (s : State) (q i d : Nat) : Nat :=
  let bytes (j : Nat) : Nat := s.get F.BUF_POOL_CFG_COUNT (4 * q + j) * s.poolSize q j
  let total := bytes 0 + bytes 1 + bytes 2 + bytes 3
  let n (d : Nat) : Nat := s.get F.DRC_SHARE_COUNT_MIB (5 * d + q) * 2 ^ 20 * bytes i / total / s.poolSize q i
  if d = 0 then min (n 0) (2 ^ 20) else min (n 1) (2 ^ 20 - min (n 0) (2 ^ 20))

/-- Stack of a DRAM handle: stack 0's buffers come first (R454). -/
def State.stackOf (s : State) (h : Nat) : Nat := if handleIndex h < s.dramCount (handleQuad h) (handlePool h) 0 then 0 else 1

/-- DRAM buffers free. -/
def State.dramFree (s : State) (q i d : Nat) : Nat :=
  s.dramCount q i d - (s.path.bufs.filter fun e =>
    handleDram e.1 && handleQuad e.1 == q && handlePool e.1 == i && s.stackOf e.1 == d).length

/-- An index of n that no handle in use has, from a drawn start upward; the spec does not say which buffer is taken (log 17). -/
def freeIndex (used : Nat → Bool) (n start : Nat) : Nat → Nat
  | 0 => start % n
  | k + 1 => if used (start % n) then freeIndex used n (start + 1) k else start % n

/-- A frame as a buffer of a size stores it: of a frame longer than its early length the bytes beyond the buffer are not stored (R301, R303). -/
def Frame.stored (f : Frame) (size : Nat) : Frame := { f with bytes := f.bytes.take (size - 32) }

/-- Take a buffer of a region for a frame, or none. -/
def State.alloc (s : State) (q region : Nat) (f : Frame) : Option Nat × State :=
  match s.fitting q (f.vec.len + 32) with
  | none => (none, s)
  | some i =>
    if s.regionFree q region i = 0 then (none, s)
    else
      let r := s.draw
      let s := r.2
      let n := ((List.range 5).map fun j => s.regionCount q j i).sum
      let h := handleOf q i (freeIndex (fun x => (s.buf (handleOf q i x false)).isSome) n r.1 s.path.bufs.length) false
      let b : Buf := { frame := f.stored (s.poolSize q i), region := region, size := s.poolSize q i, holders := 0, closerGone := false, hostOwned := false, marked := none }
      let s := s.withBufs (SMap.put s.path.bufs h b)
      (some h, if region = 0 ∧ s.regionFree q 0 i < s.get F.BUF_POOL_STAT_MIN_FREE (4 * q + i) then
          s.set F.BUF_POOL_STAT_MIN_FREE (4 * q + i) (s.regionFree q 0 i) else s)

/-- A stack takes spills: in service, not fenced, not draining for a retraining (R326, R329, R464, R471). -/
def State.spills (s : State) (d : Nat) : Bool :=
  s.get F.DRC_STATUS_STATE d == 2 && !s.on F.DRC_STATUS_FENCED d && ((SMap.findD s.drams d default).retrain).isNone

/-- A stack takes no spill before its exit from self-refresh, which the first spill starts (R471). -/
def State.wakes (s : State) (d : Nat) : Bool :=
  (s.get F.DRC_STATUS_STATE d == 3 || s.get F.DRC_STATUS_STATE d == 4) && !s.on F.DRC_STATUS_FENCED d && ((SMap.findD s.drams d default).retrain).isNone

/-- A stack beside its registers. -/
def State.stack (s : State) (d : Nat) : Stack := SMap.findD s.drams d default

/-- Change a stack. -/
def State.withStack (s : State) (d : Nat) (f : Stack → Stack) : State := { s with drams := SMap.modify s.drams d default f }

/-! ## Write queues of a stack (R453 to R455, R459) -/

/-- The byte address in its stack of a DRAM buffer: its quadrant's share, the four pools in ascending order, the index in the stack; the order of the pools is no rule's (DESIGN CHOICE, log 112). -/
def State.dramAddr (s : State) (h : Nat) : Nat :=
  let q := handleQuad h
  let i := handlePool h
  let d := s.stackOf h
  let index := handleIndex h - if d = 0 then 0 else s.dramCount q i 0
  s.get F.DRC_SHARE_FIRST_MIB (5 * d + q) * 2 ^ 20 + ((List.range i).map fun j => s.dramCount q j d * s.poolSize q j).sum + index * s.poolSize q i

/-- Pseudo-channel and byte address of each burst of a DRAM buffer (R455). -/
def State.bursts (s : State) (h size : Nat) : List (Nat × Nat) :=
  let d := s.stackOf h
  let index := handleIndex h - if d = 0 then 0 else s.dramCount (handleQuad h) (handlePool h) 0
  (List.range (size / 64)).map fun k => ((index + k) % 32, s.dramAddr h + 64 * k)

/-- The next write of a queue goes to the DRAM: deep-buffer writes before telemetry writes, the oldest first (R459). -/
def serveWrite (l : List DramWrite) : List DramWrite :=
  match l.findIdx? fun w => !w.telem with
  | some i => l.take i ++ l.drop (i + 1)
  | none => l.drop 1

/-- A burst enters the write queue of a pseudo-channel; a queue of 64 first serves one entry, which is counted (R459; DESIGN CHOICE, log 112). -/
def Stack.push (x : Stack) (pc : Nat) (w : DramWrite) : Stack × Nat :=
  let l := SMap.findD x.writes pc []
  let full := decide (64 ≤ l.length)
  let l := (if full then serveWrite l else l) ++ [w]
  ({ x with writes := SMap.put x.writes pc l, flooded := if 48 ≤ l.length ∧ x.flooded.contains pc = false then pc :: x.flooded else x.flooded }, b2n full)

/-- Serve up to n writes of a pseudo-channel; below 17 entries reads have priority again (R459). -/
def Stack.serve (x : Stack) (pc n : Nat) : Stack :=
  let l := (List.range n).foldl (fun l _ => serveWrite l) (SMap.findD x.writes pc [])
  { x with
    writes := if l.isEmpty then SMap.del x.writes pc else SMap.put x.writes pc l
    flooded := if l.length ≤ 16 then x.flooded.filter (· != pc) else x.flooded }

/-- A request wakes the pseudo-channels that it needs (R469). -/
def State.wakePcs (s : State) (d : Nat) (pcs : List Nat) : State :=
  let l := (s.stack d).pcDown.filter fun pc => !pcs.contains pc
  (s.withStack d fun x => { x with pcDown := l }).set F.DRC_STATUS_PCS_DOWN d l.length

/-- Bursts enter the write queues of a stack. -/
def State.dramWrites (s : State) (d : Nat) (l : List (Nat × DramWrite)) : State :=
  let s := s.wakePcs d (l.map (·.1))
  let r := l.foldl (fun a e => let p := a.1.push e.1 e.2; (p.1, a.2 + p.2)) (s.stack d, 0)
  (s.withStack d fun _ => r.1).count F.DRC_CNT_COUNT (6 * d) r.2

/-- Pending writes of a stack. -/
def Stack.pendingWrites (x : Stack) : Nat := (x.writes.map fun e => e.2.length).sum

/-- Up to n writes of every pseudo-channel of a stack reach the DRAM and are counted. -/
def State.dramServe (s : State) (d n : Nat) : State :=
  let x := s.stack d
  let y := (x.writes.map (·.1)).foldl (fun y pc => y.serve pc n) x
  (s.withStack d fun _ => y).count F.DRC_CNT_COUNT (6 * d) (x.pendingWrites - y.pendingWrites)

/-- The stack to which a quadrant's frame of pool i spills: the one with more free buffers of the size, stack 0 on a tie (R325). A stack in self-refresh or leaving it counts too, unless the queue must go on in DRAM and the other stack serves (R471; DESIGN CHOICE, log 112). -/
def State.spillStack (s : State) (q i : Nat) (goesOn : Bool) : Option Nat :=
  let own (d : Nat) : Bool := s.on F.DRC_SHARE_COUNT_MIB (5 * d + q)
  let serves := (List.range 2).filter fun d => own d && s.spills d
  let asleep := (List.range 2).filter fun d => own d && s.wakes d
  let l := if goesOn && !serves.isEmpty then serves else serves ++ asleep
  if l.contains 0 && (!l.contains 1 || decide (s.dramFree q i 1 ≤ s.dramFree q i 0)) then some 0 else if l.contains 1 then some 1 else none

/-- Take a DRAM buffer on a stack, none where it has none free (R325). -/
def State.allocDram (s : State) (q d : Nat) (f : Frame) : Option Nat × State :=
  match s.fitting q (f.vec.len + 32) with
  | none => (none, s)
  | some i =>
    if s.dramFree q i d = 0 then (none, s)
    else
      let base := if d = 0 then 0 else s.dramCount q i 0
      let r := s.draw
      let s := r.2
      let h := handleOf q i (base + freeIndex (fun x => (s.buf (handleOf q i (base + x) true)).isSome) (s.dramCount q i d) r.1 s.path.bufs.length) true
      let b : Buf := { frame := f.stored (s.poolSize q i), region := 0, size := s.poolSize q i, holders := 0, closerGone := false, hostOwned := false, marked := none }
      let s := s.withBufs (SMap.put s.path.bufs h b)
      (some h, s.dramWrites d ((s.bursts h b.size).map fun x => (x.1, { addr := x.2, telem := false })))

/-! ## Drops (R330, R331) -/

/-- Drop codes of Table 11.4. -/
def cPoolEmpty : Nat := 0x01
def cQueueFull : Nat := 0x02
def cAged : Nat := 0x03
def cBudgetSpent : Nat := 0x04
def cLinkFlush : Nat := 0x05
def cLenMismatch : Nat := 0x06
def cParseTrunc : Nat := 0x07
def cAclDeny : Nat := 0x08
def cNoRoute : Nat := 0x09
def cTtlZero : Nat := 0x0A
def cPolicedRed : Nat := 0x0B
def cStreamGate : Nat := 0x0C
def cGateOversize : Nat := 0x0D
def cMergeDup : Nat := 0x0E
def cSecAuthFail : Nat := 0x0F
def cPnExhausted : Nat := 0x10
def cFencedUnit : Nat := 0x11
def cDeepOffline : Nat := 0x12
def cLearnLimit : Nat := 0x13

/-- A drop counted in a quadrant, and BUF_DROP_LAST (R331). -/
def State.dropIn (s : State) (q code port : Nat) (egress : Bool) (queue : Nat) : State :=
  (((((s.count F.BUF_DROP_CNT_COUNT (64 * q + code) 1).set F.BUF_DROP_LAST_CODE q code).set F.BUF_DROP_LAST_PORT q port).set
    F.BUF_DROP_LAST_EGRESS q (b2n egress)).set F.BUF_DROP_LAST_QUEUE q queue).set F.BUF_DROP_LAST_NS q (s.nowNs % 10 ^ 9)

/-- A drop at an ingress stage. -/
def State.dropAt (s : State) (code port : Nat) : State := s.dropIn (quadOf port) code port false 0

/-- A drop at an egress stage in quadrant q, which the port's BUF_PORT_DROP counts too (R331). -/
def State.dropOutIn (s : State) (q code port queue : Nat) : State :=
  let s := s.dropIn q code port true queue
  if port < 512 then
    s.count F.BUF_PORT_DROP_COUNT (4 * port + (if code = cQueueFull then 0 else if code = cPoolEmpty then 1 else if code = cAged then 2 else 3)) 1
  else s

/-- A drop at an egress stage of a port. -/
def State.dropOut (s : State) (code port queue : Nat) : State := s.dropOutIn (quadOf port) code port queue

/-- Drops counted in a quadrant. -/
def State.drops (s : State) (q : Nat) : Nat := ((List.range 64).map fun c => s.get F.BUF_DROP_CNT_COUNT (64 * q + c)).sum

/-- The fields of BUF_DROP_LAST. -/
def dropLast : List Field :=
  [F.BUF_DROP_LAST_CODE, F.BUF_DROP_LAST_PORT, F.BUF_DROP_LAST_EGRESS, F.BUF_DROP_LAST_QUEUE, F.BUF_DROP_LAST_NS]

/-- A change within a cycle from s to t, where a drop of the cycle is behind it if `seen`: of two drops in quadrant q BUF_DROP_LAST keeps the one with the lower code (chapter 11). -/
def State.keepLowest (s t : State) (q : Nat) (seen : Bool) : State :=
  if seen && t.drops q != s.drops q && decide (s.get F.BUF_DROP_LAST_CODE q ≤ t.get F.BUF_DROP_LAST_CODE q) then
    t.forAll dropLast fun t f => t.set f q (s.get f q)
  else t

/-- Changes of one cycle with what each hands to the next, and BUF_DROP_LAST as the cycle leaves it; `seen` says that the cycle has had a drop before. -/
def State.oneCycle {α β : Type} (s : State) (q : Nat) (seen : Bool) (l : List α) (b : β) (f : State → β → α → β × State) : β × State :=
  (l.foldl (fun (r : (β × State) × Bool) x =>
    let t := f r.1.2 r.1.1 x
    ((t.1, r.1.2.keepLowest t.2 q r.2), r.2 || t.2.drops q != r.1.2.drops q)) ((b, s), seen)).1

/-! ## Sent pauses (R158) -/

/-- Bytes received on a port and assigned a class that some buffer still holds; a frame counts once. -/
def State.occupancy (s : State) (p : Nat) (cls : Nat → Bool) : Nat :=
  let l := (s.path.bufs.filter fun e => e.2.frame.port == p && cls e.2.frame.cls).map fun e => (e.2.frame.id, e.2.frame.bytes.length + 4)
  ((l.foldl (fun seen x => if seen.any fun y => y.1 == x.1 then seen else x :: seen) []).map (·.2)).sum

/-- Classes that share one counter under the port's FC_MODE, as bits. -/
def State.fcMask (s : State) (p c : Nat) : Nat := if s.get F.PRT_CFG_FC_MODE p = 1 then 255 else 2 ^ c

/-- The port's counter of a class is compared with XOFF and XON (R158). -/
def State.pauseCheck (s : State) (p c : Nat) : State :=
  let mode := s.get F.PRT_CFG_FC_MODE p
  if s.isPort p = false ∨ mode = 0 ∨ mode = 3 then s
  else
    let mask := s.fcMask p c
    let n := s.occupancy p fun x => bitOf mask x
    let xoff := s.get F.PRT_STATUS_TX_XOFF p
    if xoff &&& mask = 0 ∧ s.get F.PRT_FC_TX_XOFF p * 256 < n then
      (s.set F.PRT_STATUS_TX_XOFF p (orN xoff mask)).withLive p fun l => { l with pauses := l.pauses ++ [(mask, s.get F.PRT_FC_TX_QUANTA p)] }
    else if xoff &&& mask ≠ 0 ∧ n ≤ s.get F.PRT_FC_TX_XON p * 256 then
      (s.set F.PRT_STATUS_TX_XOFF p (andNotN xoff mask)).withLive p fun l => { l with pauses := l.pauses ++ [(mask, 0)] }
    else s

/-! ## Leaving a buffer (R302, R315) -/

/-- Free a buffer and look at the pause counter of its frame's port. -/
def State.freeBuf (s : State) (h : Nat) : State :=
  match s.buf h with
  | some b => (s.withBufs (SMap.del s.path.bufs h)).pauseCheck b.frame.port b.frame.cls
  | none => s

/-- Free the buffer when the closer and the last holder have gone (R315). -/
def State.settleBuf (s : State) (h : Nat) : State :=
  match s.buf h with
  | some b => if b.closerGone && b.holders == 0 && !b.hostOwned then s.freeBuf h else s
  | none => s

/-- A replica has gone (R315). -/
def State.gone (s : State) (h : Nat) (enqueued closer : Bool) : State :=
  (s.onBuf h fun b => { b with holders := if enqueued then b.holders - 1 else b.holders, closerGone := b.closerGone || closer }).settleBuf h

/-! ## Queues and admission (R306 to R308, R324 to R327, R360) -/

/-- The quadrant of a global queue ID (R31, R32). -/
def queueQuad (gq : Nat) : Nat := if gq < 24576 then gq / 6144 else (gq - 24576) / 16

/-- The port of a global queue ID. -/
def queuePort (gq : Nat) : Nat := if gq < 24576 then gq / 48 else 512 + (gq - 24576) / 16

/-- The local number of a global queue ID. -/
def queueLocal (gq : Nat) : Nat := if gq < 24576 then gq % 48 else (gq - 24576) % 16

/-- Index of the queue's profile among the profiles of all quadrants. -/
def State.profileOf (s : State) (gq : Nat) : Nat :=
  64 * queueQuad gq + if gq < 24576 then s.get F.BUF_QUEUE_CFG_PROFILE gq else s.get F.BUF_HOST_QUEUE_CFG_PROFILE (gq - 24576)

/-- Size of the buffer an entry holds. -/
def State.entrySize (s : State) (e : QEntry) : Nat := (s.buf e.buf).elim 0 (·.size)

/-- On-die depth D of a queue (R307). -/
def State.depth (s : State) (gq : Nat) : Nat := (((s.queue gq).filter fun e => !handleDram e.buf).map s.entrySize).sum

/-- Bytes of a queue in DRAM. -/
def State.depthDram (s : State) (gq : Nat) : Nat := (((s.queue gq).filter fun e => handleDram e.buf).map s.entrySize).sum

/-- The queue holds frames in DRAM. -/
def State.inDram (s : State) (gq : Nat) : Bool := (s.queue gq).any fun e => handleDram e.buf

/-- A frame of buffer size n for a queue goes to DRAM (R326, R328); the stack must take spills (R329, R471). -/
def State.wantsDram (s : State) (gq n : Nat) : Bool :=
  decide (gq < 24576) &&
    (s.inDram gq ||
      (s.on F.BUF_QUEUE_CFG_DEEP gq && decide (s.get F.BUF_PROFILE_AGE_DEEP_THRESH (s.profileOf gq) * 256 < s.depth gq + n)))

/-- The stack that a frame of buffer size n spills to from a queue: none where it stays on-die (R326, R471). -/
def State.spillTo (s : State) (gq n : Nat) : Option Nat :=
  if s.wantsDram gq n then (s.fitting (queueQuad gq) n).bind fun i => s.spillStack (queueQuad gq) i (s.inDram gq) else none

/-- Free bytes of a quadrant now (R308, R326). -/
def State.freeAt (s : State) (q : Nat) : FreeAt where
  region := (List.range 5).map (s.regionBytes q)
  dram := ((List.range 4).map fun i => (s.dramFree q i 0 + s.dramFree q i 1) * s.poolSize q i).sum

/-- Free bytes of the region that a new frame of buffer size n for a queue will use (R307, R326). -/
def State.freeFor (s : State) (free : FreeAt) (gq region n : Nat) : Nat :=
  if (s.spillTo gq n).any s.spills then free.dram else free.region.getD region 0

/-- Free bytes of the region in which a buffer lies (R307, R310). -/
def FreeAt.ofBuf (free : FreeAt) (h : Nat) (b : Buf) : Nat := if handleDram h then free.dram else free.region.getD b.region 0

/-- The queue admits a frame of buffer size n, f bytes of its region free at the start of the cycle (R307, R308). -/
def State.admits (s : State) (gq n f : Nat) : Bool :=
  let pr := s.profileOf gq
  let deep := decide (gq < 24576) && (s.on F.BUF_QUEUE_CFG_DEEP gq || s.inDram gq)
  let d := s.depth gq
  if d + n ≤ s.get F.BUF_PROFILE_ADM_MIN pr * 256 then true
  else if s.get F.BUF_PROFILE_ADM_MODE pr = 0 then
    decide ((if deep then d + s.depthDram gq else d) + n ≤ s.get F.BUF_PROFILE_ADM_LIMIT pr * 256)
  else decide ((d + n) * 256 ≤ f * 2 ^ s.get F.BUF_PROFILE_ADM_ALPHA_EXP pr)

/-- The unicast queue of class c on front port p for a frame hash (R360). -/
def State.ucastQueue (s : State) (p c hash : Nat) : Nat :=
  48 * p + s.get F.SCH_QMAP_UQ_BASE (8 * p + c) + bits hash 2 2 % 2 ^ s.get F.SCH_QMAP_SPAN (8 * p + c)

/-- Rate of a port in Gbit/s, halved when narrowed (R26, R137). -/
def State.rate (s : State) (p : Nat) : Nat :=
  match s.port p with
  | some c => laneGbps c.rate * (if s.on F.PRT_STATUS_NARROWED p then c.width / 2 else c.width)
  | none => 0

/-! ## Age and budget (R317 to R321) -/

/-- Age of a frame in units of 64 ns (R317). -/
def State.age (s : State) (f : Frame) : Nat := (s.localQ / 256 + 2 ^ 24 - f.rxQ / 256 % 2 ^ 24) % 2 ^ 24

/-- A frame older than its queue's limit (R318); sheltered frames do not age (R311). -/
def State.isAged (s : State) (gq : Nat) (b : Buf) : Bool :=
  let lim := s.get F.BUF_PROFILE_AGE_AGE_LIMIT (s.profileOf gq)
  lim != 0 && b.region == 0 && decide (lim < s.age b.frame)

/-- The budget field of a ring tag, signed ns (Table 14.3). -/
def Frame.budget (f : Frame) : Int :=
  let v := be f.bytes 20 4
  if v < 2 ^ 31 then v else (v : Int) - 2 ^ 32

/-- LINK_NS of a port (R320). -/
def State.linkNs (s : State) (p : Nat) : Nat := s.get F.BUF_PORT_BUDGET_LINK_NS p

/-- Budget left of a frame in quarter ns (R320). -/
def State.budgetLeft (s : State) (f : Frame) : Int := 4 * f.budget - ((s.localQ : Int) - f.rxQ)

/-- A budgeted frame whose budget left is less than E (R320, R321); a local copy leaves the ring with LINK_NS 0 (R399). For a host queue no E is stated but that it is more than none: nothing left is too little (R399; log 24). -/
def State.budgetSpent (s : State) (f : Frame) (p : Nat) : Bool :=
  f.vec.ringTag &&
    (if 512 ≤ p then decide (s.budgetLeft f ≤ 0)
     else
       let r := s.rate p
       let link := if f.ringLocal then 0 else s.linkNs p
       decide (s.budgetLeft f * r < 4 * (f.vec.len * 8 + (s.get F.BUF_PORT_BUDGET_TAIL_NS p + link) * r)))

/-! ## Enqueueing (R306, R314, R365, R366) -/

/-- The later of two 48-bit tags within the window above V (R365). -/
def laterTag (v x : Nat) : Nat := if (x + 2 ^ 48 - v) % 2 ^ 48 < 2 ^ 47 then x else v

/-- The class of a queue on its port (R360). -/
def State.queueClass (s : State) (gq : Nat) : Nat := s.get F.SCH_QUEUE_CFG_CLASS gq

/-- L of the frame of an entry. -/
def State.entryLen (s : State) (e : QEntry) : Nat := (s.buf e.buf).elim 0 (·.frame.vec.len)

/-- A head arrives at a queue: its tags are set (R365). -/
def State.headArrives (s : State) (gq : Nat) (waking : Bool) : State :=
  match s.queue gq with
  | [] => s
  | e :: _ =>
    let t := SMap.findD s.path.tags gq default
    let v := s.get F.SCH_CLASS_STATUS_VTIME (8 * (gq / 48) + s.queueClass gq)
    let start := if waking then laterTag v t.last else t.last
    let fin := (start + ceilDiv (s.entryLen e * 1024) (s.get F.SCH_QUEUE_CFG_WEIGHT gq)) % 2 ^ 48
    { s with path := { s.path with tags := SMap.put s.path.tags gq { t with start := start, finish := fin } } }

/-- The EDF deadline of a frame in a queue; a ring's local copy leaves the ring with LINK_NS 0 (R366, R399). -/
def State.deadlineOf (s : State) (f : Frame) (gq : Nat) : Nat :=
  let d : Int := f.rxQ / 4 + s.get F.SCH_QUEUE_CFG_DL_NS gq
  let p := gq / 48
  let r := max 1 (s.rate p)
  let e : Int := f.rxQ / 4 + f.budget - (f.vec.len * 8 / r + s.get F.BUF_PORT_BUDGET_TAIL_NS p + (if f.ringLocal then 0 else s.linkNs p) : Nat)
  let d := if s.on F.SCH_QUEUE_CFG_DL_BUDGET gq && f.vec.ringTag && decide (e < d) then e else d
  (d % 2 ^ 32).toNat

/-- Frames for a port are discarded as they are enqueued (R141, R508). -/
def State.flushes (s : State) (port : Nat) : Bool :=
  if port < 512 then (s.live port).flushing else !s.pins.hostAllowed || s.pins.perstLow

/-- Append an entry; its buffer gains a holder (R315). -/
def State.enqueue (s : State) (gq : Nat) (e : QEntry) : State :=
  let was := (s.queue gq).isEmpty
  let s := (s.withQueue gq (s.queue gq ++ [e])).onBuf e.buf fun b => { b with holders := b.holders + 1 }
  if was && decide (gq < 24576) then s.headArrives gq true else s

/-- Region of a unicast frame for a queue (R310). -/
def State.regionOf (s : State) (gq : Nat) : Nat :=
  if 24576 ≤ gq then 3 else if s.get F.BUF_QUEUE_CFG_SHELTER gq = 1 then 1 else if s.get F.BUF_QUEUE_CFG_SHELTER gq = 2 then 2 else 0

/-- A frame of a queue takes its buffer: in DRAM where it spills, else on-die; the first spill to a stack in self-refresh starts its exit, and the frame stays on-die (R306, R325, R471). -/
def State.allocFor (s : State) (gq region size : Nat) (f : Frame) : Option Nat × State :=
  let q := queueQuad gq
  match s.spillTo gq size with
  | none => s.alloc q region f
  | some d =>
    if s.spills d then s.allocDram q d f
    else (if s.get F.DRC_STATUS_STATE d = 3 then s.set F.DRC_STATUS_STATE d 4 else s).alloc q region f

/-- The ring group of a ring port: members only (R23, R174). -/
def State.ringGroup (s : State) (p : Nat) : Option Nat :=
  if p < 512 ∧ (p % 128 = 0 ∨ p % 128 = 4) ∧ groupPresent s.variant (p / 128) ∧ s.on F.RNG_GROUP_CFG_MEMBER (p / 128) then some (p / 128) else none

/-- An originating copy that passes admission takes its group's next ring sequence (R398). -/
def State.takeSeq (s : State) (port : Nat) (e : QEntry) : Option Nat × State :=
  match s.ringGroup port with
  | some g =>
    if e.recipe = 0x11 then
      match e.ringSeq with
      | some n => (some n, s)
      | none =>
        let n := s.get F.RNG_GROUP_STATUS_NEXT_SEQ g
        (some n, (s.set F.RNG_GROUP_STATUS_NEXT_SEQ g (n + 1)).count F.RNG_CNT_COUNT (6 * g) 1)
    else (e.ringSeq, s)
  | none => (e.ringSeq, s)

/-- What refuses a frame of buffer size n for a queue before allocation, f bytes of its region free: a fenced tile, a spent budget, admission (Table 19.5, R306). -/
def State.refusal (s : State) (f : Frame) (gq n free : Nat) : Option Nat :=
  let port := queuePort gq
  if port < 512 ∧ s.tileOut (port / 16) then some cFencedUnit
  else if s.budgetSpent f port then some cBudgetSpent
  else if s.admits gq n free = false then some cQueueFull
  else none

/-- Buffer size and free bytes of its region with which a frame stands before a queue: those of the buffer that it brings, else of the one it will take (R307, R312). -/
def State.asks (s : State) (free : FreeAt) (f : Frame) (gq region : Nat) : Nat × Nat :=
  match f.handle.bind fun h => (s.buf h).map fun b => (b.size, free.ofBuf h b) with
  | some x => x
  | none =>
    let size := (s.fitting (queueQuad gq) (f.vec.len + 32)).elim 0 (s.poolSize (queueQuad gq))
    (size, s.freeFor free gq region size)

/-- The buffer that a frame brings takes its content in place of the old, which its port no longer has in a buffer (R158, R312). -/
def State.refill (s : State) (h : Nat) (f : Frame) : State :=
  match s.buf h with
  | none => s
  | some b => (s.onBuf h fun b => { b with frame := { f with handle := none } }).pauseCheck b.frame.port b.frame.cls

/-- A frame's budget, admission and allocation from a region for one queue, then the queue; `free` is what the cycle began with (R306, R308). -/
def State.enterQueue (s : State) (free : FreeAt) (f : Frame) (gq region : Nat) (e : QEntry) : State :=
  let port := queuePort gq
  let ask := s.asks free f gq region
  let refuse (s : State) (code : Nat) : State :=
    let s := s.dropOut code port (queueLocal gq)
    f.handle.elim s fun h => s.gone h false true
  match s.refusal f gq ask.1 ask.2 with
  | some code => refuse s code
  | none =>
    let r := s.takeSeq port e
    let s := r.2
    let e := { e with closer := true, ringSeq := r.1, deadline := if gq < 24576 then s.deadlineOf f gq else 0 }
    if s.flushes port then refuse s cLinkFlush
    else
      match f.handle with
      | some h => (s.refill h f).enqueue gq { e with buf := h }
      | none =>
        match s.allocFor gq region ask.1 f with
        | (some h, s) => (s.enqueue gq { e with buf := h }).pauseCheck f.port f.cls
        | (none, s) => (refuse s cPoolEmpty).evQ F.BUF_EVENT_POOL_EMPTY (queueQuad gq)

/-- A unicast frame enters a queue, its buffer from the region that R310 gives it. -/
def State.unicastIn (s : State) (free : FreeAt) (f : Frame) (gq : Nat) (e : QEntry) : State := s.enterQueue free f gq (s.regionOf gq) e

end Sys2Proof.Machine
end

