-- ==== Sys2Proof/Machine/Exm.lean ====
section
/-! DEFINITION. The exact-match fabric, learning and ageing (chapter 8). -/

namespace Sys2Proof.Machine

/-! ## Entries and keys (R208, R209) -/

/-- An entry: the control bits of Table 8.1 and its payload, 112 bits or the 224 bits of P. -/
structure Entry where
  static : Bool
  hit : Bool
  clear : Bool
  table : Nat
  stamp : Nat
  payload : Nat
  deriving DecidableEq, Repr, Inhabited

/-- The 128 bits of one slot (Table 8.1). -/
def Entry.slot (e : Entry) (pair : Bool) (payload : Nat) : Nat :=
  2 ^ 127 + b2n e.static * 2 ^ 126 + b2n e.hit * 2 ^ 125 + b2n e.clear * 2 ^ 124 + e.table % 16 * 2 ^ 120 +
    b2n pair * 2 ^ 119 + e.stamp % 128 * 2 ^ 112 + payload % 2 ^ 112

/-- The entry that a slot holds, with its payload bits. -/
def entryOf (slot payload : Nat) : Entry :=
  { static := bitOf slot 126, hit := bitOf slot 125, clear := bitOf slot 124, table := bits slot 120 4,
    stamp := bits slot 112 7, payload := payload }

/-- Lowest bit and width of the key of a kind and width (Table 8.2). -/
def keyRange : TableKind → Bool → Nat × Nat
  | .fdb, _ => (52, 60)
  | .hostRoute, false => (70, 42)
  | .hostRoute, true => (86, 138)
  | .streamId, false => (16, 96)
  | .streamId, true => (16, 208)
  | .sg, false => (38, 74)
  | .sg, true => (86, 138)
  | .merge, _ => (86, 26)
  | .meter, _ => (93, 19)

/-- The key in a payload. -/
def keyOf (c : TableCfg) (payload : Nat) : Nat := bits payload (keyRange c.kind c.wide).1 (keyRange c.kind c.wide).2

/-- A place: bank, row, slot; for a wide entry its first slot. -/
structure Place where
  bank : Nat
  row : Nat
  slot : Nat
  deriving DecidableEq, Repr, Inhabited

/-- Where a slot is stored. -/
def Place.addr (p : Place) : Nat := p.bank * 8192 + p.row * 4 + p.slot

/-- The slots of a bucket that begin an entry (R206). -/
def slotsOf (wide : Bool) : List Nat := if wide then [0, 2] else [0, 1, 2, 3]

/-- Read the entry at a place, none where VALID is clear. -/
def State.emAt (s : State) (wide : Bool) (p : Place) : Option Entry :=
  let a := SMap.findD s.exm.slots p.addr 0
  if bitOf a 127 then
    some (entryOf a (if wide then a % 2 ^ 112 * 2 ^ 112 + SMap.findD s.exm.slots (p.addr + 1) 0 % 2 ^ 112 else a % 2 ^ 112))
  else none

/-- Replace the slots of the fabric. -/
def State.withSlots (s : State) (m : SMap Nat) : State := { s with exm := { s.exm with slots := m } }

/-- Write an entry at a place: one row write, so wholly old or wholly new (R207). -/
def State.emPut (s : State) (wide : Bool) (p : Place) (e : Entry) : State :=
  if wide then
    s.withSlots (SMap.put (SMap.put s.exm.slots p.addr (e.slot false (e.payload / 2 ^ 112))) (p.addr + 1) (e.slot true e.payload))
  else s.withSlots (SMap.put s.exm.slots p.addr (e.slot false e.payload))

/-- Clear the entry at a place. -/
def State.emClear (s : State) (wide : Bool) (p : Place) : State :=
  if wide then s.withSlots (SMap.del (SMap.del s.exm.slots p.addr) (p.addr + 1)) else s.withSlots (SMap.del s.exm.slots p.addr)

/-! ## Hashing (R213) -/

/-- The CRC of R213 over the n bits of a key, most significant first. -/
def hashCrc (poly seed key : Nat) : Nat → Nat
  | 0 => seed % 2 ^ 32
  | n + 1 =>
    -- the top n bits have gone in already
    let c := hashCrc poly seed (key / 2) n
    let fb := bitOf c 31 != bitOf key 0
    let c := c * 2 % 2 ^ 32
    if fb then c ^^^ poly % 2 ^ 32 else c

/-- The candidate bucket of a key in a half. -/
def bucketOf (c : TableCfg) (half key : Nat) : Nat × Nat :=
  let h := hashCrc (if half = 0 then c.h0Poly else c.h1Poly) (if half = 0 then c.h0Seed else c.h1Seed) key (keyRange c.kind c.wide).2
  (c.bankFirst + h / 2048 % c.bankCount + 256 * half, h % 2048)

/-- A bank serves lookups (R231). -/
def State.bankIn (s : State) (b : Nat) : Bool := !s.exm.out.contains b

/-- The place of a key in one bucket. -/
def State.emFindIn (s : State) (t : Nat) (c : TableCfg) (b : Nat × Nat) (key : Nat) : Option Place :=
  if s.bankIn b.1 then
    ((slotsOf c.wide).map fun k => (⟨b.1, b.2, k⟩ : Place)).find? fun p =>
      (s.emAt c.wide p).any fun e => e.table = t && keyOf c e.payload = key
  else none

/-- The place of a key: half 0, then half 1. -/
def State.emFind (s : State) (t : Nat) (c : TableCfg) (key : Nat) : Option Place :=
  (s.emFindIn t c (bucketOf c 0 key) key).orElse fun _ => s.emFindIn t c (bucketOf c 1 key) key

/-- Whether some open or armed cut's change satisfies a test (R289). -/
def State.anyChange (s : State) (p : CutChange → Bool) : Bool := s.tue.cuts.any fun c => c.2.changes.any p

/-- A slot that a cut's insert reserves (R288). -/
def State.placeReserved (s : State) (p : Place) : Bool :=
  s.anyChange fun x => x.opcode == 0x10 && x.place == some (p.bank, p.row, p.slot)

/-- A key of a table that a cut names (R289). -/
def State.pinnedKey (s : State) (t key : Nat) : Bool :=
  s.anyChange fun x => decide (0x10 ≤ x.opcode ∧ x.opcode ≤ 0x12) && x.space == t &&
    ((SMap.find s.layers.tables t).any fun c => keyOf c x.body == key)

/-- A free slot of a bucket, lowest first; a bank out of service counts as full (R231), a reserved slot as taken (R288). -/
def State.emFree (s : State) (c : TableCfg) (b : Nat × Nat) : Option Place :=
  if s.bankIn b.1 then
    ((slotsOf c.wide).map fun k => (⟨b.1, b.2, k⟩ : Place)).find? fun p => (s.emAt c.wide p).isNone && !s.placeReserved p
  else none

/-! ## Learn counts and event records (R224, R232) -/

/-- The learned port of an FDB payload, where LEARNED is set. -/
def learnPort (c : TableCfg) (payload : Nat) : Option Nat :=
  if c.kind = .fdb ∧ bitOf payload 33 then some (bits payload 23 10) else none

/-- Learn counts follow an entry that goes and one that comes. -/
def State.learnDelta (s : State) (c : TableCfg) (old new : Option Nat) : State :=
  let s := match old.bind (learnPort c) with
    | some p => s.set F.EXM_PORT_LEARN_COUNT p (s.get F.EXM_PORT_LEARN_COUNT p - 1)
    | none => s
  match new.bind (learnPort c) with
  | some p => s.count F.EXM_PORT_LEARN_COUNT p 1
  | none => s

/-- Write an event record by DMA, or lose it (R232, R508); its bytes go least significant first (log 23). -/
def State.exmRecord (s : State) (type table port oldPort entry : Nat) : State :=
  if s.on F.EXM_EVT_CTRL_ENABLE 0 = false then s
  else if bitOf (s.get F.EXM_EVT_CTRL_TYPE_MASK 0) (type - 1) = false then s
  else
    let size := 2 ^ s.get F.EXM_EVT_CTRL_LOG2_SIZE 0
    let head := s.get F.EXM_EVT_HEAD_HEAD 0
    if (head + 1) % size = s.get F.EXM_EVT_TAIL_TAIL 0 % size ∨ s.pins.hostAllowed = false then
      (s.count F.EXM_CNT_COUNT 6 1).evC F.EXM_EVENT_EVT_OVERFLOW 0
    else
      let r := type % 16 * 2 ^ 252 + table % 16 * 2 ^ 248 + port % 1024 * 2 ^ 236 + oldPort % 1024 * 2 ^ 226 + entry % 2 ^ 224
      ((s.hostWrite (s.get F.EXM_EVT_BASE_ADDR 0 / 4096 * 4096 + 32 * head) (leBytes r 32)).set F.EXM_EVT_HEAD_HEAD 0
        ((head + 1) % size)).cause 72

/-- A removed or evicted entry: its record, its count and the learn count (R217, R224, R225). -/
def State.emRemoved (s : State) (t : Nat) (c : TableCfg) (type cnt : Nat) (e : Entry) : State :=
  ((s.learnDelta c (some e.payload) none).count F.EXM_CNT_COUNT cnt 1).exmRecord type t ((learnPort c e.payload).getD 0) 0 e.payload

/-! ## Inserting (R214 to R219) -/

/-- State of a table's clock and pass. -/
def State.exmTable (s : State) (t : Nat) : ExmTable := SMap.findD s.exm.tables t default

/-- Change a table's clock and pass. -/
def State.withExmTable (s : State) (t : Nat) (f : ExmTable → ExmTable) : State :=
  { s with exm := { s.exm with tables := SMap.modify s.exm.tables t default f } }

/-- Ageing is in effect: AGE_EN is set, or the last pass is still running (R569). -/
def State.ageing (s : State) (t : Nat) : Bool := s.on F.EXM_SWEEP_AGE_EN t || (s.exmTable t).next.isSome

/-- The clock advances once every 65,536 insertions while ageing is not in effect (R214); ageEn is AGE_EN as the inserting party reads it (R263). -/
def State.countInsert (s : State) (t : Nat) (ageEn : Bool) : State :=
  if ageEn || (s.exmTable t).next.isSome then s
  else s.withExmTable t fun x =>
    if x.inserts = 65535 then { x with inserts := 0, clock := (x.clock + 1) % 128 } else { x with inserts := x.inserts + 1 }

/-- A chain search node: a bucket and the moves that lead from it to the start, nearest first, each the place moved from. -/
structure ChainNode where
  bucket : Nat × Nat
  path : List Place
  deriving DecidableEq, Repr

/-- The breadth-first search of R215: the places moved from, the free end first, and the free place. -/
def State.emChain (s : State) (c : TableCfg) (pinned : Nat → Bool) : Nat → List ChainNode → List (Nat × Nat) → Option (List Place × Place)
  | 0, _, _ => none
  | _, [], _ => none
  | fuel + 1, n :: rest, seen =>
    match s.emFree c n.bucket with
    | some p => some (n.path, p)
    | none =>
      if 16 ≤ n.path.length then State.emChain s c pinned fuel rest seen
      else
        let kids := (slotsOf c.wide).filterMap fun k =>
          let p : Place := ⟨n.bucket.1, n.bucket.2, k⟩
          if s.bankIn p.bank then
            (s.emAt c.wide p).bind fun e =>
              if pinned (keyOf c e.payload) then none
              else some (⟨bucketOf c (if n.bucket.1 < 256 then 1 else 0) (keyOf c e.payload), p :: n.path⟩ : ChainNode)
          else none
        let kids := kids.filter fun k => !seen.contains k.bucket
        State.emChain s c pinned fuel (rest ++ kids) (seen ++ kids.map (·.bucket))

/-- Make the moves of a chain, the free end first: copy with HIT set and CLEAR_SEEN clear, then clear the source (R215, R216). The place freed. -/
def State.emMoves (s : State) (wide : Bool) : List Place → Place → State × Place
  | [], free => (s, free)
  | src :: rest, free =>
    match s.emAt wide src with
    | some e => State.emMoves ((s.emPut wide free { e with hit := true, clear := false }).emClear wide src) wide rest src
    | none => State.emMoves s wide rest src

/-- Rank of a candidate victim for EVICT oldest: state first, then age (R217). -/
def victimRank (clock : Nat) (e : Entry) : Nat :=
  (if e.clear then 2 else if e.hit then 0 else 1) * 128 + (clock + 128 - e.stamp) % 128

/-- The victim: not static, not reserved by a cut; random or oldest (R217). -/
def State.emVictim (s : State) (c : TableCfg) (pinned : Nat → Bool) (t : Nat) (bs : List (Nat × Nat)) : Option (Place × Entry) × State :=
  let cands := bs.flatMap fun b => (slotsOf c.wide).filterMap fun k =>
    let p : Place := ⟨b.1, b.2, k⟩
    if s.bankIn b.1 then (s.emAt c.wide p).bind fun e => if e.static || pinned (keyOf c e.payload) then none else some (p, e) else none
  match cands with
  | [] => (none, s)
  | x :: xs =>
    if c.evictOldest then
      let clock := (s.exmTable t).clock
      (some (xs.foldl (fun b y => if victimRank clock b.2 < victimRank clock y.2 then y else b) x), s)
    else
      let r := s.draw
      (cands[r.1 % cands.length]?, r.2)

/-- Results of Table 8.3. -/
inductive EmResult where
  | ok | moved | evicted | exists_ | notFound | full | badTable | badEntry
  deriving DecidableEq, Repr

/-- Codes of Table 8.3. -/
def EmResult.code : EmResult → Nat
  | .ok => 0 | .moved => 1 | .evicted => 2 | .exists_ => 3 | .notFound => 4 | .full => 5 | .badTable => 6 | .badEntry => 7

/-- LEARNED is written as 0 with STATIC (R219). -/
def staticPayload (c : TableCfg) (static : Bool) (payload : Nat) : Nat :=
  if static && c.kind == .fdb then putBits payload 33 1 0 else payload

/-- Update in place: result and STATIC, leaving HIT, CLEAR_SEEN and STAMP (R219). -/
def State.emUpdateAt (s : State) (c : TableCfg) (p : Place) (static : Bool) (payload : Nat) : State :=
  match s.emAt c.wide p with
  | none => s
  | some e =>
    let new := staticPayload c static payload
    (s.emPut c.wide p { e with static := static, payload := new }).learnDelta c (some e.payload) (some new)

/-- Insert a key and result (R215); pinned says which keys of the table a cut reserves (R289), ageEn is AGE_EN as the party reads it (R263). -/
def State.emInsert (s : State) (t : Nat) (c : TableCfg) (pinned : Nat → Bool) (payload : Nat) (static replace noEvict ageEn : Bool) :
    State × EmResult :=
  let key := keyOf c payload
  let b0 := bucketOf c 0 key
  let b1 := bucketOf c 1 key
  let new := staticPayload c static payload
  let e : Entry := { static := static, hit := true, clear := false, table := t, stamp := (s.exmTable t).clock, payload := new }
  let put (s : State) (p : Place) : State := ((s.emPut c.wide p e).learnDelta c none (some new)).countInsert t ageEn
  match s.emFind t c key with
  | some p => if replace then (s.emUpdateAt c p static payload, .ok) else (s, .exists_)
  | none =>
    match (s.emFree c b0).orElse fun _ => s.emFree c b1 with
    | some p => (put s p, .ok)
    | none =>
      match s.emChain c pinned 1024 [⟨b0, []⟩, ⟨b1, []⟩] [b0, b1] with
      | some (path, free) =>
        let r := s.emMoves c.wide path free
        (put r.1 r.2, .moved)
      | none =>
        if noEvict then (s, .full)
        else
          match s.emVictim c pinned t [b0, b1] with
          | (none, s) => (s, .full)
          | (some (p, v), s) => (put (s.emRemoved t c 4 4 v) p, .evicted)

/-- Update an existing entry (R219). -/
def State.emUpdate (s : State) (t : Nat) (c : TableCfg) (payload : Nat) (static : Bool) : State × EmResult :=
  match s.emFind t c (keyOf c payload) with
  | some p => (s.emUpdateAt c p static payload, .ok)
  | none => (s, .notFound)

/-- Delete an entry (R219). -/
def State.emDelete (s : State) (t : Nat) (c : TableCfg) (payload : Nat) : State × EmResult :=
  match s.emFind t c (keyOf c payload) with
  | some p => ((s.emClear c.wide p).learnDelta c ((s.emAt c.wide p).map (·.payload)) none, .ok)
  | none => (s, .notFound)

/-! ## Lookups (R211, R225, R227) -/

/-- The place of a slot's address. -/
def placeOf (a : Nat) : Place := ⟨a / 8192, a / 4 % 2048, a % 4⟩

/-- A frame's lookup: the entry as it stands, and a HIT write on its way to every copy that matches, two during a move (R216, R225, R227). -/
def State.emLookup (s : State) (t : Nat) (key : Nat) : Option Entry × State :=
  match SMap.find s.layers.tables t with
  | none => (none, s)
  | some c =>
    let found := [0, 1].filterMap fun h => s.emFindIn t c (bucketOf c h key) key
    (found.head?.bind (s.emAt c.wide), { s with exm := { s.exm with hits := s.exm.hits ++ found.map fun p => (t, p.addr, key) } })

/-- A HIT write reaches its row: HIT set and CLEAR_SEEN cleared, where the slot still holds the matched key (R227). -/
def State.hitLands (s : State) (x : Nat × Nat × Nat) : State :=
  match SMap.find s.layers.tables x.1 with
  | none => s
  | some c =>
    let p := placeOf x.2.1
    match s.emAt c.wide p with
    | some e => if e.table = x.1 ∧ keyOf c e.payload = x.2.2 then s.emPut c.wide p { e with hit := true, clear := false } else s
    | none => s

/-- Every HIT write has reached its row: one takes at most 8 central cycles, less than a tick (R227). -/
def State.hitsLand (s : State) : State :=
  let t := s.forAll s.exm.hits State.hitLands
  { t with exm := { t.exm with hits := [], touched := [] } }

/-- The slot of a key has just been written by a host update (Table 8.5). -/
def State.emTouched (s : State) (t : Nat) (c : TableCfg) (key : Nat) : State :=
  match s.emFind t c key with
  | some p => { s with exm := { s.exm with touched := p.addr :: s.exm.touched } }
  | none => s

/-! ## Lost rows and banks (R229 to R231) -/

/-- The table that holds a bank. -/
def Layers.tableOfBank (l : Layers) (b : Nat) : Option Nat :=
  (l.tables.find? fun e => decide (e.2.bankFirst ≤ b % 256 ∧ b % 256 < e.2.bankFirst + e.2.bankCount)).map (·.1)

/-- Learn counts of a bank's table are recounted in the background (R230). -/
def State.startRecount (s : State) (t : Nat) : State :=
  { s with exm := { s.exm with recount := if s.exm.recount.contains t then s.exm.recount else t :: s.exm.recount } }.set
    F.EXM_EVENT_RECOUNT 0 1

/-- Empty some slots. -/
def State.emDrop (s : State) (p : Nat → Bool) : State := s.withSlots (SMap.drop s.exm.slots p)

/-- A row is rewritten empty with a ROW_LOST record (R229). -/
def State.rowLost (s : State) (bank row : Nat) : State :=
  let t := (s.layers.tableOfBank bank).getD 0
  ((s.emDrop fun k => decide (k / 4 = bank * 2048 + row)).exmRecord 6 t 0 0 (bank % 1024 + row % 2048 * 1024)).startRecount t

/-- A bank is fenced: the lowest unused spare takes its number, empty; without one it goes out of service (R229, R231). Either way its entries are gone and the learn counts of its table are recounted (R224, R230; log 124). DESIGN CHOICE, log 124: for a bank that belongs to no table TABLE of the record is 0, and the recount runs as well. -/
def State.bankFence (s : State) (bank : Nat) : State :=
  let t := (s.layers.tableOfBank bank).getD 0
  let s := s.emDrop fun k => decide (k / 8192 = bank)
  let s := s.fenceDone 0x007 bank
  match (List.range 8).find? fun i => !s.on F.EXM_BANK_MAP_IN_USE i with
  | some i =>
    let s := ((s.set F.EXM_BANK_MAP_IN_USE i 1).set F.EXM_BANK_MAP_BANK i bank).evC F.EXM_EVENT_BANK_TAKEOVER 0
    (s.exmRecord 7 t 0 0 (bank % 1024)).startRecount t
  | none =>
    let s := { s with exm := { s.exm with out := bank :: s.exm.out } }
    ((s.evC F.EXM_EVENT_SPARES_OUT 0).set F.TOP_CAPACITY_BANKS_OUT 0 (satAdd (s.get F.TOP_CAPACITY_BANKS_OUT 0) 1 15)).startRecount t

/-- What the bank's unit policy does about an uncorrectable row (R229, R485). -/
def State.rowPolicy (s : State) (bank row : Nat) : State :=
  if s.fencePolicy 0x007 bank then (if s.isFenced 0x007 bank && s.exm.out.contains bank then s else s.bankFence bank)
  else s.rowLost bank row

/-- An uncorrectable bank row met by a party: the report, then the bank's unit policy (R229, R485). -/
def State.rowUncorr (s : State) (master access bank row : Nat) : State :=
  (s.report 0x007 kUncorr master access (bank * 2048 + row)).rowPolicy bank row

/-- LEARN_RECOUNT_DONE: the counts are those of the entries held (R224, R230). -/
def State.recountDone (s : State) : State :=
  s.when (s.on F.EXM_EVENT_RECOUNT 0) fun s =>
    let held (p : Nat) : Nat := (s.exm.slots.filter fun e =>
      bitOf e.2 127 && ((SMap.find s.layers.tables (bits e.2 120 4)).any fun c => learnPort c (e.2 % 2 ^ 112) = some p)).length
    let s' := s.forAll (List.range 516) fun s p =>
      if s.get F.EXM_PORT_LEARN_COUNT p = held p then s else s.set F.EXM_PORT_LEARN_COUNT p (held p)
    { s' with exm := { s'.exm with recount := [] } }.set F.EXM_EVENT_RECOUNT 0 0

/-! ## Learning (R221 to R224) -/

/-- A port is at its learn limit (R224). -/
def State.atLimit (s : State) (p : Nat) : Bool :=
  s.on F.EXM_PORT_LEARN_LIMIT p && decide (s.get F.EXM_PORT_LEARN_LIMIT p ≤ s.get F.EXM_PORT_LEARN_COUNT p)

/-- A LIMIT record, at most one per port per 1 ms (Table 8.4). -/
def State.limitRecord (s : State) (table port fid mac : Nat) : State :=
  let s := s.count F.EXM_CNT_COUNT 3 1
  if (SMap.find s.exm.limitAt port).any fun t => decide (s.elapsed < t + nsUnits 1000000) then s
  else
    let s := s.exmRecord 5 table port 0 (fid % 4096 * 2 ^ 100 + mac % 2 ^ 48 * 2 ^ 52)
    { s with exm := { s.exm with limitAt := SMap.put s.exm.limitAt port s.elapsed } }

/-- The payload of a learned FDB entry (R222, Table 8.2). -/
def LearnReq.payload (r : LearnReq) : Nat :=
  r.fid % 4096 * 2 ^ 100 + r.mac % 2 ^ 48 * 2 ^ 52 + r.destKind % 4 * 2 ^ 50 + r.dest % 65536 * 2 ^ 34 + 2 ^ 33 + r.port % 1024 * 2 ^ 23

/-- Queue a learn request, unless its key is queued or the queue of 4,096 is full (R223). The learner is the ninth source of TUE's rotation: every ring command that could be accepted has been, so a request is accepted as it comes (R268). -/
def State.learnRequest (s : State) (r : LearnReq) : State :=
  if s.exm.queue.any fun x => x.table = r.table && x.fid = r.fid && x.mac = r.mac then s
  else if 4096 ≤ s.exm.queue.length then (s.count F.EXM_CNT_COUNT 2 1).evC F.EXM_EVENT_LEARN_QUEUE_FULL 0
  else
    { s with
      exm := { s.exm with queue := s.exm.queue ++ [{ r with seq := s.tue.accepted }] }
      tue := { s.tue with served := 8, accepted := s.tue.accepted + 1 } }

/-! ## Ageing (R225 to R228, R569) -/

/-- Buckets of a table (R205). -/
def TableCfg.buckets (c : TableCfg) : Nat := c.bankCount * 2 * 2048

/-- A pass starts: the clock advances, visits begin at the first bucket (R214, R225). -/
def State.passStart (s : State) (t : Nat) : State :=
  s.withExmTable t fun x => { x with clock := (x.clock + 1) % 128, next := some 0 }

/-- SWEEP_PASS_START: for a table with ageing in effect and no pass running. -/
def State.sweepPassStart (s : State) (t : Nat) : State :=
  s.when (s.up && (SMap.find s.layers.tables t).isSome && s.on F.EXM_SWEEP_AGE_EN t && (s.exmTable t).next.isNone) fun s =>
    s.passStart t

/-- The bucket of visit v: half 0 and half 1 alternately, ascending bank and row within each half (R225). -/
def visitBucket (c : TableCfg) (v : Nat) : Nat × Nat :=
  (c.bankFirst + v / 2 / 2048 + 256 * (v % 2), v / 2 % 2048)

/-- One entry under a visit that meets no other write (R225). -/
def State.visitOne (s : State) (t : Nat) (c : TableCfg) (p : Place) (e : Entry) : State :=
  if e.static then s
  else if e.hit then s.emPut c.wide p { e with hit := false }
  else if e.clear = false then s.emPut c.wide p { e with clear := true }
  else (s.emClear c.wide p).emRemoved t c 3 5 e

/-- One entry under a visit (R225); a reserved entry is left unvisited (R289). Where a HIT write to the entry is on its way, the visit may find it landed, meet it in its own cycle, or come first; where a host update has just written it, the visit may meet that write or come after it: Table 8.5 gives each outcome, and which of them arises is a free value (log 115). -/
def State.visitEntry (s : State) (t : Nat) (c : TableCfg) (pinned : Nat → Bool) (p : Place) : State :=
  match s.emAt c.wide p with
  | none => s
  | some e =>
    if pinned (keyOf c e.payload) then s
    else
      match s.exm.hits.find? fun x => x.1 == t && x.2.1 == p.addr && x.2.2 == keyOf c e.payload with
      | some x =>
        let d := s.draw
        let lands (s : State) : State :=
          let s := s.hitLands x
          { s with exm := { s.exm with hits := s.exm.hits.filter (· != x) } }
        match d.1 % 3 with
        | 0 => let s := lands d.2; (s.emAt c.wide p).elim s fun e => s.visitOne t c p e
        | 1 => lands d.2
        | _ => d.2.visitOne t c p e
      | none =>
        if s.exm.touched.contains p.addr then
          let d := s.draw
          if d.1 % 2 = 0 then d.2 else d.2.visitOne t c p e
        else s.visitOne t c p e

/-- SCARAB_VISIT: the next bucket of the running pass; an uncorrectable row is lost first (R225, R229). -/
def State.scarabVisit (s : State) (t : Nat) (pinned : Nat → Bool) (bad : Bool) : State :=
  match SMap.find s.layers.tables t, (s.exmTable t).next with
  | some c, some v =>
    let b := visitBucket c v
    let s := if bad then s.rowUncorr 0x05 3 b.1 b.2 else s
    let s := (slotsOf c.wide).foldl (fun s k => s.visitEntry t c pinned ⟨b.1, b.2, k⟩) s
    s.withExmTable t fun x => { x with next := if v + 1 < c.buckets then some (v + 1) else none }
  | _, _ => s

/-- The sum of buckets ÷ period over the tables with ageing, as a fraction in buckets per millisecond (R226). -/
def sweepRate (l : List (Nat × Nat)) : Nat × Nat :=
  l.foldl (fun r x => (r.1 * x.2 + x.1 * r.2, r.2 * x.2)) (0, 1)

/-- The sum stays within 400 M buckets/s (R226). -/
def sweepOk (l : List (Nat × Nat)) : Bool := decide ((sweepRate l).1 ≤ 400000 * (sweepRate l).2)

/-- EXM_SWEEP write (R226, R569). -/
def State.exmSweepWrite (s : State) (t value : Nat) : State :=
  let age := bits value 0 1
  let pw := bits value 1 22
  let period := if 1 ≤ pw ∧ pw ≤ 3600000 then pw else s.get F.EXM_SWEEP_PERIOD_MS t
  let rates := s.layers.tables.filterMap fun e =>
    if e.1 = t then (if age = 1 ∨ (s.exmTable t).next.isSome then some (e.2.buckets, period) else none)
    else if s.ageing e.1 then some (e.2.buckets, s.get F.EXM_SWEEP_PERIOD_MS e.1) else none
  if sweepOk rates = false then s.evC F.EXM_EVENT_SWEEP_REFUSED 0
  else
    let was := s.ageing t
    let s := (s.set F.EXM_SWEEP_AGE_EN t age).set F.EXM_SWEEP_PERIOD_MS t period
    if age = 1 ∧ was = false ∧ (SMap.find s.layers.tables t).isSome then s.passStart t else s

/-- The fields of EXM_PORT_TABLES: table, enable, bit offset, kind and width (R211). -/
def portTableFields : List (Field × Field × TableKind × Bool) :=
  [(F.EXM_PORT_TABLES_FDB_T, F.EXM_PORT_TABLES_FDB_EN, .fdb, false),
   (F.EXM_PORT_TABLES_HR4_T, F.EXM_PORT_TABLES_HR4_EN, .hostRoute, false),
   (F.EXM_PORT_TABLES_HR6_T, F.EXM_PORT_TABLES_HR6_EN, .hostRoute, true),
   (F.EXM_PORT_TABLES_SG4_T, F.EXM_PORT_TABLES_SG4_EN, .sg, false),
   (F.EXM_PORT_TABLES_SG6_T, F.EXM_PORT_TABLES_SG6_EN, .sg, true),
   (F.EXM_PORT_TABLES_SID_T, F.EXM_PORT_TABLES_SID_EN, .streamId, false),
   (F.EXM_PORT_TABLES_SIDW_T, F.EXM_PORT_TABLES_SIDW_EN, .streamId, true),
   (F.EXM_PORT_TABLES_MRG_T, F.EXM_PORT_TABLES_MRG_EN, .merge, false),
   (F.EXM_PORT_TABLES_MTR_T, F.EXM_PORT_TABLES_MTR_EN, .meter, false)]

/-- An EXM_PORT_TABLES write names, for a bit it enables, a table that is unused or of another kind or width (R233). -/
def Layers.portTablesBad (l : Layers) (value : Nat) : Bool :=
  portTableFields.any fun f =>
    bits value f.2.1.lsb 1 = 1 &&
      !((SMap.find l.tables (bits value f.1.lsb 4)).any fun c => c.kind = f.2.2.1 && c.wide = f.2.2.2)

/-- EXM_PORT_TABLES write (R233); SID_MODE 0b11 is ignored. -/
def State.portTablesWrite (s : State) (p value : Nat) : State :=
  if s.isAnyPort p = false then s
  else if s.layers.portTablesBad value then s.evC F.EXM_EVENT_PORT_TABLE_REFUSED 0
  else
    let s := portTableFields.foldl (fun s f => (s.set f.1 p (bits value f.1.lsb 4)).set f.2.1 p (bits value f.2.1.lsb 1)) s
    if bits value 45 2 = 3 then s else s.set F.EXM_PORT_TABLES_SID_MODE p (bits value 45 2)

/-- EXM_TABLE_STAT: valid entries, static entries; a wide entry counts once. -/
def State.emEntries (s : State) (t : Nat) : Nat × Nat :=
  let l := s.exm.slots.filter fun e => bitOf e.2 127 && bits e.2 120 4 = t && !bitOf e.2 119
  (l.length, (l.filter fun e => bitOf e.2 126).length)

/-! ## The commands -/

/-- SWEEP_PASS_START (R569). -/
def execSweepPassStart (t : Nat) (s : State) : Host.Outcome State Fault Refusal := .next (s.sweepPassStart t)

/-- SCARAB_VISIT (R225). -/
def execScarabVisit (t : Nat) (bad : Bool) (s : State) : Host.Outcome State Fault Refusal :=
  .next (s.when s.up fun s => s.scarabVisit t (s.pinnedKey t) bad)

/-- LEARN_RECOUNT_DONE (R230). -/
def execLearnRecountDone (s : State) : Host.Outcome State Fault Refusal := .next s.recountDone

/-- EXM_SWEEP_WRITE (R226). -/
def execExmSweepWrite (t v : Nat) (s : State) : Host.Outcome State Fault Refusal :=
  .next (s.when (s.up && decide (t < 16)) fun s => s.exmSweepWrite t v)

/-- EXM_PORT_TABLES_WRITE (R233). -/
def execExmPortTablesWrite (p v : Nat) (s : State) : Host.Outcome State Fault Refusal :=
  .next (s.when (s.up && decide (p < 516)) fun s => s.portTablesWrite p v)

end Sys2Proof.Machine
end

