-- ==== Sys2Proof/Machine/Tcam.lean ====
section
/-! DEFINITION. The quadrant TCAMs (chapter 9): searches with the stored-key check, row writes, sorted insertion, scrub and throttling. -/

namespace Sys2Proof.Machine

/-! ## Rows and regions (R234, R235) -/

/-- Where a row is stored. -/
def rowKey (q n : Nat) : Nat := 131072 * q + n

/-- Replace the rows. -/
def State.withRows (s : State) (m : SMap TcamRow) : State := { s with tcam := { s.tcam with rows := m } }

/-- The entry at a row. -/
def State.row (s : State) (q n : Nat) : Option TcamRow := SMap.find s.tcam.rows (rowKey q n)

/-- The row is the second of a valid wide entry (R238). -/
def State.secondRow (s : State) (q n : Nat) : Bool := n % 2 == 1 && (s.row q (n - 1)).any (·.wide)

/-- The row is masked from searches (R252, R253, R255). -/
def State.masked (s : State) (k : Nat) : Bool := s.tcam.suspect.contains k || s.tcam.fenced.contains k || s.tcam.lost.contains k

/-- An entry at a row takes no part in searches: its row is masked, or the second row of its pair (R238, R252, R253). -/
def State.maskedEntry (s : State) (k : Nat) (wide : Bool) : Bool := s.masked k || (wide && s.masked (k + 1))

/-- First row and row count of a region as a command names it, 0x10 for LPM; none where unused. -/
def State.regionRows (s : State) (q space : Nat) : Option (Nat × Nat) :=
  if space = 16 then (if (s.searchOf q).1 = 0 then none else some (0, (s.searchOf q).1))
  else (SMap.find s.layers.search.regions (16 * q + space)).map fun r => (r.first, r.rows)

/-- The region that owns a row, 16 for LPM (R46). -/
def State.rowOwner (s : State) (q n : Nat) : Option Nat :=
  (List.range 17).find? fun space => (s.regionRows q space).any fun r => decide (r.1 ≤ n ∧ n < r.1 + r.2)

/-- The kind of a region as a command names it. -/
def State.regionKind (s : State) (q space : Nat) : RegionKind :=
  if space = 16 then .lpm else ((SMap.find s.layers.search.regions (16 * q + space)).elim .acl (·.kind))

/-- The quadrants that a command on a region reaches (R248). -/
def State.regionQuads (s : State) (q space : Nat) : List Nat :=
  if space = 16 ∨ ((SMap.find s.layers.search.regions (16 * q + space)).any (·.replicated)) then [0, 1, 2, 3] else [q]

/-! ## Keys (R238, Table 9.1) -/

/-- A row matches a key of its width. -/
def TcamRow.hits (r : TcamRow) (wide : Bool) (key : Nat) : Bool := r.wide == wide && (key ^^^ r.value) &&& r.mask == 0

/-- The lowest-numbered row of a region, with its entry, that satisfies a test. -/
def State.lowestRow (s : State) (q first rows : Nat) (p : Nat → TcamRow → Bool) : Option (Nat × TcamRow) :=
  (s.tcam.rows.find? fun e => decide (rowKey q first ≤ e.1 ∧ e.1 < rowKey q (first + rows)) && p e.1 e.2).map fun e => (e.1 - rowKey q 0, e.2)

/-! ## Searching with the stored-key check (R236, R252, R255) -/

/-- What a search gives. -/
inductive Search where
  | miss
  | hit (row : Nat) (action : Nat)
  /-- The frame is discarded as FENCED_UNIT. -/
  | bad
  deriving DecidableEq, Repr

/-- Rows masked as suspect and fenced, as TCM_STATUS reports them. -/
def State.tcmStatus (s : State) (q : Nat) : State :=
  let n (l : List Nat) : Nat := (l.filter fun k => decide (k / 131072 = q)).length
  (s.set F.TCM_STATUS_SUSPECT q (min 255 (n s.tcam.suspect))).set F.TCM_STATUS_FENCED q (min 65535 (n s.tcam.fenced))

/-- Mask a row that gave a false hit, with its report (R252). -/
def State.suspectRow (s : State) (q tile n : Nat) : State :=
  let s := { s with tcam := { s.tcam with suspect := rowKey q n :: s.tcam.suspect } }
  ((((s.evQ F.TCM_EVENT_FALSE_HIT q).count F.TCM_CNT_COUNT (4 * q + 1) 1).tcmStatus q).report
    (srcQuad q 0) kCheck (0x10 + tile) 4 n).react (srcQuad q 0) n

/-- The row that wins a search: the lowest of the valid entries that match and of the rows that match only through a flipped cell, whatever those hold; none is masked, and a row that misses through a flipped cell is none of them (R252, R254). -/
def State.winner (s : State) (q first rows : Nat) (wide : Bool) (key : Nat) (falseHits : List Nat) : Option (Nat × Option TcamRow) :=
  let real := s.lowestRow q first rows fun k r => !s.maskedEntry k r.wide && !s.tcam.missing.contains k && r.hits wide key
  let ghost := (falseHits.filter fun n =>
    decide (first ≤ n ∧ n < first + rows) && !s.masked (rowKey q n) && !(s.row q n).any fun r => r.hits wide key).min?
  match real, ghost with
  | some (n, r), some g => if g < n then some (g, none) else some (n, some r)
  | some (n, r), none => some (n, some r)
  | none, some g => some (g, none)
  | none, none => none

/-- One search: false hits as given, at most one repeated (R252); an uncorrectable shadow masks its row (R255). -/
def State.search (s : State) (q tile first rows : Nat) (wide : Bool) (key : Nat) (falseHits badShadows : List Nat) : Nat → Search × State
  | 0 => (.bad, s.evQ F.TCM_EVENT_DOUBLE_FALSE_HIT q)
  | fuel + 1 =>
    match s.winner q first rows wide key falseHits with
    | none => (.miss, s)
    | some (n, r) =>
      if badShadows.contains n then
        let s := { s with tcam := { s.tcam with lost := rowKey q n :: s.tcam.lost } }
        (.bad, (s.evQ F.TCM_EVENT_SHADOW_UNCORR q).report (srcQuad q 0) kUncorr (0x10 + tile) 4 n)
      else
        match r with
        | some r => (.hit n r.action, s)
        | none => State.search (s.suspectRow q tile n) q tile first rows wide key falseHits badShadows fuel

/-- Cells of some rows have flipped, so that the rows miss until they are rewritten (R254). -/
def State.cellsFlip (s : State) (q : Nat) (rows : List Nat) : State :=
  { s with tcam := { s.tcam with missing := (rows.map (rowKey q) ++ s.tcam.missing).eraseDups } }

/-- The cells of a row are rewritten (R254). -/
def State.cellsRight (s : State) (k : Nat) : State :=
  { s with tcam := { s.tcam with missing := s.tcam.missing.filter (· ≠ k) } }

/-! ## Writing rows (R246, R247, R251, R570) -/

/-- Write an entry at a row of some quadrants; a rewritten row is served again (R255). -/
def State.putRow (s : State) (quads : List Nat) (n : Nat) (r : TcamRow) : State :=
  s.forAll quads fun s q =>
    let s := s.withRows (SMap.put (if r.wide then SMap.del s.tcam.rows (rowKey q (n + 1)) else s.tcam.rows) (rowKey q n) r)
    s.forAll (if r.wide then [n, n + 1] else [n]) fun s n =>
      { s with tcam := { s.tcam with lost := s.tcam.lost.filter (· ≠ rowKey q n) } }.cellsRight (rowKey q n)

/-- Invalidate the entry at a row. -/
def State.delRow (s : State) (quads : List Nat) (n : Nat) : State :=
  s.forAll quads fun s q => (s.withRows (SMap.del s.tcam.rows (rowKey q n))).cellsRight (rowKey q n)

/-- Free rows of every region, in TCM_REGION.FREE and TCM_STATUS.LPM_FREE. -/
def State.tcmFree (s : State) (q space : Nat) : State :=
  match s.regionRows q space with
  | none => s
  | some (first, rows) =>
    let used := ((s.tcam.rows.filter fun e => decide (rowKey q first ≤ e.1 ∧ e.1 < rowKey q (first + rows))).map fun e => if e.2.wide then 2 else 1).sum
    if space = 16 then s.set F.TCM_STATUS_LPM_FREE q (rows - used) else s.set F.TCM_REGION_FREE (16 * q + space) (rows - used)

/-- The same for each quadrant that a command reaches. -/
def State.tcmFreeAll (s : State) (q space : Nat) : State :=
  s.forAll (s.regionQuads q space) fun s x => s.tcmFree x space

/-- Codes of Table 9.5. -/
inductive TcResult where
  | ok | moved | full | chain | cutArmed | badRow | badEntry | notFound
  deriving DecidableEq, Repr

/-- Codes of Table 9.5. -/
def TcResult.code : TcResult → Nat
  | .ok => 0 | .moved => 1 | .full => 2 | .chain => 3 | .cutArmed => 4 | .badRow => 5 | .badEntry => 6 | .notFound => 7

/-! ## Sorted insertion (R249, R559) -/

/-- Prefix length of an LPM entry: mask bits of its address, which IPv4 keeps in [145:114] (Table 9.1). -/
def lpmLength (r : TcamRow) : Nat :=
  if bitOf r.value 156 then ((List.range 128).filter fun i => bitOf r.mask (18 + i)).length
  else ((List.range 32).filter fun i => bitOf r.mask (114 + i)).length

/-- The group of an entry, lower first: for LPM longest prefix first and IPv6 before IPv4 at a length; else PRIO. -/
def groupOf (kind : RegionKind) (r : TcamRow) : Nat :=
  if kind = .lpm then (128 - lpmLength r) * 2 + (if bitOf r.value 156 then 0 else 1) else r.prio

/-- A row is fenced in some quadrant that a command reaches (R253). -/
def State.rowOut (s : State) (quads : List Nat) (n : Nat) : Bool := quads.any fun q => s.tcam.fenced.contains (rowKey q n)

/-- An entry stands on a fenced row, of a wide one either row: it is not moved (R253). -/
def State.entryOut (s : State) (quads : List Nat) (n : Nat) (wide : Bool) : Bool := s.rowOut quads n || (wide && s.rowOut quads (n + 1))

/-- A row is free (R249): no valid entry, not a second row, not reserved, not fenced in a quadrant that the command reaches. -/
def State.rowFree (s : State) (q : Nat) (quads : List Nat) (pinned : Nat → Bool) (n : Nat) : Bool :=
  (s.row q n).isNone && !s.secondRow q n && !pinned n && !s.rowOut quads n

/-- Entries of a region of a quadrant, in rows, with their groups. -/
def State.groups (s : State) (q first rows : Nat) (kind : RegionKind) : List (Nat × TcamRow × Nat) :=
  (s.tcam.rows.filter fun e => decide (rowKey q first ≤ e.1 ∧ e.1 < rowKey q (first + rows))).map fun e =>
    (e.1 - rowKey q 0, e.2, groupOf kind e.2)

/-- Room at a row for an entry: the row, or a free pair at an even row (R559). -/
def roomFor (free : Nat → Bool) (first rows : Nat) (wide : Bool) (n : Nat) : Option Nat :=
  if wide then
    let e := n / 2 * 2
    if first ≤ e ∧ e + 1 < first + rows ∧ free e ∧ free (e + 1) then some e else none
  else if free n then some n else none

/-- The moves toward a free row: groups between, nearest it first; each places its entry where the move before made room. -/
def State.sortMoves (s : State) (quads : List Nat) (q : Nat) (rowsOf : List (Nat × TcamRow)) (room : Nat × Bool) : Option (State × Nat × Bool) :=
  match rowsOf with
  | [] => some (s, room)
  | (n, r) :: rest =>
    -- a wide entry needs the room of a pair at an even row
    if r.wide && !room.2 then none
    else
      let s := (s.putRow quads room.1 r).delRow quads n
      State.sortMoves s quads q rest (n, r.wide)

/-- A way to make room: the free row, whether it lies above, and of each group between the row to move, nearest the free row first; none for a group all of whose rows between are fenced. -/
structure SortWay where
  free : Nat
  moves : List (Option (Nat × TcamRow))
  deriving DecidableEq, Repr

/-- The way toward a free row f at or above `lo`, the first row of the new entry's group or its boundary: of each other group with a row between, its first row goes (R249, R570; which rows of a broken order count as a group's is DESIGN CHOICE, log 118). -/
def sortUp (all : List (Nat × TcamRow × Nat)) (g lo f : Nat) (out : Nat → Bool → Bool) : SortWay :=
  let l := all.filter fun x => x.2.2 != g && decide (lo ≤ x.1 ∧ x.1 < f)
  { free := f
    moves := ((l.reverse.map (·.2.2)).eraseDups).map fun h => (l.find? fun x => x.2.2 == h && !out x.1 x.2.1.wide).map fun x => (x.1, x.2.1) }

/-- The way toward a free row f below `hi`: of each other group with a row between, its last row goes. -/
def sortDown (all : List (Nat × TcamRow × Nat)) (g hi f : Nat) (out : Nat → Bool → Bool) : SortWay :=
  let l := all.filter fun x => x.2.2 != g && decide (f < x.1 ∧ x.1 < hi)
  { free := f
    moves := ((l.map (·.2.2)).eraseDups).map fun h => (l.reverse.find? fun x => x.2.2 == h && !out x.1 x.2.1.wide).map fun x => (x.1, x.2.1) }

/-- The two ways for an entry of group g among the entries of a region: up, down (R249). -/
def sortWays (all : List (Nat × TcamRow × Nat)) (g first rows : Nat) (free : Nat → Bool) (out : Nat → Bool → Bool) : Option SortWay × Option SortWay :=
  let mine := all.filter fun x => x.2.2 == g
  let before := all.filter fun x => decide (x.2.2 < g)
  let after := all.filter fun x => decide (g < x.2.2)
  let last (l : List (Nat × TcamRow × Nat)) : Nat := l.foldl (fun m x => max m (x.1 + if x.2.1.wide then 2 else 1)) first
  let low (l : List (Nat × TcamRow × Nat)) : Nat := l.foldl (fun m x => min m x.1) (first + rows)
  let lo := if mine.isEmpty then last before else low mine
  let hi := if mine.isEmpty then (if before.isEmpty then low after else last before) else last mine
  (((List.range (first + rows - lo)).map (lo + ·)).find? free |>.map fun f => sortUp all g lo f out,
    ((List.range (hi - first)).map fun k => hi - 1 - k).find? free |>.map fun f => sortDown all g hi f out)

/-- The way with fewer groups between, up on a tie (R249). -/
def pickWay : Option SortWay × Option SortWay → Option SortWay
  | (some a, some b) => if b.moves.length < a.moves.length then some b else some a
  | (some a, none) => some a
  | (none, b) => b

/-- Sorted insertion into a region (R249); pinned says which rows a cut reserves. -/
def State.sortedInsert (s : State) (q space : Nat) (pinned : Nat → Bool) (r : TcamRow) : State × TcResult :=
  match s.regionRows q space with
  | none => (s, .badEntry)
  | some (first, rows) =>
    let kind := s.regionKind q space
    let quads := s.regionQuads q space
    let free := s.rowFree q quads pinned
    match pickWay (sortWays (s.groups q first rows kind) (groupOf kind r) first rows free (s.entryOut quads)) with
    | none => (s, .full)
    | some w =>
      if (if kind = .lpm then 162 else 1024) < w.moves.length then (s, .chain)
      else
        let moved := w.moves.filterMap id
        if moved.any fun x => pinned x.1 then (s, .cutArmed)
        else if moved.length < w.moves.length then (s, .full)
        else
          let wideFirst := (moved.head?.map (·.2.wide)).getD r.wide
          match roomFor free first rows wideFirst w.free with
          | none => (s, .full)
          | some f0 =>
            match s.sortMoves quads q moved (f0, wideFirst) with
            | none => (s, .full)
            | some (t, n, w') =>
              if r.wide && !w' then (s, .full)
              else
                let t := (t.putRow quads n r).tcmFreeAll q space
                (t, if moved.isEmpty then .ok else .moved)

/-- The row whose valid entry has a value and mask. -/
def State.findRow (s : State) (q space : Nat) (value mask : Nat) : Option (Nat × TcamRow) :=
  (s.regionRows q space).bind fun r =>
    s.lowestRow q r.1 r.2 fun _ e => e.value == value && e.mask == mask

/-- TC_WRITE_ROW (R570). -/
def State.writeRow (s : State) (q space n : Nat) (r : TcamRow) : State × TcResult :=
  match s.regionRows q space with
  | none => (s, .badRow)
  | some (first, rows) =>
    let part (k : Nat) : Bool := (s.row q k).any (·.wide) || s.secondRow q k
    if n < first ∨ first + rows ≤ n + (if r.wide then 1 else 0) ∨ (r.wide = true ∧ n % 2 = 1) then (s, .badRow)
    else if part n || (r.wide && part (n + 1)) then (s, .badRow)
    else ((s.putRow (s.regionQuads q space) n r).tcmFreeAll q space, .ok)

/-- TC_UPDATE_ACTION: action word and PRIO in one write (R247). -/
def State.updateAction (s : State) (q space : Nat) (value mask action prio : Nat) : State × TcResult :=
  match s.findRow q space value mask with
  | none => (s, .notFound)
  | some (n, r) => (s.putRow (s.regionQuads q space) n { r with action := action, prio := prio }, .ok)

/-- TC_DELETE: invalidate without moves (R251). -/
def State.deleteRow (s : State) (q space : Nat) (value mask : Nat) : State × TcResult :=
  match s.findRow q space value mask with
  | none => (s, .notFound)
  | some (n, _) => ((s.delRow (s.regionQuads q space) n).tcmFreeAll q space, .ok)

/-! ## Scrub (R253, R254) and throttling (R256) -/

/-- A row is fenced: masked until a reset of its quadrant (R253). -/
def State.rowFence (s : State) (q n : Nat) : State :=
  if s.tcam.fenced.contains (rowKey q n) then s
  else ({ s with tcam := { s.tcam with fenced := rowKey q n :: s.tcam.fenced } }.evQ F.TCM_EVENT_ROW_FENCED q).tcmStatus q

/-- A suspect row is rewritten from the shadow copy and read back (R253). -/
def State.scrubRow (s : State) (q n : Nat) (readBackOk : Bool) : State :=
  let s := { s with tcam := { s.tcam with suspect := s.tcam.suspect.filter (· ≠ rowKey q n) } }
  if readBackOk then ((s.cellsRight (rowKey q n)).reacted (srcQuad q 0) n).tcmStatus q
  else
    let s := s.unitFault (srcQuad q 0) n kCheck 0x01 1 n
    if s.fencePolicy (srcQuad q 0) n then s.rowFence q n else (s.reacted (srcQuad q 0) n).tcmStatus q

/-- SUSPECT_ROW_SCRUB (R253). -/
def execSuspectRowScrub (q n : Nat) (readBackOk : Bool) (s : State) : Host.Outcome State Fault Refusal :=
  .next <| s.when (s.quadUp q && s.tcam.suspect.contains (rowKey q n)) fun s => s.scrubRow q n readBackOk

/-- BACKGROUND_SCRUB: every row whose cells differ from its shadow copy is rewritten, so no row of the quadrant misses through a flipped cell (R254); a suspect row is scrubbed at the latest now (R253). -/
def execBackgroundScrub (q : Nat) (badRows : List Nat) (s : State) : Host.Outcome State Fault Refusal :=
  .next <| s.when (s.quadUp q) fun s =>
    let s := s.forAll (s.tcam.suspect.filter fun k => decide (k / 131072 = q)) fun s k =>
      s.scrubRow q (k - rowKey q 0) (!badRows.contains (k - rowKey q 0))
    { s with tcam := { s.tcam with missing := s.tcam.missing.filter fun k => decide (k / 131072 ≠ q) } }

/-- The first region that a TCM_PORT_L3 value enables and that is unused or of the wrong kind (R259): ACL, then stream filter. -/
def State.l3BadRegion (s : State) (q value : Nat) : Option Nat :=
  let bad (en lsb : Nat) (kind : RegionKind) : Option Nat :=
    if bitOf value en && !((SMap.find s.layers.search.regions (16 * q + bits value lsb 4)).any fun r => r.kind == kind) then
      some (bits value lsb 4) else none
  (bad 21 22 .acl).orElse fun _ => bad 26 27 .stream

/-- A TCM_PORT_L3 write by a master (R259, R563, Table 2.10). -/
def State.portL3Write (s : State) (p value master : Nat) : State :=
  let q := quadOf p
  let i := if p < 512 then 129 * q + p % 128 else 129 * q + 128
  if s.isAnyPort p = false then s
  else if (s.l3BadRegion q value).isSome then
    s.claimErr 8 (0x800000 + 16 * q + (s.l3BadRegion q value).getD 0) master
  else
    s.forAll R.TCM_PORT_L3.fields fun s f => s.set f i (bits value f.lsb f.width)

/-- TCM_PORT_L3_WRITE (R259). -/
def execTcmPortL3Write (p value : Nat) (s : State) : Host.Outcome State Fault Refusal :=
  .next (s.when (s.quadUp (quadOf p) && decide (p < 516)) fun s => s.portL3Write p value 0)

/-- The throttle level follows a quadrant's temperature at a sample, in 0.125 °C (R256). -/
def State.throttle (s : State) (q : Nat) (t : Int) : State :=
  let cur := s.get F.HUM_TEMP_THETA q
  let up := if 824 ≤ t then 3 else if 784 ≤ t then 2 else if 736 ≤ t then 1 else 0
  let own : Int := if cur = 3 then 824 else if cur = 2 then 784 else 736
  if cur < up then (s.set F.HUM_TEMP_THETA q up).evQ F.TCM_EVENT_THROTTLE q
  else if 0 < cur ∧ t ≤ own - 24 then s.set F.HUM_TEMP_THETA q (cur - 1)
  else s

end Sys2Proof.Machine
end

