-- ==== Sys2Proof/Machine/Lookup.lean ====
section
/-! DEFINITION. The lookup pipeline: trap, ring acceptance, exact-match and TCAM searches, the forwarding decision, learning, class, policing (R188, R211 to R224, R236 to R244, R344, R359, R378 to R383, R389, R395 to R400). -/

namespace Sys2Proof.Machine

/-! ## Objects (Table 10.4) -/

/-- Where an object is stored. -/
def objKey (kind i : Nat) : Nat := kind * 2 ^ 22 + i

/-- An object; a next hop never written discards (R243), another object reads zero. -/
def State.obj (s : State) (kind i : Nat) : Nat := SMap.findD s.tables.objs (objKey kind i) (if kind = 0 then 3 * 2 ^ 62 else 0)

/-- The object has been written since the last reset that clears it. -/
def State.objWritten (s : State) (kind i : Nat) : Bool := (SMap.find s.tables.objs (objKey kind i)).isSome

/-- Write an object whole. -/
def State.putObj (s : State) (kind i v : Nat) : State :=
  { s with tables := { s.tables with objs := SMap.put s.tables.objs (objKey kind i) v } }

/-- Add one to a counter field of an object, which wraps. -/
def State.objCount (s : State) (kind i lsb w : Nat) : State :=
  let v := s.obj kind i
  s.putObj kind i (putBits v lsb w (bits v lsb w + 1))

/-! ## What a lookup reads from the frame -/

/-- Destination and source address. -/
def Frame.da (f : Frame) : Nat := be f.bytes 0 6
def Frame.sa (f : Frame) : Nat := be f.bytes 6 6

/-- IPv6, and IP not malformed. -/
def Frame.v6 (f : Frame) : Bool := f.vec.outer.l3 == 2
def Frame.isIp (f : Frame) : Bool := (f.vec.outer.l3 == 1 || f.vec.outer.l3 == 2) && !f.vec.l3Malformed

/-- Outer source and destination IP address. -/
def Frame.sip (f : Frame) : Nat := if f.v6 then be f.bytes (f.vec.outer.offL3 + 8) 16 else be f.bytes (f.vec.outer.offL3 + 12) 4
def Frame.dip (f : Frame) : Nat := if f.v6 then be f.bytes (f.vec.outer.offL3 + 24) 16 else be f.bytes (f.vec.outer.offL3 + 16) 4

/-- VID of the outermost tag, or DEFAULT_FID (R212, R221, R238). -/
def State.fid (s : State) (f : Frame) : Nat :=
  if f.vec.vlanCount = 0 then s.get F.EXM_PORT_LEARN_DEFAULT_FID f.port else f.vec.vlan0 % 4096

/-- PCP of the outermost tag, 0 for an untagged frame. -/
def Frame.pcp (f : Frame) : Nat := if f.vec.vlanCount = 0 then 0 else f.vec.vlan0 / 8192 % 8

/-- Index of a port among the TCM_PORT_L3 registers. -/
def l3Index (p : Nat) : Nat := if p < 512 then 129 * (p / 128) + p % 128 else 129 * (p - 512) + 128

/-- Index of a port among the classification registers (R567). -/
def schIndex (p : Nat) : Nat := if p < 512 then 17 * (p / 16) + p % 16 else 17 * (8 * (p - 512)) + 16

/-- VRF of a frame: that of its port. -/
def State.vrf (s : State) (f : Frame) : Nat := s.get F.TCM_PORT_L3_VRF (l3Index f.port)

/-- The flow hash (R244). -/
def State.flowHash (s : State) (f : Frame) : Nat :=
  let seed := s.get F.TCM_CTRL_HASH_SEED (quadOf f.port)
  let o := f.vec.outer
  if f.isIp then
    let w := if f.v6 then 128 else 32
    let src := if f.vec.fragLater then 0 else o.src
    let dst := if f.vec.fragLater then 0 else o.dst
    let key := ((((s.vrf f * 2 ^ w + f.sip) * 2 ^ w + f.dip) * 2 ^ 8 + o.proto) * 2 ^ 16 + src) * 2 ^ 16 + dst
    hashCrc 0x1EDC6F41 seed key (10 + 2 * w + 40)
  else
    hashCrc 0x1EDC6F41 seed (((s.fid f * 2 ^ 48 + f.da) * 2 ^ 48 + f.sa) * 2 ^ 16 + f.vec.ethertype) 124

/-! ## Decisions -/

/-- What the lookup decides. -/
inductive Decision where
  | none
  | discard (code : Nat)
  | host (reason : Nat)
  | port (p : Nat) (recipe : Option (Nat × Nat))
  | group (g : Nat)
  deriving DecidableEq, Repr

/-- The decision forwards the frame to a next hop, group, port, LAG or multicast group (R242). -/
def Decision.forwards : Decision → Bool
  | .port _ _ => true
  | .group _ => true
  | _ => false

/-- A port as a decision, discarded where it is not configured (R564). -/
def State.toPort (s : State) (p : Nat) (recipe : Option (Nat × Nat)) : Decision :=
  if s.isPort p then .port p recipe else .discard cNoRoute

/-- A LAG member: among those whose link is up, else among all (R244). -/
def State.toLag (s : State) (g hash : Nat) (recipe : Option (Nat × Nat)) : Decision :=
  let o := Config.lagObject (s.obj 2 g)
  let members := o.2.take o.1
  if s.objWritten 2 g = false ∨ members.isEmpty then .discard cNoRoute
  else
    let up := members.filter fun p => s.on F.PRT_STATUS_LINK_UP p
    let l := if up.isEmpty then members else up
    s.toPort (l.getD (bits hash 16 16 * l.length / 65536) 0) recipe

/-- A next hop (Table 9.4). -/
def State.toNextHop (s : State) (i hash : Nat) : Decision :=
  let v := s.obj 0 i
  let r := some (bits v 26 8, bits v 34 18)
  match bits v 62 2 with
  | 0 => s.toPort (bits v 52 10) r
  | 1 => s.toLag (bits v 52 10) hash r
  | 2 => .host 6
  | _ => .discard cNoRoute

/-- An ECMP group (R243, R244). -/
def State.toEcmp (s : State) (g hash : Nat) : Decision :=
  let o := Config.ecmpObject (s.obj 1 g)
  if s.objWritten 1 g = false ∨ o.1 = 0 then .discard cNoRoute
  else s.toNextHop (o.2.getD (bits hash 0 16 * o.1 / 65536) 0) hash

/-- NH_KIND and NH_INDEX (Tables 8.2 and 9.2). -/
def State.toNh (s : State) (kind i hash : Nat) : Decision :=
  match kind with
  | 0 => s.toNextHop i hash
  | 1 => s.toEcmp i hash
  | 2 => .host 4
  | _ => .discard cNoRoute

/-- An ACL decision (Table 9.2). -/
def State.toAcl (s : State) (action hash : Nat) : Decision :=
  let t := bits action 41 20
  match bits action 61 3 with
  | 0 => .none
  | 1 => .discard cAclDeny
  | 2 => .host 5
  | 3 => s.toNextHop t hash
  | 4 => s.toEcmp t hash
  | 5 => s.toPort t none
  | 6 => s.toLag t hash none
  | _ => .group t

/-- DEST_KIND and DEST of an FDB entry (Table 8.2). -/
def State.toFdb (s : State) (payload hash : Nat) : Decision :=
  let d := bits payload 34 16
  match bits payload 50 2 with
  | 0 => s.toPort d none
  | 1 => s.toLag d hash none
  | 2 => .group d
  | _ => .host 6

/-! ## TCAM keys (Table 9.1) -/

/-- FRAG field of an IPv4 ACL key. -/
def Frame.frag (f : Frame) : Nat := if f.vec.fragLater then 2 else if f.vec.fragFirst then 1 else 0

/-- The LPM key. -/
def State.lpmKey (s : State) (f : Frame) : Nat :=
  b2n f.v6 * 2 ^ 156 + s.vrf f * 2 ^ 146 + (if f.v6 then f.dip * 2 ^ 18 else f.dip * 2 ^ 114)

/-- The ACL key and whether it is wide. -/
def State.aclKey (s : State) (f : Frame) : Nat × Bool :=
  let o := f.vec.outer
  if f.isIp = false then
    (2 ^ 157 + f.port * 2 ^ 147 + s.fid f * 2 ^ 135 + f.pcp * 2 ^ 132 + f.vec.ethertype * 2 ^ 116 + f.da * 2 ^ 68 + f.sa * 2 ^ 20, false)
  else if f.v6 then
    let hi := 3 * 2 ^ 157 + f.port * 2 ^ 147 + s.vrf f * 2 ^ 137 + f.sip * 2 ^ 9 + o.proto * 2
    (hi * 2 ^ 160 + f.dip * 2 ^ 32 + o.src * 2 ^ 16 + o.dst, true)
  else
    (2 * 2 ^ 157 + f.port * 2 ^ 147 + s.vrf f * 2 ^ 137 + f.sip * 2 ^ 105 + f.dip * 2 ^ 73 + o.proto * 2 ^ 65 + o.tos * 2 ^ 57 +
      o.src * 2 ^ 41 + o.dst * 2 ^ 25 + o.tcpFlags * 2 ^ 17 + f.frag * 2 ^ 15 + s.fid f * 2 ^ 3, false)

/-- The stream-filter key. -/
def State.sfKey (s : State) (f : Frame) : Nat :=
  let o := f.vec.outer
  let ip := f.isIp
  4 * 2 ^ 157 + f.port * 2 ^ 147 + s.fid f * 2 ^ 135 + f.pcp * 2 ^ 132 + (if ip then f.sip % 2 ^ 32 * 2 ^ 100 + f.dip % 2 ^ 32 * 2 ^ 68 +
    o.proto * 2 ^ 60 + o.tos / 4 * 2 ^ 54 + o.src * 2 ^ 38 + o.dst * 2 ^ 22 + b2n f.v6 * 2 ^ 21 else 0)

/-! ## Class (R359) -/

/-- The mapped class. -/
def State.mappedClass (s : State) (f : Frame) : Nat :=
  let i := schIndex f.port
  let trust := s.get F.SCH_PORT_CFG_TRUST i
  if f.vec.app = 1 ∧ s.on F.SCH_PORT_CFG_PTP_CLASS7 i then 7
  else if f.vec.ringTag then f.vec.ringClass % 8
  else if trust = 1 ∧ f.vec.vlanCount ≠ 0 then bits (s.get F.SCH_PCP_MAP_PCP i) (3 * f.pcp) 3
  else if trust = 2 ∧ f.isIp then
    let d := f.vec.outer.tos / 4
    bits (s.get F.SCH_DSCP_MAP_DSCP (4 * i + d / 16)) (3 * (d % 16)) 3
  else s.get F.SCH_PORT_CFG_DEFAULT_CLASS i

/-! ## Stream identity (R210, R212) -/

/-- The stream ID key, and whether it is wide. -/
def State.streamKey (s : State) (f : Frame) : Nat × Bool :=
  let mode := s.get F.EXM_PORT_TABLES_SID_MODE f.port
  let udp := f.isIp && f.vec.outer.l4 == 1 && !f.vec.fragLater
  let dp := f.vec.outer.dst
  if udp && mode == 2 && !f.v6 then (2 * 2 ^ 94 + (((s.vrf f * 2 ^ 32 + f.sip) * 2 ^ 32 + f.dip) * 2 ^ 16 + dp) * 2 ^ 4, false)
  else if udp && (mode == 1 || mode == 2) then
    if f.v6 then (2 ^ 206 + ((s.vrf f * 2 ^ 128 + f.dip) * 2 ^ 16 + dp) * 2 ^ 52, true)
    else (2 ^ 94 + ((s.vrf f * 2 ^ 32 + f.dip) * 2 ^ 16 + dp) * 2 ^ 36, false)
  else (((f.port * 2 ^ 12 + s.fid f) * 2 ^ 48 + f.da) * 2 ^ 24, false)

/-- A lookup in the table a port selects; a clear enable is a miss (R211). -/
def State.portLookup (s : State) (p : Nat) (t en : Field) (key : Nat) : Option Entry × State :=
  if s.on en p then s.emLookup (s.get t p) key else (none, s)

/-! ## Stream gates, filters and meters (R371, R379 to R383) -/

/-- The entry in force at a position of a cycle: its index and word; the last holds to the end (R371). -/
def entryAt (pos : Nat) : List Nat → Nat → Nat × Nat
  | [], i => (i, 0)
  | [w], i => (i, w)
  | w :: ws, i => if pos < bits w 8 30 then (i, w) else entryAt (pos - bits w 8 30) ws (i + 1)

/-- The entry of a list at a PTP time in ns. -/
def GateList.at (l : GateList) (t : Nat) : Nat × Nat :=
  entryAt ((((t : Int) - l.start) % (max 1 l.cycle : Nat)).toNat) l.entries 0

/-- Gate control by its key: ports, then stream gates from 512. -/
def State.gate (s : State) (k : Nat) : Gate := SMap.findD s.gates k default

/-- The list in force at a time: a pending list from its start on, else the oper list; a cleared one leaves none (R371, R374). -/
def Gate.inForce (g : Gate) (t : Nat) : Option GateList :=
  match g.pending with
  | some l => if l.start ≤ t then (if l.clear then none else some l) else g.oper
  | none => g.oper

/-- The stream gate at a time: open, and its IPV (R380). -/
def State.streamGate (s : State) (g t : Nat) : Bool × Option Nat :=
  match (s.gate (512 + g)).inForce t with
  | none => (true, none)
  | some l => let w := (l.at t).2; (bitOf w 0, if bitOf w 1 then some (bits w 2 3) else none)

/-- What policing leaves of a frame. -/
inductive Policed where
  | pass (cls : Nat) (colour : Option Nat)
  | drop (code : Nat)
  deriving DecidableEq, Repr

/-- A stream filter on a frame of LEN n (R379). -/
def State.filter (s : State) (i n : Nat) (cls : Nat) : Policed × State :=
  let v := s.obj 8 i
  let max := bits v 0 14
  let gate := s.streamGate (bits v 15 9) s.nowNs
  if bitOf v 42 then (.drop cStreamGate, ((s.objCount 8 i 112 48).count F.POL_CNT_COUNT 3 1).count F.POL_CNT_COUNT 5 1)
  else if max ≠ 0 ∧ max < n then
    let s := (s.objCount 8 i 112 48).count F.POL_CNT_COUNT 3 1
    (.drop cStreamGate, if bitOf v 41 then (s.putObj 8 i (putBits (s.obj 8 i) 42 1 1)).evC F.POL_EVENT_FILTER_BLOCKED 0 else s)
  else if bitOf v 14 ∧ gate.1 = false then (.drop cStreamGate, (s.objCount 8 i 160 48).count F.POL_CNT_COUNT 4 1)
  else (.pass (if bitOf v 14 then gate.2.getD cls else cls) none, s.objCount 8 i 64 48)

/-- Fill a bucket in 2^-16 bytes at a rate of 64 kbit/s units for a time in 0.2 ns: the bucket and what overflows it. -/
def fillBucket (tokens rate dt cap : Nat) : Nat × Nat :=
  let t := tokens + rate * 8000 * dt * 65536 / (5 * 10 ^ 9)
  (min t (cap * 65536), t - cap * 65536)

/-- A meter on LEN n: colour 0 green, 1 yellow, 2 red (R383). -/
def State.meter (s : State) (i n : Nat) (pre : Nat) : Nat × State :=
  let v := s.obj 7 i
  let at_ := SMap.findD s.tables.meterAt i (s.elapsed, 0, 0)
  let dt := s.elapsed - at_.1
  let c := fillBucket (bits v 128 24 * 65536 + at_.2.1) (bits v 0 24) dt (bits v 48 24)
  let p := fillBucket (bits v 152 24 * 65536 + at_.2.2) (bits v 24 24) dt (bits v 72 24)
  let tp := if bitOf v 97 then min (p.1 + c.2) (bits v 72 24 * 65536) else p.1
  let tc := c.1
  let b := n * 65536
  let pre := if bitOf v 96 then pre else 0
  let colour := if pre = 2 ∨ tp < b then 2 else if pre = 1 ∨ tc < b then 1 else 0
  let tp := if colour = 2 then tp else tp - b
  let tc := if colour = 0 then tc - b else tc
  let v := putBits (putBits v 128 24 (tc / 65536)) 152 24 (tp / 65536)
  let lsb := 192 + 48 * colour
  let v := putBits v lsb 48 (bits v lsb 48 + 1)
  let s := { s with tables := { s.tables with meterAt := SMap.put s.tables.meterAt i (s.elapsed, tc % 65536, tp % 65536) } }
  (colour, (s.putObj 7 i v).count F.POL_CNT_COUNT colour 1)

/-- A meter discards a colour (R383). -/
def State.meterDrops (s : State) (i colour : Nat) : Bool :=
  let v := s.obj 7 i
  (colour == 2 && bitOf v 98) || (colour == 1 && bitOf v 99)

/-! ## Learning (R221, R222, Table 8.4) -/

/-- The LAG that a port belongs to, where some LAG names it. -/
def State.lagOf (s : State) (p : Nat) : Option Nat :=
  (List.range 256).find? fun g => s.objWritten 2 g && ((Config.lagObject (s.obj 2 g)).2.take (Config.lagObject (s.obj 2 g)).1).contains p

/-- The DEST_KIND and DEST that learning gives a port: its LAG, or the port (R222). Of a host port DEST_KIND is host, which R222 does not say, for R564 admits front ports alone under DEST_KIND 0 (DEDUCED, log 119). -/
def State.learnDest (s : State) (p : Nat) : Nat × Nat :=
  if 512 ≤ p then (3, p) else match s.lagOf p with
    | some g => (1, g)
    | none => (0, p)

/-- The source lookup: the state, and whether the frame meets its port's limit with LIMIT_DROP (Table 8.4). A group address is looked up and never learned (R211, R221). -/
def State.learn (s : State) (pinned : Nat → Nat → Bool) (f : Frame) : Bool × State :=
  if s.on F.EXM_PORT_LEARN_LEARN_EN f.port = false ∨ s.on F.EXM_PORT_TABLES_FDB_EN f.port = false then (false, s)
  else
    let group := bitOf (f.sa / 2 ^ 40) 0
    let t := s.get F.EXM_PORT_TABLES_FDB_T f.port
    let fid := s.fid f
    let key := fid * 2 ^ 48 + f.sa
    let d := s.learnDest f.port
    let limit (s : State) : Bool × State := (s.on F.EXM_PORT_LEARN_LIMIT_DROP f.port, s.limitRecord t f.port fid f.sa)
    match SMap.find s.layers.tables t with
    | none => (false, s)
    | some c =>
      match s.emLookup t key with
      | (some e, s) =>
        if bitOf e.payload 33 = false then
          (false, if bits e.payload 50 2 = d.1 ∧ bits e.payload 34 16 = d.2 then s else s.count F.EXM_CNT_COUNT 7 1)
        else if group ∨ bits e.payload 23 10 = f.port then (false, s)
        else if s.on F.EXM_PORT_LEARN_MOVE_EN f.port = false ∨ pinned t key then (false, s)
        else if s.atLimit f.port then limit s
        else
          let old := bits e.payload 23 10
          let new := putBits (putBits (putBits e.payload 50 2 d.1) 34 16 d.2) 23 10 f.port
          let s := ((s.emUpdate t c new false).1).count F.EXM_CNT_COUNT 1 1
          (false, s.exmRecord 2 t f.port old new)
      | (none, s) =>
        if group ∨ pinned t key then (false, s)
        else if s.atLimit f.port then limit s
        else (false, s.learnRequest { table := t, port := f.port, fid := fid, mac := f.sa, destKind := d.1, dest := d.2, seq := 0 })

/-! ## The lookup of one frame -/

/-- Send copies over the crossbar. -/
def State.cross (s : State) (l : List Copy) : State :=
  { s with path := { s.path with crossing := s.path.crossing ++ l.map fun c => { c with since := s.elapsed } } }

/-- A copy to the host port of a quadrant for a reason (R517). -/
def State.hostCopy (s : State) (f : Frame) (reason : Nat) : Copy :=
  let q := quadOf f.port
  let field := if reason = 1 then F.HST_TRAP_QUEUE_MCAST_CTRL else if reason = 2 then F.HST_TRAP_QUEUE_PTP
    else if reason = 3 then F.HST_TRAP_QUEUE_TTL else if reason = 4 then F.HST_TRAP_QUEUE_ROUTE
    else if reason = 5 then F.HST_TRAP_QUEUE_ACL else F.HST_TRAP_QUEUE_HOST_DEST
  { frame := f, quadrant := q, target := .host q (s.get field q) reason, merge := none, transit := none, localOf := none }

/-- Entry n of a multicast list names a ring port of a group (R23, R396). -/
def State.namesRing (s : State) (n g : Nat) : Bool :=
  let p := bits (s.obj 4 n) 54 10
  p == 128 * g || p == 128 * g + 4

/-- The copies of a multicast group, one for each quadrant with members; none where VALID is 0 (R314). A list that names ring ports of the frame's group alone gives no local copy (R396). -/
def State.groupCopies (s : State) (f : Frame) (g : Nat) (merge : Option (Nat × Nat)) (localOf : Option Nat) : Option (List Copy) :=
  let v := s.obj 3 g
  if bitOf v 192 = false then none
  else some <| (List.range 4).filterMap fun q =>
    let n := bits v (48 * q + 21) 12
    let first := bits v (48 * q) 21
    if n = 0 ∨ (localOf.any fun g => (List.range n).all fun k => s.namesRing (first + k) g) then none
    else some { frame := f, quadrant := q, target := .group first n (bitOf v 193), merge := merge, transit := none, localOf := localOf }

/-- A frame traps to the host ahead of every table (R188, R344). -/
def State.trapReason (s : State) (f : Frame) : Option Nat :=
  if f.vec.mcastCtrl then some 1
  else if f.vec.app = 1 ∧
      (f.da = 0x0180C200000E ∨
        (f.port < 512 ∧ s.on F.TIM_PORT_PTP_BC_TRAP f.port ∧
          (let d := f.vec.appWord / 256 % 256; bitOf (s.get F.TIM_BC_DOMAIN_DOMAIN (d / 64)) (d % 64) = true))) then some 2
  else none

/-- Routed unicast, routed multicast or bridged (R240). -/
def State.routing (s : State) (f : Frame) : Bool × Bool :=
  let i := l3Index f.port
  let mine := (List.range 8).any fun k =>
    bitOf (s.get F.TCM_PORT_L3_RMAC_MASK i) k && s.on F.TCM_ROUTER_MAC_VALID (8 * quadOf f.port + k) &&
      s.get F.TCM_ROUTER_MAC_ADDR (8 * quadOf f.port + k) == f.da
  let ucast := mine && s.on F.TCM_PORT_L3_ROUTE_EN i && f.isIp
  let groupMac := f.da / 2 ^ 23 == 0x01005E * 2 || f.da / 2 ^ 32 == 0x3333
  let groupIp := f.isIp && (if f.v6 then f.dip / 2 ^ 120 == 0xFF else f.dip / 2 ^ 28 == 0xE)
  (ucast, !ucast && groupMac && groupIp && s.on F.TCM_PORT_L3_MCAST_ROUTE_EN i)

/-- What one lookup yields: the decision, whether it came from the SG stage with an RPF port, stream handle, and the meter and merge bindings of that handle (R211). -/
structure Looked where
  decision : Decision
  /-- RPF_PORT to check when the SG stage decided with RPF_CHECK. -/
  rpf : Option Nat
  aclAction : Option Nat
  stream : Option Nat
  /-- The exact-match stream ID lookup hit. -/
  sidHit : Bool
  sfFilter : Option Nat
  meter : Option Entry
  /-- Merge context and member, of a frame without a ring tag (R389). -/
  merge : Option (Nat × Nat)
  deriving DecidableEq, Repr

/-- The meter and merge bindings of a stream handle, looked up for every frame that has one, whatever becomes of it; the merge binding for one without a ring tag (R211, R378, R389). -/
def State.bindings (s : State) (f : Frame) (handle : Option Nat) : (Option Entry × Option (Nat × Nat)) × State :=
  match handle with
  | none => ((none, none), s)
  | some h =>
    let m := s.portLookup f.port F.EXM_PORT_TABLES_MTR_T F.EXM_PORT_TABLES_MTR_EN (h * 8 + f.mapped)
    if f.vec.ringTag then ((m.1, none), m.2)
    else
      let g := m.2.portLookup f.port F.EXM_PORT_TABLES_MRG_T F.EXM_PORT_TABLES_MRG_EN (h * 2 ^ 10 + f.port)
      ((m.1, g.1.map fun e => (bits e.payload 70 16, bits e.payload 68 2)), g.2)

/-- A region that a search may run in: used, and of the search's kind (R236). -/
def State.searchRegion (s : State) (q space : Nat) (kind : RegionKind) : Option (Nat × Nat) :=
  (s.regionRows q space).filter fun _ => s.regionKind q space == kind

/-- NH_KIND names a next hop or an ECMP group (Tables 8.2 and 9.2). -/
def nhAims (kind : Nat) : Bool := decide (kind < 2)

/-- An ACL action names a next hop, ECMP group, port, LAG or multicast group (Table 9.2). -/
def aclAims (action : Nat) : Bool := decide (3 ≤ bits action 61 3)

/-- The tables that a frame's own headers reach: exact match, TCAM and the stages in order (R211, R236, R241). A frame with a failed search is discarded as FENCED_UNIT, and is a lookup of its stream all the same (R252, R255, R293). -/
def State.stages (s : State) (f : Frame) (hash : Nat) (err : LookupErrors) : Looked × State :=
  let p := f.port
  let q := quadOf p
  let i := l3Index p
  let r := s.routing f
  let ucast := r.1
  let mcast := r.2
  -- exact match
  let fdb := if !ucast && !mcast then s.portLookup p F.EXM_PORT_TABLES_FDB_T F.EXM_PORT_TABLES_FDB_EN (s.fid f * 2 ^ 48 + f.da) else (none, s)
  let s := fdb.2
  let hr := if ucast then
      (if f.v6 then s.portLookup p F.EXM_PORT_TABLES_HR6_T F.EXM_PORT_TABLES_HR6_EN (s.vrf f * 2 ^ 128 + f.dip)
       else s.portLookup p F.EXM_PORT_TABLES_HR4_T F.EXM_PORT_TABLES_HR4_EN (s.vrf f * 2 ^ 32 + f.dip))
    else (none, s)
  let s := hr.2
  let sgv := if mcast then
      (if f.v6 then s.portLookup p F.EXM_PORT_TABLES_SG6_T F.EXM_PORT_TABLES_SG6_EN (s.vrf f * 2 ^ 128 + f.dip)
       else
         let sg := s.portLookup p F.EXM_PORT_TABLES_SG4_T F.EXM_PORT_TABLES_SG4_EN ((s.vrf f * 2 ^ 32 + f.sip) * 2 ^ 32 + f.dip)
         let any := sg.2.portLookup p F.EXM_PORT_TABLES_SG4_T F.EXM_PORT_TABLES_SG4_EN (s.vrf f * 2 ^ 64 + f.dip)
         (sg.1.orElse fun _ => any.1, any.2))
    else (none, s)
  let s := sgv.2
  let sk := s.streamKey f
  let sid := if sk.2 then s.portLookup p F.EXM_PORT_TABLES_SIDW_T F.EXM_PORT_TABLES_SIDW_EN sk.1
    else s.portLookup p F.EXM_PORT_TABLES_SID_T F.EXM_PORT_TABLES_SID_EN sk.1
  let s := sid.2
  -- TCAM: LPM, ACL and stream filter in one slot (R236)
  let lpmIn := if ucast then s.searchRegion q 16 .lpm else none
  let aclIn := if s.on F.TCM_PORT_L3_ACL_EN i then s.searchRegion q (s.get F.TCM_PORT_L3_ACL_REGION i) .acl else none
  let sfIn := if s.on F.TCM_PORT_L3_SF_EN i && sid.1.isNone then s.searchRegion q (s.get F.TCM_PORT_L3_SF_REGION i) .stream else none
  let slot := lpmIn.isSome || aclIn.isSome || sfIn.isSome
  let s := if slot then (s.count F.TCM_CNT_COUNT (4 * q) 1).count F.TCM_CNT_COUNT (4 * q + 3) err.waited else s
  let run (s : State) (region : Option (Nat × Nat)) (wide : Bool) (key : Nat) : Search × State :=
    match region with
    | some (first, rows) => s.search q (tileOf p) first rows wide key err.falseHits err.badShadows 2
    | none => (.miss, s)
  let lpm := run s lpmIn false (s.lpmKey f)
  let s := lpm.2
  let acl := run s aclIn (s.aclKey f).2 (s.aclKey f).1
  let s := acl.2
  let sf := run s sfIn false (s.sfKey f)
  let s := sf.2
  let act (x : Search) : Option Nat := match x with
    | .hit _ a => some a
    | _ => none
  let handle := match sid.1 with
    | some e => some (bits e.payload 0 16)
    | none => (act sf.1).map fun a => bits a 48 16
  let bound := s.bindings f handle
  let s := bound.2
  if lpm.1 = .bad ∨ acl.1 = .bad ∨ sf.1 = .bad then
    ({ decision := .discard cFencedUnit, rpf := none, aclAction := none, stream := handle, sidHit := sid.1.isSome, sfFilter := none, meter := none,
       merge := none }, s)
  else
    let yield_ (st : Stage) : Decision := match st with
      | .acl => (act acl.1).elim .none fun a => s.toAcl a hash
      | .host => hr.1.elim .none fun e =>
          if f.v6 then s.toNh (bits e.payload 84 2) (bits e.payload 64 20) hash else s.toNh (bits e.payload 68 2) (bits e.payload 48 20) hash
      | .sg => sgv.1.elim .none fun e => .group (if f.v6 then bits e.payload 70 16 else bits e.payload 22 16)
      | .lpm => (act lpm.1).elim .none fun a => s.toNh (bits a 62 2) (bits a 42 20) hash
      | .fdb => fdb.1.elim .none fun e => s.toFdb e.payload hash
    let first := (s.searchOf q).2.find? fun st => yield_ st != .none
    let dec := match first with
      | some st => yield_ st
      | none => if ucast || mcast then .discard cNoRoute else .group (s.get F.TCM_PORT_L3_FLOOD_GROUP i)
    let rpf := if first = some .sg then
        sgv.1.bind fun e => if f.v6 then (if bitOf e.payload 59 then some (bits e.payload 60 10) else none)
          else (if bitOf e.payload 11 then some (bits e.payload 12 10) else none)
      else none
    -- TTL, by what the decision names, wherever that leads (R242; log 121)
    let aims := match first with
      | some .acl => (act acl.1).any aclAims
      | some .host => hr.1.any fun e => nhAims (if f.v6 then bits e.payload 84 2 else bits e.payload 68 2)
      | some .lpm => (act lpm.1).any fun a => nhAims (bits a 62 2)
      | _ => dec.forwards
    let dec := if ucast && aims && decide (f.vec.outer.ttl ≤ 1) then
        (if s.on F.TCM_PORT_L3_TTL_TRAP i then .host 3 else .discard cTtlZero) else dec
    let dec := if rpf.any (· != p) then .discard cNoRoute else dec
    ({ decision := dec, rpf := rpf, aclAction := act acl.1, stream := handle, sidHit := sid.1.isSome,
       sfFilter := (act sf.1).bind fun a => if bitOf a 31 then some (bits a 32 16) else none, meter := bound.1.1, merge := bound.1.2 }, s)

/-- The policing of a forwarded frame: filter, stream meter, ACL meter (R378, R382). -/
def State.police (s : State) (f : Frame) (k : Looked) (cls : Nat) : Policed × State :=
  let filterNo := match k.meter with
    | some e => if bitOf e.payload 59 then some (bits e.payload 61 16) else k.sfFilter
    | none => k.sfFilter
  let fl := match filterNo with
    | some i => s.filter i f.vec.len cls
    | none => (.pass cls none, s)
  match fl with
  | (.drop c, s) => (.drop c, s)
  | (.pass cls _, s) =>
    let m1 := match k.meter with
      | some e => if bitOf e.payload 60 then some (bits e.payload 77 16) else none
      | none => none
    let m1 := m1.orElse fun _ => filterNo.bind fun i => if bitOf (s.obj 8 i) 24 then some (bits (s.obj 8 i) 25 16) else none
    let pre := b2n (decide (f.vec.vlanCount ≠ 0) && bitOf f.vec.vlan0 12)
    let r1 := match m1 with
      | some m => let r := s.meter m f.vec.len pre; (some m, r.1, r.2)
      | none => (none, pre, s)
    let s := r1.2.2
    let acl := k.aclAction.getD 0
    let cls := if bitOf acl 40 then bits acl 37 3 else cls
    if r1.1.any fun m => s.meterDrops m r1.2.1 then
      (.drop cPolicedRed, filterNo.elim s fun i => s.objCount 8 i 208 48)
    else if k.aclAction.isSome && bitOf acl 36 then
      let r2 := s.meter (bits acl 20 16) f.vec.len r1.2.1
      (if r2.2.meterDrops (bits acl 20 16) r2.1 then .drop cPolicedRed else .pass cls none, r2.2)
    else (.pass cls none, s)

/-- Recipe 0x13, ring tag strip, which every local copy takes (R399; log 30). -/
def stripRecipe : Nat × Nat := (0x13, 0)

/-- Copies of a decision, or the drop code (R314, R411, R564); localOf is the ring group of a local copy (R396). -/
def State.copiesOf (s : State) (f : Frame) (dec : Decision) (merge : Option (Nat × Nat)) (localOf : Option Nat) : Option (List Copy) :=
  match dec with
  | .port p recipe =>
    let r := if localOf.isSome then stripRecipe else recipe.getD (s.get F.RWE_PORT_DEFAULT_RECIPE p, s.get F.RWE_PORT_DEFAULT_PARAM p)
    if localOf.any fun g => p = 128 * g || p = 128 * g + 4 then some []
    else some [{ frame := f, quadrant := quadOf p, target := .unicast p r.1 r.2, merge := merge, transit := none, localOf := localOf }]
  | .group g => s.groupCopies f g merge localOf
  | .host r => some [{ s.hostCopy f r with merge := merge }]
  | _ => none

/-- Learning, decision, class, policing and copies of a frame not trapped: R221, R222, R241, R242, R359, R378. -/
def State.forward (s : State) (pinned : Nat → Nat → Bool) (f : Frame) (err : LookupErrors) (ring : Option (Nat × Option (Nat × Nat))) : Looked × State :=
  let l := s.learn pinned f
  let r := l.2.stages f f.hash err
  let k := r.1
  let s := r.2
  let acl := k.aclAction.getD 0
  let s := if bitOf acl 19 then s.count F.TCM_ACL_CNT_FRAMES (4096 * quadOf f.port + bits acl 7 12) 1 else s
  let dec : Decision := match k.decision with
    | .discard c => .discard c
    | .group g => if (s.groupCopies f g none none).isNone then .discard cNoRoute else .group g
    | d => d
  let dec : Decision := if l.1 then (match dec with
    | .discard c => .discard c
    | _ => .discard cLearnLimit) else dec
  match dec with
  | .discard c => (k, s.dropAt c f.port)
  | _ =>
    match s.police f k f.cls with
    | (.drop c, s) => (k, s.dropAt c f.port)
    | (.pass cls _, s) =>
      let f := { f with cls := cls }
      match s.copiesOf f dec (ring.elim k.merge (·.2)) (ring.map (·.1)) with
      | some l => (k, s.cross l)
      | none => (k, s.dropAt cNoRoute f.port)

end Sys2Proof.Machine
end

