-- ==== Sys2Proof/Machine/Objects.lean ====
section
/-! DEFINITION. The objects of Table 10.4: their checks, writes and reads (R243, R277, R313, R379, R383, R387, R424, R564), and the merge check of a context (R390, R391). -/

namespace Sys2Proof.Machine

/-! ## Checks of a write -/

/-- Objects of a kind (Table 10.4). -/
def objCountOf (kind : Nat) : Nat :=
  if kind = 0 then 131072 else if kind = 1 then 4096 else if kind = 2 then 256 else if kind = 4 then 2097152
  else if kind = 5 then 262144 else if kind ≤ 8 then 65536 else 0

/-- Reserved bits of an object of a kind are zero (R269); the layouts of kinds 1 and 2 are open (log 13). -/
def objReservedOk (kind v : Nat) : Bool :=
  match kind with
  | 0 => decide (v < 2 ^ 64) && decide (bits v 0 26 = 0)
  | 3 => decide (v < 2 ^ 194) && (List.range 4).all fun q => decide (bits v (48 * q + 33) 15 = 0)
  | 4 => decide (v < 2 ^ 64) && decide (bits v 0 23 = 0)
  | 5 => decide (v < 2 ^ 512)
  | 6 => decide (v < 2 ^ 640) && decide (bits v 58 6 = 0) && decide (bits v 96 32 = 0)
  | 7 => decide (v < 2 ^ 336) && decide (bits v 100 28 = 0)
  | 8 => decide (v < 2 ^ 256) && decide (bits v 43 21 = 0)
  | _ => true

/-- First word and word count of a context's window (R388). -/
def ctxWords (v : Nat) : Nat × Nat := (bits v 42 16, ceilDiv (bits v 3 12) 64)

/-- A context's window overlaps that of another valid context (R387). -/
def State.ctxOverlaps (s : State) (i v : Nat) : Bool :=
  s.tables.objs.any fun e =>
    e.1 / 2 ^ 22 == 6 && e.1 != objKey 6 i && bitOf e.2 0 &&
      decide ((ctxWords e.2).1 < (ctxWords v).1 + (ctxWords v).2 ∧ (ctxWords v).1 < (ctxWords e.2).1 + (ctxWords e.2).2)

/-- An OBJ_WRITE of an object is accepted; otherwise TUE_BAD_TARGET (R31, R243, R313, R379, R383, R387, R424, R564). -/
def State.objOk (s : State) (kind i v : Nat) : Bool :=
  decide (i < objCountOf kind) && objReservedOk kind v &&
    match kind with
    | 0 => if bits v 62 2 = 0 then s.isPort (bits v 52 10) else if bits v 62 2 = 1 then decide (bits v 52 10 < 256) else true
    | 1 =>
      let o := Config.ecmpObject v
      decide (1 ≤ o.1 ∧ o.1 ≤ 64) && (o.2.take o.1).all fun n => decide (n < 131072)
    | 2 =>
      let o := Config.lagObject v
      decide (1 ≤ o.1 ∧ o.1 ≤ 32) && (o.2.take o.1).all s.isPort
    | 3 => (List.range 4).all fun q =>
        let first := bits v (48 * q) 21
        let n := bits v (48 * q + 21) 12
        decide (first + n ≤ 2097152) && (List.range n).all fun k =>
          let p := bits (s.obj 4 (first + k)) 54 10
          p == 512 + q || (s.isPort p && p / 128 == q)
    | 4 => s.isAnyPort (bits v 54 10)
    | 5 => (List.range 32).any fun t =>
        decide (s.get F.RWE_PARAM_SHARE_BASE t ≤ i ∧ i < s.get F.RWE_PARAM_SHARE_BASE t + s.get F.RWE_PARAM_SHARE_COUNT t)
    | 6 =>
      let w := bits v 3 12
      decide (1 ≤ w ∧ w ≤ 2048) && bits v 1 2 != 3 && bits v 16 2 != 3 && bits v 18 4 != 0 &&
        decide (bits v 22 20 ≤ 1000000) && decide ((ctxWords v).1 + (ctxWords v).2 ≤ 65536) &&
        !(bitOf v 0 && s.ctxOverlaps i v)
    | 7 => decide (bits v 0 24 ≤ bits v 24 24) && bits v 48 24 != 0 && bits v 72 24 != 0
    | 8 => !bitOf v 14 || (SMap.find s.layers.time.streamUnit (bits v 15 9)).isSome
    | _ => true

/-! ## Writes and reads -/

/-- A window in take-any of a context as written, with the SSRC that the write gave it (Table 14.1). -/
def Window.fresh (v : Nat) : Window := { rseq := 0, hist := 0, span := 0, takeAny := true, last := 0, ssrc := bits v 64 32 }

/-- Where the window of a context in a quadrant is kept. -/
def windowKey (i q : Nat) : Nat := 4 * i + q

/-- Replace the windows. -/
def State.withWindow (s : State) (i q : Nat) (w : Window) : State :=
  { s with tables := { s.tables with windows := SMap.put s.tables.windows (windowKey i q) w } }

/-- The window of a context in a quadrant; one that holds none is as the context was written. -/
def State.window (s : State) (i q : Nat) : Window := SMap.findD s.tables.windows (windowKey i q) (Window.fresh (s.obj 6 i))

/-- Write an object that has passed its checks; counters, buckets and windows restart (R379, R383, R387). -/
def State.objStore (s : State) (kind i v : Nat) : State :=
  match kind with
  | 6 => s.putObj 6 i (v % 2 ^ 128) |>.forAll (List.range 4) fun s q => if bitOf v (18 + q) then s.withWindow i q (Window.fresh v) else s
  | 7 =>
    let s := s.putObj 7 i (v % 2 ^ 128 + bits v 48 24 * 2 ^ 128 + bits v 72 24 * 2 ^ 152)
    { s with tables := { s.tables with meterAt := SMap.put s.tables.meterAt i (s.elapsed, 0, 0) } }
  | 8 => s.putObj 8 i (v % 2 ^ 64)
  | _ => s.putObj kind i v

/-! ## What a frame sees of an object under timed cuts (R284, R292, R293, R295) -/

/-- Which content of an object a frame reads: the object as it is, what it held before a cut that the frame has not seen, or what a cut that it has seen early will write. -/
inductive Version where
  | current
  | old (k : Nat)
  | store (cut change : Nat)
  deriving DecidableEq, Repr

/-- The content that a frame reads: of the cuts applied since its lookup the earliest that it had not seen decides. -/
def State.version (s : State) (f : Frame) (kind i : Nat) : Version :=
  match s.tue.olds.findIdx? fun o => o.kind == kind && o.index == i && decide (f.cutsSeen ≤ o.order) && !f.early.contains o.uid with
  | some k => .old k
  | none =>
    let mine (x : CutChange) : Bool := x.opcode == 0x30 && x.space == kind && x.index == i
    match s.tue.cuts.find? fun e => e.2.state == 2 && f.early.contains e.2.uid && e.2.changes.any mine with
    | some e => .store e.1 (e.2.changes.findIdx mine)
    | none => .current

/-- A change in the cut store. -/
def State.storedChange (s : State) (n j : Nat) : CutChange := ((SMap.find s.tue.cuts n).bind fun c => c.changes[j]?).getD default

/-- An object as a frame reads it. -/
def State.objFor (s : State) (f : Frame) (kind i : Nat) : Nat :=
  match s.version f kind i with
  | .current => s.obj kind i
  | .old k => (s.tue.olds.getD k default).value
  | .store n j => (s.storedChange n j).body

/-- The window of a context in a quadrant as a frame sees it. -/
def State.windowFor (s : State) (f : Frame) (i q : Nat) : Window :=
  match s.version f 6 i with
  | .current => s.window i q
  | .old k => SMap.findD (s.tue.olds.getD k default).windows q (Window.fresh (s.objFor f 6 i))
  | .store n j => SMap.findD (s.storedChange n j).windows q (Window.fresh (s.objFor f 6 i))

/-- Change an element of a list in its place. -/
def listAt {α : Type} (l : List α) (k : Nat) (f : α → α) : List α := (l.zipIdx).map fun x => if x.2 = k then f x.1 else x.1

/-- Change the content that a frame reads of an object, wherever that content stands. -/
def State.onVersion (s : State) (f : Frame) (kind i : Nat) (now : State → State) (old : OldObj → OldObj) (new : CutChange → CutChange) : State :=
  match s.version f kind i with
  | .current => now s
  | .old k => { s with tue := { s.tue with olds := listAt s.tue.olds k old } }
  | .store n j =>
    { s with tue := { s.tue with cuts := SMap.modify s.tue.cuts n default fun (c : Cut) => { c with changes := listAt c.changes j new } } }

/-- Store the window that a frame's check leaves, beside the content that it was checked against. -/
def State.withWindowFor (s : State) (f : Frame) (i q : Nat) (w : Window) : State :=
  s.onVersion f 6 i (·.withWindow i q w) (fun o => { o with windows := SMap.put o.windows q w }) fun x => { x with windows := SMap.put x.windows q w }

/-- A routine takes the sequence number of the parameter entry that its frame reads, which advances by one (R417). -/
def State.seqTaken (s : State) (f : Frame) (i : Nat) : State :=
  let next (v : Nat) : Nat := putBits v 496 16 (bits v 496 16 + 1)
  s.onVersion f 5 i (fun s => s.putObj 5 i (next (s.obj 5 i))) (fun o => { o with value := next o.value }) fun x => { x with body := next x.body }

/-- Global index of the parameter entry of a frame, in range (R410, R424). -/
def State.paramIndex (s : State) (t param : Nat) : Option Nat :=
  if param < s.get F.RWE_PARAM_SHARE_COUNT t then some (s.get F.RWE_PARAM_SHARE_BASE t + param) else none

/-- The parameter entry as a frame of a tile reads it; zero out of range. -/
def State.paramFor (s : State) (t param : Nat) (f : Frame) : Nat := (s.paramIndex t param).elim 0 (s.objFor f 5)

/-- The lowest quadrant of a context's QMASK, which counts (R388). -/
def ctxQuad (v : Nat) : Nat := ((List.range 4).find? fun q => bitOf v (18 + q)).getD 0

/-- What OBJ_READ gives: the object with its counters; for a context also RSEQ, TAKE_ANY and, with SSRC_MODE 2, the SSRC of the counting quadrant: as written until one is learned (R388; log 39). -/
def State.objRead (s : State) (kind i : Nat) : Nat :=
  let v := s.obj kind i
  if kind = 6 ∧ s.objWritten 6 i then
    let w := s.window i (ctxQuad v)
    let v := putBits (putBits v 512 16 w.rseq) 528 1 (b2n w.takeAny)
    if bits v 16 2 = 2 then putBits v 64 32 w.ssrc else v
  else v

/-! ## The merge check (R390, R391) -/

/-- Bits of a number that are zero among those below a length that satisfy a test. -/
def zeroBits (hist n : Nat) (p : Nat → Bool) : Nat := ((List.range n).filter fun i => !bitOf hist i && p i).length

/-- Counters of a context. -/
inductive MergeCount where
  | passed | dup | ooo | lost | rogue | resync | resets | ssrcBad
  deriving DecidableEq, Repr

/-- Lowest bit of a counter in the context object (Table 14.1). -/
def MergeCount.lsb : MergeCount → Nat
  | .passed => 128 | .dup => 160 | .ooo => 192 | .lost => 224 | .rogue => 256 | .resync => 288 | .resets => 320 | .ssrcBad => 352

/-- The outcome of a check: pass or discard, the window, the counters raised. -/
structure Checked where
  pass : Bool
  window : Window
  counts : List (MergeCount × Nat)
  deriving DecidableEq, Repr

/-- The recovery timeout has passed: reset (R391). Times in 0.2 ns. -/
def Window.expired (v : Nat) (w : Window) (now : Nat) : Bool :=
  !w.takeAny && bits v 22 20 != 0 && decide (nsUnits (1000 * bits v 22 20) < now - w.last)

/-- The algorithm of R391 for a frame of sequence q and SSRC, on the context v. -/
def mergeCheck (v : Nat) (w0 : Window) (q ssrc now : Nat) : Checked :=
  let reset := w0.expired v now
  let c0 := if reset then [(MergeCount.lost, zeroBits w0.hist w0.span fun _ => true), (MergeCount.resets, 1)] else []
  let w : Window := if reset then { w0 with takeAny := true } else w0
  let mode := if bits v 1 2 = 1 then bits v 16 2 else 0
  let size := bits v 3 12
  if mode = 1 ∧ ssrc ≠ bits v 64 32 then ⟨false, w, c0 ++ [(.ssrcBad, 1)]⟩
  else if w.takeAny then
    ⟨true, { rseq := q, hist := 1, span := 1, takeAny := false, last := now, ssrc := if mode = 2 then ssrc else w.ssrc }, c0 ++ [(.passed, 1)]⟩
  else if mode = 2 ∧ ssrc ≠ w.ssrc then ⟨false, w, c0 ++ [(.ssrcBad, 1)]⟩
  else
    let u := (q + 65536 - w.rseq) % 65536
    let d : Int := if u < 32768 then u else (u : Int) - 65536
    if 0 < d ∧ d < size then
      ⟨true, { w with rseq := q, hist := (w.hist * 2 ^ u + 1) % 2 ^ size, span := min size (w.span + u), last := now },
        c0 ++ [(.lost, zeroBits w.hist w.span fun i => decide (size ≤ i + u)), (.passed, 1)]⟩
    else if -(size : Int) < d ∧ d ≤ 0 then
      let b := (-d).toNat
      if bitOf w.hist b then ⟨false, w, c0 ++ [(.dup, 1)]⟩
      else ⟨true, { w with hist := w.hist + 2 ^ b, span := max w.span (b + 1), last := now }, c0 ++ [(.ooo, 1), (.passed, 1)]⟩
    else if (size : Int) ≤ d ∧ bitOf v 15 then
      ⟨true, { w with rseq := q, hist := 1, span := 1, last := now },
        c0 ++ [(.lost, zeroBits w.hist w.span fun _ => true), (.resync, 1), (.passed, 1)]⟩
    else ⟨false, w, c0 ++ [(.rogue, 1)]⟩

/-- The sequence and presence of a context's source in a frame (R390, R391). -/
def Frame.sequence (f : Frame) (src : Nat) : Option Nat :=
  if src = 0 then (if f.vec.rtag then some f.vec.rtagSeq else none)
  else if src = 1 then (if f.vec.app = 2 ∨ f.vec.app = 3 then some f.vec.appSeq else none)
  else if f.vec.ringTag then some f.vec.ringSeq else none

/-- Raise 32-bit counters of a context, which wrap; only its lowest quadrant counts (R388). -/
def State.ctxCount (s : State) (i q : Nat) (l : List (MergeCount × Nat)) : State :=
  let v := s.obj 6 i
  if q = ctxQuad v then
    s.putObj 6 i (l.foldl (fun v c => putBits v c.1.lsb 32 (bits v c.1.lsb 32 + c.2)) v)
  else s

/-- MEMBER_RX of a member (Table 14.1). -/
def State.memberRx (s : State) (i q m : Nat) : State :=
  let v := s.obj 6 i
  if q = ctxQuad v then s.putObj 6 i (putBits v (32 * m + 384) 32 (bits v (32 * m + 384) 32 + 1)) else s

/-- Counters of MRG_CNT that a check raises. -/
def State.mrgCounts (s : State) (q : Nat) (r : Checked) : State :=
  let n (m : MergeCount) : Nat := ((r.counts.filter fun c => c.1 == m).map (·.2)).sum
  let s := s.count F.MRG_CNT_COUNT (6 * q) 1
  let s := if r.pass then s.count F.MRG_CNT_COUNT (6 * q + 1) 1 else s
  let s := if 0 < n .dup then s.count F.MRG_CNT_COUNT (6 * q + 2) 1 else s
  let s := if 0 < n .rogue then (s.count F.MRG_CNT_COUNT (6 * q + 3) 1).evC F.MRG_EVENT_ROGUE 0 else s
  let s := if 0 < n .resets + n .resync then s.count F.MRG_CNT_COUNT (6 * q + 4) (n .resets + n .resync) else s
  if 0 < n .ssrcBad then s.evC F.MRG_EVENT_SSRC_BAD 0 else s

/-- The merge check of a bound frame in a quadrant: whether it passes (R390, R391). A frame checked against a content other than the object's own counts in no counter of the object (R295, Table 14.2). -/
def State.mergeStep (s : State) (f : Frame) (q i m : Nat) : Bool × State :=
  let v := s.objFor f 6 i
  let own := s.version f 6 i == .current
  let unchecked (s : State) : Bool × State := (true, (s.count F.MRG_CNT_COUNT (6 * q + 5) 1).evC F.MRG_EVENT_UNCHECKED 0)
  if bitOf v 0 = false ∨ bitOf v (18 + q) = false then unchecked s
  else
    let s := if own then s.memberRx i q m else s
    match f.sequence (bits v 1 2) with
    | none => unchecked s
    | some n =>
      let r := mergeCheck v (s.windowFor f i q) n f.vec.ssrc s.elapsed
      let s := s.withWindowFor f i q r.window
      (r.pass, (if own then s.ctxCount i q r.counts else s).mrgCounts q r)

end Sys2Proof.Machine
end

