-- ==== Sys2Proof/Machine/Changes.lean ====
section
/-! DEFINITION. Table commands: their words, their checks, their effect, and the same as the changes of a timed cut (R267 to R277, R287 to R289, R295 to R298, R564). -/

namespace Sys2Proof.Machine

/-! ## The words of a command (Tables 10.1 and 10.2, R269) -/

/-- A command's header fields and body. -/
structure Cmd where
  opcode : Nat
  ord : Bool
  flags : Nat
  tag : Nat
  space : Nat
  quad : Nat
  index : Nat
  arg : Nat
  body : Nat
  /-- As of the command's doorbell and acceptance: tables with AGE_EN set, and whether its quadrant has gone out since (R263, Table 10.5). -/
  ageEn : Nat := 0
  aborted : Bool := false
  deriving DecidableEq, Repr

/-- Read a command of 128 bytes. -/
def parseCmd (w : Nat) : Cmd :=
  { opcode := bits w 1016 8, ord := bitOf w 1015, flags := bits w 1008 7, tag := bits w 992 16, space := bits w 984 8,
    quad := bits w 982 2, index := bits w 960 22, arg := bits w 896 64, body := bits w 0 896 }

/-- Opcodes of Table 10.2. -/
def oNop : Nat := 0x00
def oFence : Nat := 0x01
def oEpoch : Nat := 0x02
def oEmInsert : Nat := 0x10
def oEmUpdate : Nat := 0x11
def oEmDelete : Nat := 0x12
def oEmRead : Nat := 0x13
def oTcInsert : Nat := 0x20
def oTcWriteRow : Nat := 0x21
def oTcUpdateAction : Nat := 0x22
def oTcDelete : Nat := 0x23
def oTcReadRow : Nat := 0x24
def oObjWrite : Nat := 0x30
def oObjRead : Nat := 0x31
def oCutOpen : Nat := 0x40
def oCutAdd : Nat := 0x41
def oCutArm : Nat := 0x42
def oCutCancel : Nat := 0x43

/-- STATUS codes of Table 10.5. -/
def stDone : Nat := 0x00
def stBadOpcode : Nat := 0x01
def stBadTarget : Nat := 0x02
def stClaim : Nat := 0x03
def stCutArmed : Nat := 0x04
def stTimeout : Nat := 0x05
def stEpochFull : Nat := 0x06
def stCutBusy : Nat := 0x07
def stCutUnknown : Nat := 0x08
def stCutFull : Nat := 0x09
def stCutConflict : Nat := 0x0A
def stCutPast : Nat := 0x0B
def stCutApplied : Nat := 0x0C
def stAborted : Nat := 0x0D
def stEpochDrained : Nat := 0x0E
def stCutDone : Nat := 0x0F

/-- What the record of a command carries. -/
structure Reply where
  status : Nat
  result : Nat := 0
  body : Nat := 0
  deriving DecidableEq, Repr

/-- A TCAM entry in a body; FMT 0b011 at the top of VALUE makes it wide (Table 9.1). -/
def tcEntry (body : Nat) : TcamRow :=
  let wide := bits body 893 3 == 3
  { wide := wide, value := if wide then bits body 576 320 else bits body 736 160, mask := if wide then bits body 256 320 else bits body 416 160,
    action := bits body 192 64, prio := bits body 176 16 }

/-- The body that carries a row (R270). -/
def TcamRow.body (r : TcamRow) : Nat :=
  (if r.wide then r.value * 2 ^ 576 + r.mask * 2 ^ 256 else r.value * 2 ^ 736 + r.mask * 2 ^ 416) + r.action * 2 ^ 192 + r.prio * 2 ^ 176

/-- Reserved bits of an action word are zero (R239, Table 9.2). -/
def actionOk (kind : RegionKind) (a : Nat) : Bool :=
  match kind with
  | .lpm => bits a 0 42 == 0
  | .acl => bits a 0 7 == 0
  | .stream => bits a 0 31 == 0

/-- Unused bits of a TCAM body are zero. -/
def tcUnusedOk (body : Nat) : Bool := bits body 0 176 == 0 && ((tcEntry body).wide || (bits body 576 160 == 0 && bits body 256 160 == 0))

/-- Reserved low bits of a payload (Table 8.2). -/
def payloadReserved (c : TableCfg) : Nat :=
  match c.kind, c.wide with
  | .fdb, _ => 23
  | .hostRoute, false => 48
  | .hostRoute, true => 64
  | .streamId, _ => 0
  | .sg, false => 11
  | .sg, true => 59
  | .merge, _ => 68
  | .meter, _ => 59

/-- A payload of a table has its reserved bits zero (R269). -/
def payloadOk (c : TableCfg) (body : Nat) : Bool :=
  decide (body < 2 ^ (if c.wide then 224 else 112)) && bits body 0 (payloadReserved c) == 0

/-! ## Quadrants that take no part -/

/-- A BUFFER or SEARCH swap has quiesced the quadrant (R60). -/
def State.quiesced (s : State) (q : Nat) : Bool := s.on F.PTL_SWAP_QUIESCING 0 && s.get F.PTL_SWAP_QUADRANT 0 == q

/-- The quadrant is in reset or quiesced (R298). -/
def State.quadOut (s : State) (q : Nat) : Bool := !s.quadUp q || s.quiesced q

/-- Every tile of the quadrant is fenced (R298). -/
def State.quadFenced (s : State) (q : Nat) : Bool := (List.range 8).all fun k => s.isFenced (srcTile (8 * q + k) 0) 0

/-! ## Checks of results and actions (R206, R210, R564) -/

/-- Unused low bits of a stream ID KEY, below its fields: from bit 16 of the payload, by width and MODE (R210). -/
def keyUnused (wide : Bool) (mode : Nat) : Nat :=
  match wide, mode with
  | false, 0 => 24
  | false, 1 => 36
  | false, _ => 4
  | true, 0 => 136
  | true, _ => 52

/-- A payload that an insert or update must refuse as BAD_ENTRY. -/
def State.emBad (s : State) (c : TableCfg) (b : Nat) : Bool :=
  match c.kind, c.wide with
  | .fdb, _ =>
    let d := bits b 34 16
    (bits b 50 2 == 0 && !s.isPort d) || (bits b 50 2 == 1 && decide (256 ≤ d))
  | .hostRoute, w =>
    let k := if w then bits b 84 2 else bits b 68 2
    let n := if w then bits b 64 20 else bits b 48 20
    (k == 0 && decide (131072 ≤ n)) || (k == 1 && decide (4096 ≤ n))
  | .streamId, w =>
    let mode := if w then bits b 222 2 else bits b 110 2
    (if w then decide (2 ≤ mode) else mode == 3) || bits b 16 (keyUnused w mode) != 0
  | .sg, w => if w then bitOf b 59 && !s.isAnyPort (bits b 60 10) else bitOf b 11 && !s.isAnyPort (bits b 12 10)
  | .merge, _ => false
  | .meter, _ => false

/-- The format fits the region, and the action word names things that exist (R564). -/
def State.tcBad (s : State) (kind : RegionKind) (r : TcamRow) : Bool :=
  let fmt := if r.wide then bits r.value 317 3 else bits r.value 157 3
  let t := bits r.action 41 20
  match kind with
  | .lpm => fmt != 0 || (bits r.action 62 2 == 0 && decide (131072 ≤ bits r.action 42 20)) ||
      (bits r.action 62 2 == 1 && decide (4096 ≤ bits r.action 42 20))
  | .stream => fmt != 4
  | .acl =>
    !(fmt == 1 || fmt == 2 || fmt == 3) ||
      match bits r.action 61 3 with
      | 3 => decide (131072 ≤ t)
      | 4 => decide (4096 ≤ t)
      | 5 => !s.isPort t
      | 6 => decide (256 ≤ t)
      | 7 => decide (65536 ≤ t)
      | _ => false

/-! ## Targets of cuts (R289) -/

/-- Rows that a change names in each quadrant. -/
def State.changeRows (s : State) (x : CutChange) : List (Nat × Nat) :=
  let quads := s.regionQuads x.quad x.space
  if x.opcode = oTcWriteRow then
    quads.flatMap fun q => if (tcEntry x.body).wide then [(q, x.index), (q, x.index + 1)] else [(q, x.index)]
  else if x.opcode = oTcUpdateAction ∨ x.opcode = oTcDelete then
    match x.place with
    | some (n, w, _) => quads.flatMap fun q => if w = 1 then [(q, n), (q, n + 1)] else [(q, n)]
    | none => []
  else []

/-- A row of a quadrant that an open or armed cut names. -/
def State.pinnedRow (s : State) (q n : Nat) : Bool := s.anyChange fun x => (s.changeRows x).contains (q, n)

/-- An object that an open or armed cut names. -/
def State.pinnedObj (s : State) (kind i : Nat) : Bool :=
  s.anyChange fun x => x.opcode == oObjWrite && x.space == kind && x.index == i

/-! ## Writing an object under frames in flight (R277, R285) -/

/-- The tile whose share holds a parameter index, and the index within it. -/
def State.shareOf (s : State) (i : Nat) : Option (Nat × Nat) :=
  ((List.range 32).find? fun t =>
    decide (s.get F.RWE_PARAM_SHARE_BASE t ≤ i ∧ i < s.get F.RWE_PARAM_SHARE_BASE t + s.get F.RWE_PARAM_SHARE_COUNT t)).map fun t =>
      (t, i - s.get F.RWE_PARAM_SHARE_BASE t)

/-- Recipes that read their parameter entry (Table 15.5). -/
def readsParam (id : Nat) : Bool := [0x01, 0x02, 0x03, 0x07, 0x08, 0x09, 0x0A, 0x0B, 0x0C, 0x0D, 0x0E, 0x0F, 0x10, 0x11, 0x14, 0x16, 0x17, 0x18, 0x19].contains id

/-- The routine of a frame reads its parameter entry before its COMMIT word: of a library recipe Table 15.5 says it, of any other its microcode (R285). -/
def State.routineReads (s : State) (t : Nat) (r : Rewriting) (f : Frame) : Bool :=
  let id := r.entry.recipe
  if s.microcoded t id then
    Engine.reads
      { entry := [], info := [], vec := f.vec.toBits, len := f.vec.len, id := id, store := s.storeWord t r.cluster, free := fun _ => 0 }
      8192 (Engine.load f.vec f.bytes) (s.storeEntry t r.cluster id)
  else readsParam id

/-- A parameter write abandons the uncommitted routines that have read the entry; each restarts once and reads the entry as its frame sees it then (R285, R295, R419). -/
def State.epochAbort (s : State) (i : Nat) : State :=
  match s.shareOf i with
  | none => s
  | some (t, k) =>
    s.forAll (s.portsOf t) fun s p =>
      let hit (r : Rewriting) : Bool :=
        !r.waiting && r.entry.param == k && r.content.isNone && (s.buf r.entry.buf).any fun b => s.routineReads t r b.frame
      let again (r : Rewriting) : Rewriting :=
        if hit r then { r with content := (s.buf r.entry.buf).map fun b => s.objFor b.frame 5 i } else r
      let n := ((s.live p).rewriting.filter hit).length
      if n = 0 then s
      else
        ((s.withLive p fun l => { l with rewriting := l.rewriting.map again }).count F.RWE_CNT_COUNT (6 * t + 1) n).count F.TUE_CNT_COUNT 3 n

/-- An object is written whole; every frame reads the new content from then on, whatever cuts it has seen. -/
def State.objWrite (s : State) (kind i v : Nat) : State :=
  let s := { s with tue := { s.tue with olds := s.tue.olds.filter fun o => !(o.kind == kind && o.index == i) } }.objStore kind i v
  if kind = 5 then s.epochAbort i else s

/-! ## What refuses a command before it looks at the tables (R269, Table 10.5) -/

/-- SPACE, QUAD, INDEX or a reserved bit is out of range; flags says which OPFLAGS the opcode takes. -/
def State.badTarget (s : State) (c : Cmd) : Bool :=
  let plain := c.arg == 0 && c.flags == 0
  if c.opcode ≤ oEpoch then
    c.flags != 0 || c.index != 0 || c.body != 0 || (if c.opcode = oEpoch then decide (2 ^ 32 ≤ c.arg) else c.arg != 0)
  else if c.opcode ≤ oEmRead then
    c.arg != 0 || decide (8 ≤ c.flags) || decide (16 ≤ c.space) || c.index != 0 || decide (2 ^ 224 ≤ c.body) ||
      ((SMap.find s.layers.tables c.space).any fun t => !payloadOk t c.body)
  else if c.opcode ≤ oTcReadRow then
    !plain || decide (17 ≤ c.space) || (s.regionRows c.quad c.space).isNone ||
      (if c.opcode = oTcReadRow then c.body != 0 else !tcUnusedOk c.body) ||
      (c.opcode != oTcReadRow && c.opcode != oTcWriteRow && c.index != 0) ||
      (c.opcode != oTcReadRow && c.opcode != oTcDelete && !actionOk (s.regionKind c.quad c.space) (tcEntry c.body).action)
  else if c.opcode = oObjRead then !plain || decide (objCountOf c.space ≤ c.index) || c.body != 0
  else if c.opcode = oObjWrite then !plain || !s.objOk c.space c.index c.body
  else false

/-- A command on a quadrant-local region. -/
def State.quadLocal (s : State) (c : Cmd) : Bool :=
  decide (oTcInsert ≤ c.opcode ∧ c.opcode ≤ oTcReadRow) && s.regionQuads c.quad c.space == [c.quad]

/-- A command on a quadrant-local region whose quadrant is out, or has been since the command was accepted (Table 10.5). -/
def State.abortedCmd (s : State) (c : Cmd) : Bool :=
  s.quadLocal c && (c.aborted || s.quadOut c.quad || s.quadFenced c.quad)

/-- A quadrant has gone out: the commands accepted and not executed that name it are aborted (Table 10.5). -/
def State.tueAbort (s : State) (q : Nat) : State :=
  let mark (x : TueCmd) : TueCmd :=
    let c := parseCmd x.word
    let o := if c.opcode = oCutAdd then bits c.arg 8 8 else c.opcode
    if c.quad = q ∧ oTcInsert ≤ o ∧ o ≤ oTcReadRow then { x with aborted := true } else x
  { s with tue := { s.tue with flight := s.tue.flight.map fun e => (e.1, e.2.map mark) } }

/-! ## Claims (R46, R47, R563, Table 2.10) -/

/-- The first row that a TC_WRITE_ROW would give to its region although another region owns it, as the claim index has it (R46, R47). A row that no region owns is no claim but TC_BAD_ROW (Table 9.5; DEDUCED, log 122). -/
def State.rowClaim (s : State) (c : Cmd) : Option Nat :=
  if c.opcode ≠ oTcWriteRow then none
  else
    let rows := if (tcEntry c.body).wide then [c.index, c.index + 1] else [c.index]
    (s.regionQuads c.quad c.space).findSome? fun q =>
      (rows.find? fun n => (s.rowOwner q n).any (· != c.space)).map fun n => 131072 * q + n

/-- An OBJ_WRITE of a stream filter that names a gate unit without an owner is recorded as a claim beside its refusal (R47, R379; log 122). -/
def State.gateClaim (s : State) (c : Cmd) : State :=
  let g := bits c.body 15 9
  if c.opcode = oObjWrite ∧ c.space = 8 ∧ bitOf c.body 14 = true ∧ (SMap.find s.layers.time.streamUnit g).isNone then
    s.claimErr 3 (32 * (g / 16) + 16 + g % 16) 0x02
  else s

/-- A quadrant that shows what a region holds: the command's own, or for all quadrants the lowest that is in. -/
def State.viewQuad (s : State) (c : Cmd) : Nat := ((s.regionQuads c.quad c.space).find? fun q => !s.quadOut q).getD c.quad

/-- The row that an update or a delete finds. -/
def State.foundRow (s : State) (c : Cmd) : Option (Nat × TcamRow) :=
  s.findRow (s.viewQuad c) c.space (tcEntry c.body).value (tcEntry c.body).mask

/-- The command's target is named by an open or armed cut (R289). -/
def State.cutArmed (s : State) (c : Cmd) : Bool :=
  let rows (n : Nat) : Bool := (s.regionQuads c.quad c.space).any fun q => s.pinnedRow q n
  if c.opcode ≤ oEmRead then (SMap.find s.layers.tables c.space).any fun t => s.pinnedKey c.space (keyOf t c.body)
  else if c.opcode = oTcWriteRow then rows c.index || ((tcEntry c.body).wide && rows (c.index + 1))
  else if c.opcode = oTcReadRow then rows c.index
  else if c.opcode = oTcUpdateAction ∨ c.opcode = oTcDelete then (s.foundRow c).any fun r => rows r.1
  else if c.opcode = oObjWrite ∨ c.opcode = oObjRead then s.pinnedObj c.space c.index
  else false

/-! ## The table commands themselves -/

/-- EM_INSERT, EM_UPDATE, EM_DELETE and EM_READ past the general checks (R215, R219); a write in place drops the visit of its cycle, a refused insert does not (Table 8.5). -/
def State.emCmd (s : State) (c : Cmd) : State × Reply :=
  let done (r : State × EmResult) : State × Reply := (r.1, { status := stDone, result := r.2.code })
  match SMap.find s.layers.tables c.space with
  | none => done (s, .badTable)
  | some t =>
    if c.opcode ≤ oEmUpdate ∧ s.emBad t c.body then done (s, .badEntry)
    else if c.opcode = oEmInsert then
      let r := s.emInsert c.space t (s.pinnedKey c.space) c.body (bitOf c.flags 1) (bitOf c.flags 0) (bitOf c.flags 2) (bitOf c.ageEn c.space)
      done (if r.2 = .ok ∧ (s.emFind c.space t (keyOf t c.body)).isSome then r.1.emTouched c.space t (keyOf t c.body) else r.1, r.2)
    else if c.opcode = oEmUpdate then
      let r := s.emUpdate c.space t c.body (bitOf c.flags 1)
      done (r.1.emTouched c.space t (keyOf t c.body), r.2)
    else if c.opcode = oEmDelete then done (s.emDelete c.space t c.body)
    else
      match (s.emFind c.space t (keyOf t c.body)).bind (s.emAt t.wide) with
      | some e => (s, { status := stDone, body := e.payload })
      | none => done (s, .notFound)

/-- What TC_READ_ROW gives of a row: an entry whole, the second row of a wide entry with its half of VALUE and MASK and free values for the action word and PRIO that no rule gives it, an invalid row as zero (R238, R252, R270; log 105). -/
def State.readRow (s : State) (q n : Nat) : Nat × State :=
  match s.row q n with
  | some r => (r.body, s)
  | none =>
    match if n % 2 = 1 then (s.row q (n - 1)).filter (·.wide) else none with
    | some r =>
      let d := s.draw
      (({ wide := false, value := bits r.value 0 160, mask := bits r.mask 0 160, action := bits d.1 0 64, prio := bits d.1 64 16 } : TcamRow).body, d.2)
    | none => (0, s)

/-- The TCAM commands past the general checks (R246 to R251, R570). -/
def State.tcCmd (s : State) (c : Cmd) : State × Reply :=
  let done (r : State × TcResult) : State × Reply := (r.1, { status := stDone, result := r.2.code })
  let r := tcEntry c.body
  let q := s.viewQuad c
  let quads := s.regionQuads c.quad c.space
  if c.opcode = oTcReadRow then
    match s.regionRows c.quad c.space with
    | some (first, rows) =>
      if c.index < first ∨ first + rows ≤ c.index then done (s, .badRow)
      else ((s.readRow q c.index).2, { status := stDone, body := (s.readRow q c.index).1 })
    | none => done (s, .badRow)
  else if (c.opcode = oTcInsert ∨ c.opcode = oTcWriteRow) ∧ s.tcBad (s.regionKind c.quad c.space) r then done (s, .badEntry)
  else if c.opcode = oTcInsert then done (s.sortedInsert q c.space (fun n => quads.any fun x => s.pinnedRow x n) r)
  else if c.opcode = oTcWriteRow then done (s.writeRow q c.space c.index r)
  else if c.opcode = oTcUpdateAction then
    match s.foundRow c with
    | some (_, old) =>
      if s.tcBad (s.regionKind c.quad c.space) { old with action := r.action } then done (s, .badEntry)
      else done (s.updateAction q c.space r.value r.mask r.action r.prio)
    | none => done (s, .notFound)
  else done (s.deleteRow q c.space r.value r.mask)

/-- OBJ_WRITE and OBJ_READ past the general checks (R277). -/
def State.objCmd (s : State) (c : Cmd) : State × Reply :=
  if c.opcode = oObjWrite then (s.objWrite c.space c.index c.body, { status := stDone })
  else (s, { status := stDone, body := s.objRead c.space c.index })

/-- A table command from its checks to its record (Tables 8.3, 9.5 and 10.5). -/
def State.tableCmd (s : State) (c : Cmd) : State × Reply :=
  if s.badTarget c then (s.gateClaim c, { status := stBadTarget })
  else if s.abortedCmd c then (s, { status := stAborted })
  else if let some i := s.rowClaim c then (s.claimErr 8 i 0x02, { status := stClaim })
  else if s.cutArmed c then
    (s, { status := stCutArmed, result := if oTcInsert ≤ c.opcode ∧ c.opcode ≤ oTcReadRow then TcResult.cutArmed.code else 0 })
  else if c.opcode ≤ oEmRead then s.emCmd c
  else if c.opcode ≤ oTcReadRow then s.tcCmd c
  else s.objCmd c

/-! ## Changes of a cut (R287 to R289, R295, R298) -/

/-- Inner opcodes that a cut may hold (R287). -/
def cutInner (o : Nat) : Bool :=
  o == oEmInsert || o == oEmUpdate || o == oEmDelete || o == oTcWriteRow || o == oTcUpdateAction || o == oTcDelete || o == oObjWrite

/-- What becomes of a change offered to a cut: refused with its record, or added, after any relocation. -/
inductive Offer where
  | refused (r : Reply)
  | added (x : CutChange) (result : Nat)
  deriving DecidableEq, Repr

/-- An EM_INSERT finds its slot when it is added, by relocation but never by eviction (R288). -/
def State.offerInsert (s : State) (t : TableCfg) (c : Cmd) (x : CutChange) : State × Offer :=
  let key := keyOf t c.body
  let no (r : EmResult) : State × Offer := (s, .refused { status := stDone, result := r.code })
  let at_ (p : Place) : CutChange := { x with place := some (p.bank, p.row, p.slot) }
  match s.emFind c.space t key with
  | some _ => if bitOf c.flags 0 then (s, .added x 0) else no .exists_
  | none =>
    match (s.emFree t (bucketOf t 0 key)).orElse fun _ => s.emFree t (bucketOf t 1 key) with
    | some p => (s, .added (at_ p) 0)
    | none =>
      match s.emChain t (s.pinnedKey c.space) 1024 [⟨bucketOf t 0 key, []⟩, ⟨bucketOf t 1 key, []⟩] [bucketOf t 0 key, bucketOf t 1 key] with
      | some (path, free) =>
        let r := s.emMoves t.wide path free
        (r.1, .added (at_ r.2) EmResult.moved.code)
      | none => no .full

/-- CUT_ADD's check of its change against the tables as they stand (R288); the inner command's own checks come first. -/
def State.offer (s : State) (c : Cmd) : State × Offer :=
  let x : CutChange :=
    { opcode := c.opcode, flags := c.flags, space := c.space, quad := c.quad, index := c.index, body := c.body, place := none, ageEn := c.ageEn,
      windows := [] }
  let no (st : Nat) (r : Nat) : State × Offer := (s, .refused { status := st, result := r })
  if s.badTarget c then (s.gateClaim c, .refused { status := stBadTarget })
  else if s.abortedCmd c then no stAborted 0
  else if let some i := s.rowClaim c then (s.claimErr 8 i 0x02, .refused { status := stClaim })
  else if s.cutArmed c then no stCutConflict 0
  else if c.opcode ≤ oEmRead then
    match SMap.find s.layers.tables c.space with
    | none => no stDone EmResult.badTable.code
    | some t =>
      if c.opcode ≤ oEmUpdate ∧ s.emBad t c.body then no stDone EmResult.badEntry.code
      else if c.opcode = oEmInsert then s.offerInsert t c x
      else if (s.emFind c.space t (keyOf t c.body)).isNone then no stDone EmResult.notFound.code
      else (s, .added x 0)
  else if c.opcode ≤ oTcReadRow then
    let r := tcEntry c.body
    let kind := s.regionKind c.quad c.space
    if c.opcode = oTcWriteRow then
      if s.tcBad kind r then no stDone TcResult.badEntry.code
      else
        let res := (s.writeRow (s.viewQuad c) c.space c.index r).2
        if res = .ok then (s, .added x 0) else no stDone res.code
    else
      match s.foundRow c with
      | none => no stDone TcResult.notFound.code
      | some (n, old) =>
        if c.opcode = oTcUpdateAction ∧ s.tcBad kind { old with action := r.action } then no stDone TcResult.badEntry.code
        else (s, .added { x with place := some (n, b2n old.wide, 0) } 0)
  else (s, .added x 0)

/-- The exact-match entry that a change of a cut writes or removes: the state, the payload before and after, and whether the entry is new (R296). -/
def State.changeEntry (s : State) (t : TableCfg) (x : CutChange) : State × Option Nat × Option Nat × Bool :=
  let new := staticPayload t (bitOf x.flags 1) x.body
  match s.emFind x.space t (keyOf t x.body) with
  | some p =>
    match s.emAt t.wide p with
    | none => (s, none, none, false)
    | some e =>
      if x.opcode = oEmDelete then (s.emClear t.wide p, some e.payload, none, false)
      else (s.emPut t.wide p { e with static := bitOf x.flags 1, payload := new }, some e.payload, some new, false)
  | none =>
    match x.opcode == oEmInsert, x.place with
    | true, some (b, row, k) =>
      (s.emPut t.wide ⟨b, row, k⟩
        { static := bitOf x.flags 1, hit := true, clear := false, table := x.space, stamp := (s.exmTable x.space).clock, payload := new },
        none, some new, true)
    | _, _ => (s, none, none, false)

/-- The rows that a change of a cut writes in some quadrants. -/
def State.changeRow (s : State) (quads : List Nat) (x : CutChange) : State :=
  let r := tcEntry x.body
  if x.opcode = oTcWriteRow then s.putRow quads x.index r
  else
    match x.place with
    | none => s
    | some (n, _, _) =>
      if x.opcode = oTcDelete then s.delRow quads n
      else s.forAll quads fun s q => (s.row q n).elim s fun old => s.putRow [q] n { old with action := r.action, prio := r.prio }

/-- One change of a cut in the tables alone, as a lookup sees it from the cut store (R296); quadrants that take no part are left out (R298). -/
def State.viewChange (s : State) (missed : List Nat) (x : CutChange) : State :=
  if x.opcode ≤ oEmRead then (SMap.find s.layers.tables x.space).elim s fun t => (s.changeEntry t x).1
  else if x.opcode ≤ oTcReadRow then s.changeRow ((s.regionQuads x.quad x.space).filter fun q => !missed.contains q) x
  else s.objStore x.space x.index x.body

/-- What a cut's object held stays for the frames looked up before T_x (R295); a next hop, group, LAG, meter or filter is read at the lookup alone (Table 10.6). -/
def State.keepOld (s : State) (uid kind i : Nat) : State :=
  if kind = 4 ∨ kind = 5 ∨ kind = 6 then
    let o : OldObj :=
      { order := s.tue.applied, uid := uid, kind := kind, index := i, value := s.obj kind i,
        windows := if kind = 6 then (List.range 4).map fun q => (q, s.window i q) else [] }
    { s with tue := { s.tue with olds := s.tue.olds ++ [o] } }
  else s

/-- Write one change of a cut into the tables, with what the write counts and abandons (R285, R296, R298). -/
def State.applyChange (s : State) (uid : Nat) (missed : List Nat) (x : CutChange) : State :=
  if x.opcode ≤ oEmRead then
    match SMap.find s.layers.tables x.space with
    | none => s
    | some t =>
      let r := s.changeEntry t x
      let s := r.1.learnDelta t r.2.1 r.2.2.1
      if r.2.2.2 then s.countInsert x.space (bitOf x.ageEn x.space) else s
  else if x.opcode ≤ oTcReadRow then
    let quads := (s.regionQuads x.quad x.space).filter fun q => !missed.contains q
    (s.changeRow quads x).forAll quads fun s q => s.tcmFree q x.space
  else
    let s := (s.keepOld uid x.space x.index).objStore x.space x.index x.body
    let s := if x.space = 6 then x.windows.foldl (fun s w => s.withWindow x.index w.1 w.2) s else s
    if x.space = 5 then s.epochAbort x.index else s

/-- All the changes of a cut. -/
def State.applyCut (s : State) (c : Cut) : State := s.forAll c.changes fun s x => s.applyChange c.uid c.missed x

/-- The tables as a frame sees them that a cut's changes reach early (R292, R293). -/
def State.viewCut (s : State) (c : Cut) : State := s.forAll c.changes fun s x => s.viewChange c.missed x

/-- Where two maps agreed before and after the changes, what a lookup left stands; elsewhere what stood before them. -/
def SMap.unchange {α : Type} [DecidableEq α] (before changed after : SMap α) : SMap α :=
  let keys := ((before.map (·.1)) ++ changed.map (·.1)).eraseDups.filter fun k => decide (SMap.find before k ≠ SMap.find changed k)
  keys.foldl (fun m k => SMap.set m k (SMap.find before k)) after

/-- The tables after a lookup that saw a cut's changes early: the changes themselves are not yet in them (R292, R293). -/
def State.unview (before changed after : State) : State :=
  { after with
    exm := { after.exm with slots := SMap.unchange before.exm.slots changed.exm.slots after.exm.slots }
    tcam := { after.tcam with rows := SMap.unchange before.tcam.rows changed.tcam.rows after.tcam.rows }
    tables :=
      { objs := SMap.unchange before.tables.objs changed.tables.objs after.tables.objs
        windows := SMap.unchange before.tables.windows changed.tables.windows after.tables.windows
        meterAt := SMap.unchange before.tables.meterAt changed.tables.meterAt after.tables.meterAt } }

end Sys2Proof.Machine
end

