-- ==== Sys2Proof/Machine/Cuts.lean ====
section
/-! DEFINITION. Timed cuts in time: the store, T_x, and the change of state at T_x (R291 to R299, R337). -/

namespace Sys2Proof.Machine

/-- PTP time in quarter ns, as every tile's replica holds it. -/
def State.nowQ (s : State) : Nat := s.time.master / (unitNs / 4)

/-! ## The store -/

/-- A cut, none where its ID is free. -/
def State.cut (s : State) (n : Nat) : Option Cut := SMap.find s.tue.cuts n

/-- TUE_CUT_STATUS as the cut stands. -/
def State.cutMirror (s : State) (n : Nat) : State :=
  let c : Cut := (s.cut n).getD default
  let watch := c.mode != 0 && decide (2 ≤ c.state)
  ((((s.set F.TUE_CUT_STATUS_STATE n c.state).set F.TUE_CUT_STATUS_MODE n c.mode).set F.TUE_CUT_STATUS_CHANGES n c.changes.length).set
    F.TUE_CUT_STATUS_WATCH_TILE n (if watch then tileOf c.watch else 0)).set F.TUE_CUT_STATUS_WATCH_PORT n (if watch then c.watch else 0)

/-- Store a cut or free its ID. -/
def State.withCut (s : State) (n : Nat) (c : Option Cut) : State :=
  { s with tue := { s.tue with cuts := SMap.set s.tue.cuts n c } }.cutMirror n

/-! ## T_x (R291 to R293) -/

/-- PTP time in quarter ns of an elapsed time in 0.2 ns, as the two run now; rounded up. -/
def State.ptpAt (s : State) (e : Nat) : Nat := ((s.nowQ : Int) + (4 * ((e : Int) - s.elapsed) + 4) / 5).toNat

/-- t_g of an AT_GAP cut if no further lookup comes: GAP_NS of elapsed time after the last lookup, and never before T (R293, R337). -/
def State.gapAt (s : State) (c : Cut) : Nat := max c.t (s.ptpAt (c.lastLook + nsUnits c.gapNs))

/-- The end of a cut's watch in quarter ns. -/
def Cut.waitEnd (c : Cut) : Nat := c.t + 4 * c.waitNs

/-- A gap has been found: it completes by the end of the watch, and has completed (R127, R293). -/
def State.gapFound (s : State) (c : Cut) : Bool := c.mode == 2 && decide (s.gapAt c ≤ c.waitEnd) && decide (s.gapAt c ≤ s.nowQ)

/-- The watch has ended with neither marker nor gap (R127, R292, R293). -/
def State.watchOver (s : State) (c : Cut) : Bool := c.mode != 0 && decide (c.waitEnd ≤ s.nowQ) && !(c.mode == 2 && decide (s.gapAt c ≤ c.waitEnd))

/-- An armed cut once time alone has fixed its T_x: 20 ns after the gap, or the end of the watch; an AT_MARKER watch is open to the frames of its last instant while `last` is set (R127, R292). -/
def State.cutFixed (s : State) (c : Cut) (last : Bool) : Cut :=
  if c.state ≠ 2 ∨ c.tx.isSome then c
  else if s.gapFound c then { c with tx := some (s.gapAt c + 80) }
  else if s.watchOver c && !(last && c.mode == 1 && c.waitEnd == s.nowQ) then { c with tx := some c.waitEnd, waitExpired := true }
  else c

/-- Every armed cut's T_x, where time alone has fixed it. -/
def State.cutsFix (s : State) (last : Bool) : State :=
  { s with tue := { s.tue with cuts := s.tue.cuts.map fun e => (e.1, s.cutFixed e.2 last) } }

/-! ## At T_x (R295 to R299) -/

/-- A quadrant takes no part in a cut: in reset, quiesced, or all its tiles fenced (R298). -/
def State.cutMisses (s : State) (q : Nat) : Bool := s.quadOut q || s.quadFenced q

/-- An armed cut's T_x has come. -/
def State.cutReached (s : State) (c : Cut) : Bool := c.state == 2 && c.tx.any fun t => decide (t ≤ s.nowQ)

/-- One cut takes effect in every quadrant that takes part (R295, R296, R298); what no frame in flight can still read of the contents before earlier cuts is let go. -/
def State.cutNow (s : State) (n : Nat) (c : Cut) : State :=
  let missed := (List.range 4).filter s.cutMisses
  let c := { c with state := 3, missed := missed, isPartial := !missed.isEmpty }
  let oldest := (s.path.crossing.map (·.frame.cutsSeen) ++ s.path.bufs.map (·.2.frame.cutsSeen)).min?.getD s.tue.applied
  let s := { s with tue := { s.tue with olds := s.tue.olds.filter fun o => decide (oldest ≤ o.order) } }
  let s := (s.applyCut c).withCut n (some c)
  let s := { s with tue := { s.tue with applied := s.tue.applied + 1 } }.count F.TUE_CNT_COUNT 2 1
  if c.isPartial then s.evC F.TUE_EVENT_CUT_PARTIAL 0 else s

/-- Some cuts take effect together (R299). -/
def State.cutsNow (s : State) (l : List (Nat × Cut)) : State := s.forAll l fun s e => s.cutNow e.1 e.2

/-- Every cut whose T_x has come is in force, whether or not it has been written: before a lookup, and before a step of the time (R295, R296, R337). -/
def State.cutsDue (s : State) (last : Bool) : State :=
  let s := s.cutsFix last
  s.cutsNow (s.tue.cuts.filter fun e => s.cutReached e.2)

end Sys2Proof.Machine
end

