-- ==== Sys2Proof/Machine/Dealer.lean ====
section
/-! DEFINITION. The dealing of frames to rewrite engines, new ones and restarted ones (R406, R408, R418, R493). -/

namespace Sys2Proof.Machine

/-- Routines that hold an engine of a cluster. -/
def State.enginesBusy (s : State) (t k : Nat) : Nat :=
  ((s.portsOf t).flatMap fun p => (s.live p).rewriting.filter fun r => r.cluster == k && !r.waiting).length

/-- Cluster k of a tile takes frames: in service, not fenced nor about to be, not reloading (R406, R420). -/
def State.clusterUp (s : State) (t k : Nat) : Bool :=
  !s.sundew.fencing.contains (srcTile t (8 + k), 0) && bitOf (s.get F.RWE_STATUS_IN_SERVICE t) k && !bitOf (s.get F.RWE_STATUS_FENCED t) k && !bitOf (s.get F.RWE_STATUS_RELOADING t) k

/-- The next cluster in rotation with a free engine, `not` left out. -/
def State.nextCluster (s : State) (t : Nat) (not : Option Nat) : Option Nat :=
  let last := SMap.findD s.path.cluster t 5
  ((List.range 6).map fun k => (last + 1 + k) % 6).find? fun k => s.clusterUp t k && not != some k && decide (s.enginesBusy t k < 16)

/-- A frame has waited at the dealer until now (R408). -/
def State.waitedNow (s : State) (t : Nat) : State := { s with path := { s.path with waited := SMap.put s.path.waited t s.elapsed } }

/-- No engine is free: the frame waits at the dealer (R408). -/
def State.underRate (s : State) (t : Nat) : State := (s.waitedNow t).evT F.RWE_EVENT_UNDER_RATE t

/-- A new frame of the tile waits at the dealer. -/
def State.dealerBusy (s : State) (t : Nat) : Bool := (s.portsOf t).any fun p => (s.live p).rewriting.any fun r => r.waiting && !r.abandoned

/-- UNDER_RATE: a frame waits at the dealer because no engine was free, or has waited in the last 1 µs (R408, RWE_STATUS). -/
def State.underRateNow (s : State) (t : Nat) : Bool :=
  ((s.portsOf t).any fun p => (s.live p).rewriting.any (·.held)) || (SMap.find s.path.waited t).any fun w => decide (s.elapsed ≤ w + nsUnits 1000)

/-- A restarted routine gets an engine: the reaction of a report-only cluster ends unless its store is reloading (R493). -/
def State.restarted (s : State) (t k : Nat) : State :=
  let src := srcTile t (8 + k)
  if s.fencePolicy src 0 || bitOf (s.get F.RWE_STATUS_RELOADING t) k then s else s.reacted src 0

/-- A routine that was abandoned on cluster k waits for its restart. -/
def State.awaitsRestart (s : State) (t k : Nat) : Bool :=
  (s.portsOf t).any fun p => (s.live p).rewriting.any fun r => r.waiting && r.abandoned && r.cluster == k

/-- The waiting frame that a port dequeued as number `order` gets an engine, an abandoned routine one of another cluster; a routine that a parameter write has restarted reads its entry again, and no later write abandons it (R406, R418, R419). -/
def State.dealTo (s : State) (order p : Nat) : State :=
  let t := p / 16
  let l := (s.live p).rewriting
  match l.findIdx? fun r => r.waiting && r.order == order with
  | none => s
  | some i =>
    let old := l.getD i default
    match s.nextCluster t (if old.abandoned then some old.cluster else none) with
    | none => (s.withLive p fun x => { x with rewriting := l.take i ++ [{ old with held := true }] ++ l.drop (i + 1) }).underRate t
    | some k =>
      let content := if old.content.isSome then (s.buf old.entry.buf).map fun b => s.paramFor t old.entry.param b.frame else none
      let r := { old with waiting := false, abandoned := false, held := false, cluster := k, content := content }
      let s := s.withLive p fun x => { x with rewriting := l.take i ++ [r] ++ l.drop (i + 1) }
      let s := { s with path := { s.path with cluster := SMap.put s.path.cluster t k } }
      let s := s.when old.held fun s => s.waitedNow t
      if old.abandoned then s.restarted t old.cluster else s

/-- Insert by the first component. -/
def insertFirst (x : Nat × Nat) : List (Nat × Nat) → List (Nat × Nat)
  | [] => [x]
  | y :: l => if x.1 < y.1 then x :: y :: l else y :: insertFirst x l

/-- Waiting frames of a tile, restarted or new, each with its port, in the order of their dequeues. -/
def State.dealOrder (s : State) (t : Nat) (restarted : Bool) : List (Nat × Nat) :=
  ((s.portsOf t).flatMap fun p => ((s.live p).rewriting.filter fun r => r.waiting && r.abandoned == restarted).map fun r => (r.order, p)).foldr insertFirst []

/-- The dealer serves the frames that wait: restarted ones ahead of new ones (R406). -/
def State.dealNext (s : State) (t : Nat) : State := s.forAll (s.dealOrder t true ++ s.dealOrder t false) fun s x => s.dealTo x.1 x.2

end Sys2Proof.Machine
end

