-- ==== Sys2Proof/Machine/Elytra.lean ====
section
/-! DEFINITION. Elytra: secure channels, key slots, protection and validation (chapter 16). -/

namespace Sys2Proof.Machine

/-! ## Slots and their ports (R433, R434) -/

/-- State of a key slot beside its registers. -/
def State.slot (s : State) (n : Nat) : KeySlot := SMap.findD s.keys n default

/-- Change a key slot. -/
def State.withSlot (s : State) (n : Nat) (f : KeySlot → KeySlot) : State := { s with keys := SMap.modify s.keys n default f }

/-- The partition that holds a slot. -/
def Layers.partition (l : Layers) (n : Nat) : Option PartitionCfg := l.secure.find? fun p => decide (p.first ≤ n ∧ n < p.first + p.count)

/-- A port names its slots once its two slot fields differ, as every accepted write leaves them (R433; log 26). -/
def State.namesSlots (s : State) (p : Nat) : Bool := s.get F.PRT_SEC_CFG_TX_SLOT p != s.get F.PRT_SEC_CFG_RX_SLOT p

/-- The port that names a slot, and whether as its receive slot. -/
def State.slotPort (s : State) (n : Nat) : Option (Nat × Bool) :=
  s.allPorts.findSome? fun p =>
    if s.namesSlots p = false then none
    else if s.get F.PRT_SEC_CFG_TX_SLOT p = n then some (p, false)
    else if s.get F.PRT_SEC_CFG_RX_SLOT p = n then some (p, true)
    else none

/-- ELY_SLOT_ACT_PN: of a receive slot the highest accepted PN, else the next PN; of a slot that no port names the latter (R434; log 26). -/
def State.actPn (s : State) (n : Nat) : Nat := if (s.slotPort n).any (·.2) then (s.slot n).active.high else (s.slot n).active.pn

/-- A slot register write: ignored outside every partition, refused where the partition belongs to another tile than the slot's port (R47). -/
def State.slotWrite (s : State) (n master : Nat) (f : State → State) : State :=
  match s.layers.partition n with
  | none => s
  | some c => if (s.slotPort n).any fun x => decide (x.1 / 16 ≠ c.tile) then s.claimErr 7 n master else f s

/-- An empty half. -/
def Half.empty : Half := { valid := false, suite := 0, an := 0, key := 0, pn := 0, high := 0, ssci := 0, salt := 0 }

/-- The staged half as the registers and the key words hold it. -/
def State.stagedHalf (s : State) (n : Nat) : Half :=
  { valid := true, suite := s.get F.ELY_SLOT_STG_CFG_SUITE n, an := s.get F.ELY_SLOT_STG_CFG_AN n, key := (s.slot n).stagedKey,
    pn := s.get F.ELY_SLOT_STG_PN_PN n, high := 0,
    ssci := s.get F.ELY_SLOT_STG_SALT_HI_SSCI n,
    salt := s.get F.ELY_SLOT_STG_SALT_HI_SALT_HI n * 2 ^ 64 + s.get F.ELY_SLOT_STG_SALT_LO_SALT_LO n }

/-- Empty the staged half (R443, R444). -/
def State.clearStaged (s : State) (n : Nat) : State :=
  ([F.ELY_SLOT_STG_CFG_SUITE, F.ELY_SLOT_STG_CFG_AN, F.ELY_SLOT_STG_CFG_READY, F.ELY_SLOT_STG_PN_PN, F.ELY_SLOT_STG_SALT_HI_SSCI,
      F.ELY_SLOT_STG_SALT_HI_SALT_HI, F.ELY_SLOT_STG_SALT_LO_SALT_LO].foldl (fun s f => s.set f n 0) s).withSlot n fun k =>
    { k with stagedKey := 0, written := 0 }

/-- A channel is between frames: nothing on the wire, or nothing arriving (R443). -/
def State.channelIdle (s : State) (p : Nat) (rx : Bool) : Bool :=
  !s.on F.PRT_STATUS_LINK_UP p ||
    (if rx then !((SMap.findD s.path.staging p []).any fun f => decide (s.elapsed < f.endAt)) else (s.live p).wire.isEmpty)

/-- Nothing passes under a slot now. -/
def State.slotIdle (s : State) (n : Nat) : Bool := (s.slotPort n).all fun x => s.channelIdle x.1 x.2

/-- The staged half becomes the active half (R443); the old key's material is then erased (R445). -/
def State.swapNow (s : State) (n : Nat) : State :=
  let port := s.slotPort n
  let old := (s.slot n).active.valid
  let half := s.stagedHalf n
  let s := (s.clearStaged n).withSlot n fun k => { k with active := half, soft := false, zeroing := false }
  let s := ((s.set F.ELY_SLOT_STATUS_SWAP_PENDING n 0).set F.ELY_SLOT_STATUS_SOFT n 0).set F.ELY_SLOT_STATUS_HARD n 0
  let s := if old then s.set F.ELY_SLOT_STATUS_ERASING n 1 else s
  match port with
  | some (p, true) => s.evSec F.PRT_SEC_EVENT_SWAPPED_RX p
  | some (p, false) => s.evSec F.PRT_SEC_EVENT_SWAPPED_TX p
  | none => s

/-- The active half is invalid from now, and its SOFT and HARD with it (R444; log 91). -/
def State.zeroizeNow (s : State) (n : Nat) : State :=
  let old := (s.slot n).active.valid
  let s := s.withSlot n fun k => { k with active := Half.empty, soft := false, zeroing := false }
  let s := (s.set F.ELY_SLOT_STATUS_SOFT n 0).set F.ELY_SLOT_STATUS_HARD n 0
  if old then s.set F.ELY_SLOT_STATUS_ERASING n 1 else s

/-- A frame boundary of a slot's channel: a ZEROIZE takes effect, then a swap that has been asked for since (R443, R444, Table 16.3). -/
def State.slotBoundary (s : State) (n : Nat) : State :=
  let s := s.when (s.slot n).zeroing fun s => s.zeroizeNow n
  s.when (s.on F.ELY_SLOT_STATUS_SWAP_PENDING n) fun s => s.swapNow n

/-- SWAP (R443). -/
def State.slotSwap (s : State) (n : Nat) : State :=
  if s.on F.ELY_SLOT_STG_CFG_READY n = false then s.set F.ELY_SLOT_STATUS_WRITE_ERR n 1
  else
    let s := s.set F.ELY_SLOT_STATUS_SWAP_PENDING n 1
    if s.slotIdle n then s.slotBoundary n else s

/-- ZEROIZE: the staged half is cleared at once, its key material with it (R444, R445). -/
def State.slotZeroize (s : State) (n : Nat) : State :=
  let s := if (s.slot n).written = 0 then s else s.set F.ELY_SLOT_STATUS_ERASING n 1
  let s := ((s.clearStaged n).set F.ELY_SLOT_STATUS_SWAP_PENDING n 0).withSlot n fun k => { k with zeroing := true }
  if s.slotIdle n then s.slotBoundary n else s

/-- CLEAR_STAGED (R444); it counts as a staged write, which is ignored while a swap is pending (Table 16.3; log 91). -/
def State.slotClearStaged (s : State) (n : Nat) : State :=
  if s.on F.ELY_SLOT_STATUS_SWAP_PENDING n then s.set F.ELY_SLOT_STATUS_WRITE_ERR n 1 else s.clearStaged n

/-- A write of a staged field: READY clears; ignored while a swap is pending (R436, Table 16.3). -/
def State.stagedWrite (s : State) (n : Nat) (f : State → State) : State :=
  if s.on F.ELY_SLOT_STATUS_SWAP_PENDING n then s.set F.ELY_SLOT_STATUS_WRITE_ERR n 1
  else (f s).set F.ELY_SLOT_STG_CFG_READY n 0

/-- Key word k of the staged half: bits [255 - 64k : 192 - 64k] (R435). -/
def State.stgKeyWrite (s : State) (n k v : Nat) : State :=
  s.stagedWrite n fun s => s.withSlot n fun x => { x with stagedKey := putBits x.stagedKey (192 - 64 * k) 64 v, written := orN x.written (2 ^ k) }

/-- Key words a suite requires (Table 16.1). -/
def suiteWords (suite : Nat) : Nat := if suite % 2 = 0 then 3 else 15

/-- ELY_SLOT_STG_CFG write (R436). -/
def State.stgCfgWrite (s : State) (n v : Nat) : State :=
  let suite := bits v 0 2
  if bitOf v 4 then
    if (s.slot n).written &&& suiteWords suite ≠ suiteWords suite ∨ s.get F.ELY_SLOT_STG_PN_PN n = 0 ∨ s.on F.ELY_SLOT_STATUS_SWAP_PENDING n then
      s.set F.ELY_SLOT_STATUS_WRITE_ERR n 1
    else ((s.set F.ELY_SLOT_STG_CFG_SUITE n suite).set F.ELY_SLOT_STG_CFG_AN n (bits v 2 2)).set F.ELY_SLOT_STG_CFG_READY n 1
  else s.stagedWrite n fun s => (s.set F.ELY_SLOT_STG_CFG_SUITE n suite).set F.ELY_SLOT_STG_CFG_AN n (bits v 2 2)

/-! ## Channel configuration (R433, R448) -/

/-- A slot lies in a partition of a tile. -/
def State.slotOfTile (s : State) (n t : Nat) : Bool := (s.layers.partition n).any fun c => c.tile == t

/-- PRT_SEC_CFG write by a master (R433, R47). -/
def State.secCfgWrite (s : State) (p v master : Nat) : State :=
  if s.isPort p = false then s
  else
    let t := p / 16
    let tx := bits v 6 13
    let rx := bits v 19 13
    let other (n : Nat) : Bool := (s.slotPort n).any fun x => x.1 != p
    let changed (en slot : Field) (n : Nat) : Bool := s.on en p && s.get slot p != n
    let owns := s.layers.secure.any fun c => c.tile == t
    let bad := tx == rx || other tx || other rx || changed F.PRT_SEC_CFG_TX_EN F.PRT_SEC_CFG_TX_SLOT tx ||
      changed F.PRT_SEC_CFG_RX_EN F.PRT_SEC_CFG_RX_SLOT rx || (!owns && bits v 0 2 != 0)
    let s := if bad then s.evSec F.PRT_SEC_EVENT_CFG_ERR p else s
    let outside := [tx, rx].find? fun n => !s.slotOfTile n t
    match outside with
    | some n => s.claimErr 7 n master
    | none =>
      if bad then s
      else
        R.PRT_SEC_CFG.fields.foldl (fun s f =>
          if f = F.PRT_SEC_CFG_CONF_OFFSET ∧ bits v 4 2 = 3 then s else s.set f p (bits v f.lsb f.width)) s

/-- A change of TX_EN or RX_EN takes effect (R448). -/
def State.secSwitch (s : State) (p : Nat) : State :=
  s.withLive p fun l => { l with secTx := s.on F.PRT_SEC_CFG_TX_EN p, secRx := s.on F.PRT_SEC_CFG_RX_EN p }

/-! ## Cipher inputs (R429 to R431) -/

/-- A list cut or filled with zeros to a length. -/
def fit (n : Nat) (l : List Byte) : List Byte := (l ++ List.replicate n 0).take n

/-- Extended packet numbers (Table 16.1). -/
def Half.xpn (h : Half) : Bool := decide (2 ≤ h.suite)

/-- Largest PN of the half's suite (R439). -/
def Half.maxPn (h : Half) : Nat := if h.xpn then 2 ^ 64 - 1 else 2 ^ 32 - 1

/-- Key bytes of the suite. -/
def Half.keyBytes (h : Half) : List Byte := if h.suite % 2 = 0 then beBytes (h.key / 2 ^ 128) 16 else beBytes h.key 32

/-- The nonce: SCI and PN, or SSCI and PN under the salt (IEEE 802.1AE; log 27). -/
def Half.nonce (h : Half) (sci pn : Nat) : List Byte :=
  if h.xpn then beBytes ((h.ssci * 2 ^ 64 + pn) ^^^ h.salt) 12 else beBytes (sci * 2 ^ 32 + pn % 2 ^ 32) 12

/-- Confidentiality offset of a port in bytes (R431). -/
def State.confOffset (s : State) (p : Nat) : Nat :=
  let c := s.get F.PRT_SEC_CFG_CONF_OFFSET p
  if c = 1 then 30 else if c = 2 then 50 else 0

/-- The soft limit of a port for a half (PRT_SEC_LIMIT). -/
def State.softLimit (s : State) (p : Nat) (h : Half) : Nat :=
  let n := s.get F.PRT_SEC_LIMIT_SOFT_PN p
  if n ≠ 0 then n else if h.xpn then 0xC000000000000000 else 0xC0000000

/-- The EtherType that follows the source address. -/
def etherType (bs : List Byte) : Nat := be bs 12 2

/-! ## Transmit (R437 to R439) -/

/-- What the transmit lane does with a frame. -/
inductive SecTx where
  /-- The frame leaves the lane, with what PRT_SEC_CNT then counts. -/
  | send (bytes : List Byte) (counts : List (Nat × Nat))
  /-- Discarded as PN_EXHAUSTED. -/
  | exhausted
  deriving DecidableEq, Repr

/-- The SecTAG of a frame with n protected bytes (R430). -/
def secTag (sciOn : Bool) (an sci pn n : Nat) : List Byte :=
  beBytes 0x88E5 2 ++ beBytes (b2n sciOn * 32 + 12 + an % 4) 1 ++ beBytes (if n < 48 then n else 0) 1 ++ beBytes (pn % 2 ^ 32) 4 ++
    (if sciOn then beBytes sci 8 else [])

/-- Seal a frame under a half. -/
def State.seal (s : State) (p : Nat) (h : Half) (pn : Nat) (bs : List Byte) : List Byte :=
  let data := bs.drop 12
  let off := min (s.confOffset p) data.length
  let sci := s.get F.PRT_SEC_SCI_SCI p
  let head := bs.take 12 ++ secTag (s.on F.PRT_SEC_CFG_TX_SCI p) h.an sci pn data.length ++ data.take off
  head ++ fit (data.length - off + 16) (Config.gcmSeal h.keyBytes (h.nonce sci pn) head (data.drop off))

/-- A frame boundary of a port's channel, before its next frame: an enable that has changed, a swap and a ZEROIZE take effect (R443, R444, R448). -/
def State.secBoundary (s : State) (p : Nat) (rx : Bool) : State :=
  let s := s.withLive p fun l =>
    if rx then { l with secRx := s.on F.PRT_SEC_CFG_RX_EN p } else { l with secTx := s.on F.PRT_SEC_CFG_TX_EN p }
  s.when (s.namesSlots p) fun s => s.slotBoundary (s.get (if rx then F.PRT_SEC_CFG_RX_SLOT else F.PRT_SEC_CFG_TX_SLOT) p)

/-- The transmit lane of a port with its channel enabled; the frame on which a slot swaps raises no soft limit (R437 to R439, Table 16.3). -/
def State.secTransmit (s : State) (p : Nat) (bs : List Byte) : SecTx × State :=
  if (s.live p).secTx = false then (.send bs [], s)
  else if etherType bs = 0x888E then (.send bs [(2, 1)], s)
  else
    let n := s.get F.PRT_SEC_CFG_TX_SLOT p
    let spent (s : State) : Bool := decide ((s.slot n).active.maxPn < (s.slot n).active.pn)
    let swaps := (s.slot n).active.valid && spent s && s.on F.PRT_SEC_CFG_TX_AUTO_SWAP p && s.on F.ELY_SLOT_STG_CFG_READY n
    let s := if swaps then s.swapNow n else s
    let h := (s.slot n).active
    if h.valid = false then (.exhausted, s.count F.PRT_SEC_CNT_COUNT (13 * p + 3) 1)
    else if spent s then
      let s := if s.on F.ELY_SLOT_STATUS_HARD n then s else (s.set F.ELY_SLOT_STATUS_HARD n 1).evSec F.PRT_SEC_EVENT_PN_EXHAUSTED p
      (.exhausted, s.count F.PRT_SEC_CNT_COUNT (13 * p + 3) 1)
    else
      let out := s.seal p h h.pn bs
      let passed := decide (s.softLimit p h < h.pn + 1) && !(s.slot n).soft && !swaps
      let s := s.withSlot n fun k => { k with active := { k.active with pn := h.pn + 1 }, soft := k.soft || passed }
      let s := if passed then (s.set F.ELY_SLOT_STATUS_SOFT n 1).evSec F.PRT_SEC_EVENT_REKEY_REQ_TX p else s
      (.send out [(0, 1), (1, out.length + 4)], s)

/-! ## Receive (R440 to R442) -/

/-- The full PN of a frame: for XPN recovered from its low 32 bits against the half's highest accepted, of a staged half, which has accepted none, against its STG_PN (R440; log 27). -/
def Half.recover (h : Half) (active : Bool) (low : Nat) : Nat :=
  if h.xpn = false then low
  else
    let top := if active then h.high else h.pn
    let up := top / 2 ^ 32
    let ref := top % 2 ^ 32
    if low < ref ∧ low / 2 ^ 31 ≠ ref / 2 ^ 31 then (up + 1) * 2 ^ 32 + low else up * 2 ^ 32 + low

/-- The lowest acceptable PN of a half, active or staged (R440). -/
def Half.lowest (h : Half) (active : Bool) (window : Nat) : Nat := if active then max 1 (h.high - window) else h.pn

/-- SL agrees with the n bytes between SecTAG and ICV, padding of a short frame included (step 2; log 27). -/
def slOk (sl n frame : Nat) : Bool :=
  if sl = 0 then decide (48 ≤ n) else decide (sl < 48) && decide (sl ≤ n) && (sl == n || decide (frame ≤ 60))

/-- What the receive lane makes of a frame: the plaintext frame, or none where it is discarded as SEC_AUTH_FAIL. -/
def State.secReceive (s : State) (p mtu : Nat) (bs : List Byte) : Option (List Byte) × State :=
  let cnt (s : State) (k : Nat) : State := s.count F.PRT_SEC_CNT_COUNT (13 * p + k) 1
  if etherType bs ≠ 0x88E5 then
    if etherType bs = 0x888E then (some bs, cnt s 11) else (none, cnt s 9)
  else
    let tci := be bs 14 1
    let sc := bitOf tci 5
    let tag := if sc then 16 else 8
    let n := bs.length - 12 - tag - 16
    let sl := be bs 15 1
    if bitOf tci 7 ∨ bitOf tci 3 = false ∨ bitOf tci 2 = false ∨ (bitOf tci 6 ∧ sc) ∨ bs.length < 12 + tag + 16 ∨ slOk sl n bs.length = false then
      (none, cnt s 10)
    else
      let slot := s.get F.PRT_SEC_CFG_RX_SLOT p
      let act := (s.slot slot).active
      let isAct := act.valid && act.an == tci % 4
      let isStg := s.on F.ELY_SLOT_STG_CFG_READY slot && s.get F.ELY_SLOT_STG_CFG_AN slot == tci % 4
      if (sc ∧ be bs 20 8 ≠ s.get F.PRT_SEC_PEER_SCI_SCI p) ∨ (isAct = false ∧ isStg = false) then (none, cnt s 7)
      else
        let h := if isAct then act else s.stagedHalf slot
        let pn := h.recover isAct (be bs 16 4)
        if pn = 0 ∨ pn < h.lowest isAct (s.get F.PRT_SEC_CFG_REPLAY_WINDOW p) then (none, cnt s 8)
        else
          let len := if sl = 0 then n else sl
          let data := slice bs (12 + tag) (len + 16)
          let off := min (s.confOffset p) len
          let sci := if sc then be bs 20 8 else s.get F.PRT_SEC_PEER_SCI_SCI p
          match Config.gcmOpen h.keyBytes (h.nonce sci pn) (bs.take (12 + tag) ++ data.take off) (data.drop off) with
          | none => (none, (cnt s 6).evSec F.PRT_SEC_EVENT_AUTH_FAIL p)
          | some plain =>
            if mtu < 12 + len + 4 then (none, cnt s 12)
            else
              let s := if isAct then s else s.swapNow slot
              let top := max (s.slot slot).active.high pn
              let passed := decide (s.softLimit p h < top) && !(s.slot slot).soft && isAct
              let s := s.withSlot slot fun k => { k with active := { k.active with high := top }, soft := k.soft || passed }
              let s := if passed then s.evSec F.PRT_SEC_EVENT_REKEY_REQ_RX p else s
              (some (bs.take 12 ++ data.take off ++ fit (len - off) plain), (cnt s 4).count F.PRT_SEC_CNT_COUNT (13 * p + 5) (bs.length + 4))

/-- Lane k of a port detects a cipher fault in a frame: reported, with the lane's policy (R451, R486). -/
def State.laneFault (s : State) (p k : Nat) : State :=
  let lane := (p + k) % 16
  (s.evSec F.PRT_SEC_EVENT_LANE_FAULT p).unitFault (srcTile (p / 16) 3) lane kCheck (0x80 + p / 16) 5 lane

/-- A slot is cleared, both halves (R446, R451). -/
def State.clearSlot (s : State) (n : Nat) : State :=
  let s := s.clearStaged n
  let s := [F.ELY_SLOT_STATUS_SWAP_PENDING, F.ELY_SLOT_STATUS_ERASING, F.ELY_SLOT_STATUS_SOFT, F.ELY_SLOT_STATUS_HARD].foldl
    (fun s f => s.set f n 0) s
  { s with keys := SMap.del s.keys n }

/-- Every slot of the partitions of the tiles that satisfy a test is cleared (R446). -/
def State.clearSlots (s : State) (p : Nat → Bool) : State :=
  s.forAll (s.layers.secure.flatMap fun c => if p c.tile then List.range' c.first c.count else []) State.clearSlot

/-! ## The commands -/

/-- SLOT_SWAP (R443). -/
def execSlotSwap (n : Nat) (s : State) : Host.Outcome State Fault Refusal :=
  .next (s.when (s.up && decide (n < 8192)) fun s => s.slotWrite n 0 fun s => s.slotSwap n)

/-- SWAP_TAKES_EFFECT (R443, R444). -/
def execSwapTakesEffect (n : Nat) (s : State) : Host.Outcome State Fault Refusal :=
  .next (s.when (s.up && decide (n < 8192)) fun s => s.slotBoundary n)

/-- SLOT_ZEROIZE (R444). -/
def execSlotZeroize (n : Nat) (s : State) : Host.Outcome State Fault Refusal :=
  .next (s.when (s.up && decide (n < 8192)) fun s => s.slotWrite n 0 fun s => s.slotZeroize n)

/-- SLOT_CLEAR_STAGED (R444). -/
def execSlotClearStaged (n : Nat) (s : State) : Host.Outcome State Fault Refusal :=
  .next (s.when (s.up && decide (n < 8192)) fun s => s.slotWrite n 0 fun s => s.slotClearStaged n)

/-- KEY_ERASED: the retired material is gone (R445). -/
def execKeyErased (n : Nat) (s : State) : Host.Outcome State Fault Refusal :=
  .next (s.when (s.up && decide (n < 8192) && s.on F.ELY_SLOT_STATUS_ERASING n) fun s => s.set F.ELY_SLOT_STATUS_ERASING n 0)

/-- STG_CFG_WRITE (R436). -/
def execStgCfgWrite (n v : Nat) (s : State) : Host.Outcome State Fault Refusal :=
  .next (s.when (s.up && decide (n < 8192)) fun s => s.slotWrite n 0 fun s => s.stgCfgWrite n v)

/-- PRT_SEC_CFG_WRITE (R433). -/
def execPrtSecCfgWrite (p v : Nat) (s : State) : Host.Outcome State Fault Refusal := .next (s.when (s.tileReach (tileOf p)) fun s => s.secCfgWrite p v 0)

/-- SEC_CHANNEL_SWITCH (R448). -/
def execSecChannelSwitch (p : Nat) (s : State) : Host.Outcome State Fault Refusal :=
  .next (s.when (s.up && s.isPort p) fun s => s.secSwitch p)

/-- ENTROPY_HEALTH_FAIL (R450); the report's KIND, master and access type are the model's (log 28). -/
def execEntropyHealthFail (s : State) : Host.Outcome State Fault Refusal :=
  .next (s.when s.up fun s => ((s.set F.TOP_ENTROPY_HEALTH_OK 0 0).evC F.TOP_ENTROPY_FAIL 0).report 0x00A kCheck 0x04 0 0)

/-- DRBG_RESEED: taken from a healthy source, or missed (R450). -/
def execDrbgReseed (taken : Bool) (s : State) : Host.Outcome State Fault Refusal :=
  .next (s.when s.up fun s => s.set F.TOP_ENTROPY_STALE 0 (b2n !(taken && s.on F.TOP_ENTROPY_HEALTH_OK 0)))

end Sys2Proof.Machine
end

