-- ==== Sys2Proof/Machine/Ports.lean ====
section
/-! DEFINITION. Links, link hold, loopback and sent pauses (chapter 5). -/

namespace Sys2Proof.Machine

/-! ## What a link needs (R133, R170, R171, R175) -/

/-- Lanes of a port. -/
def PortCfg.lanes (c : PortCfg) : List Nat := List.range' c.lane c.width

/-- East 0, west 1. -/
def ringSide (p : Nat) : Nat := if p % 128 = 0 then 0 else 1

/-- Every laser fibre that lights a lane of the port is lit (Table 6.1 and the text above it). -/
def State.portLit (s : State) (c : PortCfg) : Bool :=
  c.lanes.all fun l => bitOf (s.get F.OPT_STATUS_LASER_OK (l / 16)) (l % 16 / 8)

/-- The optics of a port let light through: lit, calibrated, no closed bypass in the way (R170 to R173, R175). -/
def State.opticsUp (s : State) (p : Nat) (c : PortCfg) : Bool :=
  !optical s.variant (c.lane / 16) ||
    (s.portLit c && s.on F.OPT_STATUS_CAL_DONE (c.lane / 16) && !s.on F.OPT_STATUS_CALIBRATING (c.lane / 16) &&
      (s.ringGroup p).all fun g => s.get F.CSW_STATUS_STATE g == 2)

/-- A tile is awake, dozing or in torpor: PWQ_TILE_SLEEP.STATE. -/
def State.sleepOf (s : State) (t : Nat) : Nat := s.get F.PWQ_TILE_SLEEP_STATE t

/-- In dark-stage standby the lanes of a dozing ring tile's other ports are off (R119). -/
def State.lanesOff (s : State) (p : Nat) : Bool :=
  s.get F.HUM_DEVICE_STATE_STATE 0 == 2 && s.sleepOf (p / 16) == 1 && (s.ringGroup p).isNone &&
    (s.portsOf (p / 16)).any fun x => (s.ringGroup x).isSome

/-- The port's link may come up (R69, R103, R133, R135 to R137); also in near-end loopback its engine must not be calibrating (R173). DEDUCED, log 114: the replica of its tile has aligned, for a link takes 1 µs without a fault (R133) and a beacon comes within that time (R81), so that no timestamp is taken before (R339). -/
def State.canLink (s : State) (p : Nat) (c : PortCfg) : Bool :=
  s.on F.PRT_CFG_ADMIN_UP p && s.tileUp (p / 16) && s.sleepOf (p / 16) != 2 && !s.lanesOff p && !(s.live p).held && !s.clocks.heldOff && !s.railMissing 4 && !s.railMissing 5 && !s.time.unaligned.contains (p / 16) &&
    (if s.get F.PRT_CFG_LOOPBACK p = 1 then !(optical s.variant (p / 16) && s.on F.OPT_STATUS_CALIBRATING (p / 16)) else s.opticsUp p c)

/-! ## Queued frames of a port -/

/-- Global queue IDs of a port. -/
def queuesOf (p : Nat) : List Nat := if p < 512 then List.range' (48 * p) 48 else List.range' (24576 + 16 * (p - 512)) 16

/-- Drop the entries of a queue that satisfy a test, with a code; a new head gets its tags (R315, R331, R365). -/
def State.dropQueue (s : State) (gq code : Nat) (p : QEntry → Bool) : State :=
  let q := s.queue gq
  let lost := q.filter p
  if lost.isEmpty then s
  else
    let headGone := q.head?.any p
    let s := s.withQueue gq (q.filter fun e => !p e)
    let s := s.forAll lost fun s e => (s.dropOut code (queuePort gq) (queueLocal gq)).gone e.buf true e.closer
    if headGone && decide (gq < 24576) then s.headArrives gq false else s

/-- Drop from every queue of a port. -/
def State.dropPort (s : State) (p code : Nat) (f : State → QEntry → Bool) : State :=
  s.forAll (queuesOf p) fun s gq => s.dropQueue gq code (f s)

/-- The entry is a PTP event frame. -/
def State.isPtpEntry (s : State) (e : QEntry) : Bool := (s.buf e.buf).any fun b => b.frame.vec.ptpEvent

/-! ## Hold (R140 to R144, R568) -/

/-- The hold timer expires: every queued frame is flushed (R141). -/
def State.holdExpire (s : State) (p : Nat) : State :=
  let s := s.dropPort p cLinkFlush fun _ _ => true
  let s := (s.set F.PRT_STATUS_HOLD p 0).evPrt F.PRT_EVENT_HOLD_EXPIRED p
  s.withLive p fun l => { l with flushing := true }

/-- A hold of HOLD_US starts; with 0 it expires at once (R139, R141, R143). -/
def State.startHold (s : State) (p : Nat) : State :=
  let until_ := s.elapsed + nsUnits (1000 * s.get F.PRT_LINK_HOLD_HOLD_US p)
  let s := (s.set F.PRT_STATUS_HOLD p 1).withLive p fun l => { l with flushing := false, holdUntil := until_ }
  if s.get F.PRT_LINK_HOLD_HOLD_US p = 0 then s.holdExpire p else s

/-! ## Receive counters (R145, R161) -/

/-- Size bucket of a good frame (Table 5.5). -/
def sizeBucket (n : Nat) : Nat :=
  if n ≤ 64 then 20 else if n ≤ 127 then 21 else if n ≤ 255 then 22 else if n ≤ 511 then 23 else if n ≤ 1023 then 24
  else if n ≤ 1518 then 25 else if n ≤ 4095 then 26 else 27

/-- Counters of a good received frame, and by how much each rises. -/
def goodCounts (wire da : Nat) : List (Nat × Nat) :=
  [(0, wire), (1, 1), (if da = 0xFFFFFFFFFFFF then 4 else if bitOf da 40 then 3 else 2, 1), (sizeBucket wire, 1)]

/-- Raise counters of PRT_CNT. -/
def State.prtCounts (s : State) (p : Nat) (l : List (Nat × Nat)) : State :=
  s.forAll l fun s e => s.count F.PRT_CNT_COUNT (64 * p + e.1) e.2

/-- Take back counts of a frame whose last bytes never arrived (R139, Table 5.3; log 12). -/
def State.prtUncount (s : State) (p : Nat) (l : List (Nat × Nat)) : State :=
  s.forAll l fun s e => s.set F.PRT_CNT_COUNT (64 * p + e.1) (s.get F.PRT_CNT_COUNT (64 * p + e.1) - e.2)

/-! ## The frame boundary on transmit: SCHED after a swap, received pauses (R56, R156) -/

/-- The entries of a new map at the keys that satisfy a test, the old entries elsewhere. -/
def SMap.graft {α : Type} (m new : SMap α) (p : Nat → Bool) : SMap α :=
  (List.filter (fun e => p e.1) new).foldl (fun m e => SMap.put m e.1 e.2) (SMap.drop m p)

/-- Keys of unit t in a map that gives each unit n consecutive keys. -/
def unitKeys (t n k : Nat) : Bool := k / n == t

/-- The SCHED layer with one port's part taken from a new one. -/
def SchedLayer.takePort (l new : SchedLayer) (p : Nat) : SchedLayer :=
  { l with
    queueClass := SMap.graft l.queueClass new.queueClass (unitKeys p 48)
    discipline := SMap.graft l.discipline new.discipline (unitKeys p 8)
    cbs := SMap.graft l.cbs new.cbs (unitKeys p 8) }

/-- A register whose reset entry is a layer takes the layer's new value (Table 21.4). -/
def State.unsetAll (s : State) (fs : List Field) (is : List Nat) : State := s.forAll is fun s i => s.forAll fs fun s f => s.unset f i

/-- Discipline of a class on a port, by the SCHED layer. -/
def State.discipline (s : State) (p c : Nat) : Discipline := SMap.findD s.layers.sched.discipline (8 * p + c) .strict

/-- A queue that changes class or discipline starts at the class's current virtual time (Table 2.7). -/
def State.requeue (s : State) (gq : Nat) : State :=
  let v := s.get F.SCH_CLASS_STATUS_VTIME (8 * (gq / 48) + s.queueClass gq)
  let s := { s with path := { s.path with tags := SMap.put s.path.tags gq { start := v, finish := v, last := v } } }
  s.headArrives gq true

/-- The queues of a port whose class or discipline is another under `old`. -/
def State.reclassed (s old : State) (p : Nat) : List Nat :=
  (List.range' (48 * p) 48).filter fun gq =>
    decide (s.queueClass gq ≠ old.queueClass gq) || decide (s.discipline p (s.queueClass gq) ≠ old.discipline p (old.queueClass gq))

/-- The last of a tile's ports has taken SCHED: the tile has switched (R57). -/
def State.lateDone (s : State) (p : Nat) : State :=
  if s.handover.late.contains p = false then s
  else
    let late := s.handover.late.filter (· != p)
    let s := { s with handover := { s.handover with late := late } }
    if late.any fun x => x / 16 == p / 16 then s else s.clrBit F.PTL_SWAP_PENDING_TILES 0 (p / 16)

/-- A port takes its part of the SCHED layer that its tile has been sent (R56, Table 2.7). -/
def State.takeSched (s : State) (p : Nat) : State :=
  match s.handover.goal with
  | none => s
  | some l =>
    let old := s
    let layers := { s.layers with sched := s.layers.sched.takePort l.sched p }
    let s := { s with image := { s.image with layers := layers } }
    let s := (s.unsetAll [F.SCH_QUEUE_CFG_CLASS] (List.range' (48 * p) 48)).unsetAll [F.SCH_CBS_EN] (List.range' (8 * p) 8)
    let s := s.forAll (s.reclassed old p) State.requeue
    let off := (List.range' (8 * p) 8).filter fun k => SMap.findD s.layers.sched.cbs k false = false
    let s := { s with path := { s.path with credits := SMap.drop s.path.credits fun k => off.contains k } }
    s.lateDone p

/-- A frame boundary on transmit: pauses received during the frame hold their classes, and a late port takes SCHED (R56, R156). -/
def State.txBoundary (s : State) (p : Nat) : State :=
  let s := s.when (s.handover.late.contains p) fun s => s.takeSched p
  let mask := (s.live p).pauseIn
  if mask = 0 then s
  else (s.withLive p fun l => { l with pauseIn := 0 }).set F.PRT_STATUS_RX_PAUSED p (orN (s.get F.PRT_STATUS_RX_PAUSED p) mask)

/-! ## Link-down (R139) -/

/-- Every place in the frame path that holds a frame changes it. -/
def State.mapFrames (s : State) (f : Frame → Frame) : State :=
  { s with path := { s.path with
      farms := s.path.farms.map fun e =>
        (e.1, { e.2 with heads := e.2.heads.map f, entries := e.2.entries.map fun x => { x with frame := f x.frame } })
      crossing := s.path.crossing.map fun c => { c with frame := f c.frame }
      bufs := s.path.bufs.map fun e => (e.1, { e.2 with frame := f e.2.frame }) } }

/-- Frames that a state holds beyond staging. -/
def State.framesIn (s : State) : List Frame :=
  s.path.farms.flatMap (fun e => e.2.heads ++ e.2.entries.map (·.frame)) ++ s.path.crossing.map (·.frame) ++ s.path.bufs.map (·.2.frame)

/-- Step 1: frames being received are cut off; one released early is marked errored, its last byte now. -/
def State.cutReceive (s : State) (p : Nat) : State :=
  let now := s.elapsed
  let cut (f : Frame) : Bool := f.port == p && !f.cutOff && decide (now < f.endAt)
  let staged := SMap.findD s.path.staging p []
  let gone := staged.filter cut
  let freed := ((s.framesIn.filter cut).map fun f => (f.id, f.tally)).eraseDups
  let s := s.forAll (gone.map Frame.tally ++ freed.map (·.2)) fun s l => (s.prtUncount p l).count F.PRT_CNT_COUNT (64 * p + 13) 1
  let s := { s with path := { s.path with staging := SMap.put s.path.staging p (staged.filter fun f => !cut f) } }
  s.mapFrames fun f => if cut f then
      { f with mark := if f.markAt ≤ now && f.mark != 0 then f.mark else 1, markAt := if f.mark = 0 then now else min f.markAt now, endAt := now }
    else f

/-- Step 2: frames being transmitted are cut off. A routine that is lost before its restart leaves its cluster's reaction without one, and the engines that fall free are dealt (R408, R493). -/
def State.cutTransmit (s : State) (p : Nat) : State :=
  let t := p / 16
  let l := s.live p
  let es := l.wire.map (·.entry) ++ l.rewriting.map (·.entry)
  let s := s.withLive p fun l => { l with wire := [], rewriting := [] }
  let s := s.forAll es fun s e => (s.count F.PRT_CNT_COUNT (64 * p + 40) 1).gone e.buf true e.closer
  let s := s.forAll ((l.rewriting.filter fun r => r.waiting && r.abandoned).map (·.cluster)) fun s k => if s.awaitsRestart t k then s else s.restarted t k
  s.dealNext t

/-- Step 5: records and reservations of the port leave its tile's FIFO; whether any was removed. -/
def State.flushTsf (s : State) (p : Nat) : Bool × State :=
  let t := p / 16
  let l := SMap.findD s.path.tsf t []
  let held := (s.live p).wire.any (·.reserved) || (s.live p).rewriting.any (·.reserved)
  (held || l.any fun r => r.port == p,
    { s with path := { s.path with tsf := SMap.put s.path.tsf t (l.filter fun r => r.port != p) } })

/-- The port's link goes down (R139). -/
def State.linkDown (s : State) (p : Nat) : State :=
  if s.on F.PRT_STATUS_LINK_UP p = false then s
  else
    let s := s.cutReceive p
    let tsf := s.flushTsf p
    let s := tsf.2.cutTransmit p
    let s := s.set F.PRT_STATUS_LINK_UP p 0
    let s := s.startHold p
    let s := s.dropPort p cLinkFlush fun s e => s.isPtpEntry e
    let s := if tsf.1 then s.evPrt F.PRT_EVENT_TSF_FLUSHED p else s
    let s := (s.set F.PRT_STATUS_RX_PAUSED p 0).set F.PRT_STATUS_TX_XOFF p 0
    let s := (s.withLive p fun l => { l with pauses := [], pauseIn := 0 }).txBoundary p
    let s := s.set F.PRT_STATUS_ACTIVE_WIDTH p 0
    let s := (s.count F.PRT_CNT_COUNT (64 * p + 56) 1).evPrt F.PRT_EVENT_LINK_DOWN p
    if s.namesSlots p then (s.slotBoundary (s.get F.PRT_SEC_CFG_TX_SLOT p)).slotBoundary (s.get F.PRT_SEC_CFG_RX_SLOT p) else s

/-- Links of several ports go down. -/
def State.linksDown (s : State) (l : List Nat) : State := s.forAll l State.linkDown

/-- The link comes up: hold ends, and a ring span restarts from its default (R133, R142, R403). -/
def State.linkUp (s : State) (p deskew : Nat) : State :=
  match s.port p with
  | none => s
  | some c =>
    if s.on F.PRT_STATUS_LINK_UP p || !s.canLink p c then s
    else
      let s := (s.set F.PRT_STATUS_LINK_UP p 1).set F.PRT_STATUS_HOLD p 0
      let s := s.set F.PRT_STATUS_ACTIVE_WIDTH p (if s.on F.PRT_STATUS_NARROWED p then c.width / 2 else c.width)
      let s := s.withLive p fun l => { l with flushing := false, wasUp := true, deskew := min deskew 4 }
      let s := { s with clocks := { s.clocks with rouse := s.clocks.rouse.erase p } }
      let s := s.evPrt F.PRT_EVENT_LINK_UP p
      match s.ringGroup p with
      | some g =>
        let d := s.get F.RNG_PROBE_LINK_DEFAULT_NS g
        ((s.set F.BUF_PORT_BUDGET_LINK_NS p d).set F.RNG_SPAN_DELAY_NS (2 * g + ringSide p) d).set F.RNG_SPAN_VALID (2 * g + ringSide p) 0
      | none => s

/-! ## Administrative state and loopback (R135, R136, R568) -/

/-- The Glow-worm detectors of a port lose their power and what they have counted (R135). -/
def State.glowOff (s : State) (p : Nat) : State :=
  let lanes := (s.port p).elim [] PortCfg.lanes
  { s with clocks := { s.clocks with glow := SMap.drop s.clocks.glow lanes.contains } }

/-- ADMIN_UP as written. -/
def State.adminUp (s : State) (p : Nat) (up : Bool) : State :=
  if s.isPort p = false then s
  else
    let was := s.on F.PRT_CFG_ADMIN_UP p
    let s := s.set F.PRT_CFG_ADMIN_UP p (b2n up)
    if up = false then (s.glowOff p).linkDown p
    else if !was && !s.on F.PRT_STATUS_LINK_UP p then s.startHold p
    else s

/-- LOOPBACK as written: 3 is ignored, a change takes the link down (R136). -/
def State.loopback (s : State) (p mode : Nat) : State :=
  if s.isPort p = false ∨ 3 ≤ mode ∨ mode = s.get F.PRT_CFG_LOOPBACK p then s else (s.set F.PRT_CFG_LOOPBACK p mode).linkDown p

/-! ## What the transmitter sends beside frames (R134 to R136) -/

/-- What a port's transmitter puts on the lanes where it sends no frame. -/
inductive TxSignal where
  | dark | idle | remoteFault
  deriving DecidableEq, Repr

/-- The lanes of a port are held off: no boot has ended, the tile is in reset, the SerDes or optics rail is missing, holdover has expired, the tile sleeps or its lanes are off in standby, the port is administratively down (R69, R79, R103, R107, R119, R135). -/
def State.portDark (s : State) (p : Nat) : Bool :=
  !s.tileReach (p / 16) || s.railMissing 4 || s.railMissing 5 || s.clocks.heldOff || !s.on F.PRT_CFG_ADMIN_UP p || s.sleepOf (p / 16) == 2 || s.lanesOff p

/-- A lane's light: its laser fibre is lit, its engine calibrated, the lane not fenced (R77, R170, R171; log 46). -/
def State.laneLight (s : State) (lane : Nat) : Bool :=
  !optical s.variant (lane / 16) ||
    (bitOf (s.get F.OPT_STATUS_LASER_OK (lane / 16)) (lane % 16 / 8) && s.on F.OPT_STATUS_CAL_DONE (lane / 16) &&
      !bitOf (s.get F.OPT_STATUS_LANE_FENCED (lane / 16)) (lane % 16))

/-- A lane of a port sends nothing. -/
def State.laneDark (s : State) (p lane : Nat) : Bool := s.portDark p || !s.laneLight lane

/-- A ring port whose group's bypass is closed receives no light (R179). -/
def State.bypassed (s : State) (p : Nat) : Bool := (s.ringGroup p).any fun g => s.get F.CSW_STATUS_STATE g == 0

/-- What the lanes of a port receive with the link down, a free value at every instant: local fault or nothing, remote fault, codeword lock. Near-end loopback and a port held off ignore it; a ring port whose bypass is closed receives nothing (R134 to R136, R163, R179; log 46). -/
def State.portSees (s : State) (p : Nat) : Nat :=
  if s.portDark p || s.get F.PRT_CFG_LOOPBACK p == 1 then 0 else if s.bypassed p then 1 else Config.portSees p s.elapsed

/-- What a lane of a port sends between frames: with the link up and in near-end loopback idle; with the link down idle in answer to remote fault, and remote fault in answer to local fault or nothing (R134, R136). Where both faults are received the local one is answered (DESIGN CHOICE, log 46). -/
def State.txSignal (s : State) (p lane : Nat) : TxSignal :=
  if s.laneDark p lane then .dark
  else if s.on F.PRT_STATUS_LINK_UP p || s.get F.PRT_CFG_LOOPBACK p == 1 then .idle
  else if bitOf (s.portSees p) 1 && !bitOf (s.portSees p) 0 then .idle
  else .remoteFault

/-- PRT_STATUS as it reads: the faults and the codeword lock of a port whose link is down are as its lanes receive them; with the link up no fault is there and every lane is locked (R133, R163). -/
def State.showPort (s : State) (p : Nat) : State :=
  let up := s.on F.PRT_STATUS_LINK_UP p
  let seen := if up then 4 else s.portSees p
  ((s.set F.PRT_STATUS_LOCAL_FAULT p seen).set F.PRT_STATUS_REMOTE_FAULT p (seen / 2)).set F.PRT_STATUS_FEC_LOCK p (seen / 4)

/-! ## Pauses (R153 to R160, R164) -/

/-- A MAC Control frame as it is sent: 60 bytes before its FCS (R159). -/
def State.pauseFrame (s : State) (p : Nat) (mask quanta : Nat) : List Byte :=
  let body := if s.get F.PRT_CFG_FC_MODE p = 1 then beBytes 0x0001 2 ++ beBytes quanta 2
    else beBytes 0x0101 2 ++ beBytes mask 2 ++ (List.range 8).flatMap fun c => beBytes (if bitOf mask c then quanta else 0) 2
  fit 60 (beBytes 0x0180C2000001 6 ++ beBytes (s.get F.PRT_MAC_SA_ADDR p) 6 ++ beBytes 0x8808 2 ++ body)

/-- The oldest waiting pause frame is taken at a frame boundary; it counts in TX_PAUSE or TX_PFC alone, not among the good frames sent, and in far-end loopback too it is sent, beside the returned data (R136, R159, R161; DESIGN CHOICE, log 110). -/
def State.pauseTake (s : State) (p : Nat) : Option (List Byte) × State :=
  match (s.live p).pauses with
  | [] => (none, s)
  | (mask, quanta) :: rest =>
    if s.on F.PRT_STATUS_LINK_UP p = false then (none, s)
    else
      let n := if s.get F.PRT_CFG_FC_MODE p = 1 then 37 else 38
      (some (s.pauseFrame p mask quanta), (s.withLive p fun l => { l with pauses := rest }).count F.PRT_CNT_COUNT (64 * p + n) 1)

/-- FC_MODE as written: 0b11 is ignored; a change ends what the old mode held and sent (R153; DESIGN CHOICE, log 110). -/
def State.fcModeWrite (s : State) (p mode : Nat) : State :=
  if mode = 3 ∨ mode = s.get F.PRT_CFG_FC_MODE p then s
  else
    let s := (s.set F.PRT_CFG_FC_MODE p mode).withLive p fun l => { l with pauses := [], pauseIn := 0 }
    (s.set F.PRT_STATUS_RX_PAUSED p 0).set F.PRT_STATUS_TX_XOFF p 0

/-- Half the pause time has passed and the counter is still above XON: the pause is sent again (R158). -/
def State.pauseRefresh (s : State) (p c : Nat) : State :=
  let mask := s.fcMask p c
  let mode := s.get F.PRT_CFG_FC_MODE p
  if (mode = 1 ∨ mode = 2) ∧ s.get F.PRT_STATUS_TX_XOFF p &&& mask ≠ 0 ∧
      s.get F.PRT_FC_TX_XON p * 256 < s.occupancy p fun x => bitOf mask x then
    s.withLive p fun l => { l with pauses := l.pauses ++ [(mask, s.get F.PRT_FC_TX_QUANTA p)] }
  else s

/-- A received pause of some classes: a time of zero ends it at once; another holds them from the next frame boundary, on an idle port at once (R155, R156). -/
def State.rxPause (s : State) (p mask quanta : Nat) : State :=
  if quanta = 0 then
    (s.withLive p fun l => { l with pauseIn := andNotN l.pauseIn mask }).set F.PRT_STATUS_RX_PAUSED p (andNotN (s.get F.PRT_STATUS_RX_PAUSED p) mask)
  else
    let s := s.withLive p fun l => { l with pauseIn := orN l.pauseIn mask }
    s.when (s.live p).wire.isEmpty fun s => s.txBoundary p

/-- The classes that priority i pauses (PRT_PFC_MAP). -/
def State.pfcMap (s : State) (p i : Nat) : Nat := bits (s.get F.PRT_PFC_MAP_PRI p) (8 * i) 8

/-- A received MAC Control frame is consumed, and acted on when it is the one FC_MODE selects (R154, R155). Enabled priorities are taken in ascending order, so that of several mapped to one class the highest wins (DESIGN CHOICE, log 110). -/
def State.macControl (s : State) (p : Nat) (bs : List Byte) : State :=
  let mode := s.get F.PRT_CFG_FC_MODE p
  let op := be bs 14 2
  if be bs 0 6 ≠ 0x0180C2000001 then s.count F.PRT_CNT_COUNT (64 * p + 7) 1
  else if mode = 1 ∧ op = 0x0001 then (s.rxPause p 255 (be bs 16 2)).count F.PRT_CNT_COUNT (64 * p + 5) 1
  else if mode = 2 ∧ op = 0x0101 then
    let en := be bs 16 2
    let on := (List.range 8).filter fun i => bitOf en i
    let s := s.forAll on fun s i => (s.rxPause p (s.pfcMap p i) (be bs (18 + 2 * i) 2)).count F.PRT_CNT_COUNT (64 * p + 48 + i) 1
    s.count F.PRT_CNT_COUNT (64 * p + 6) 1
  else s.count F.PRT_CNT_COUNT (64 * p + 7) 1

/-- PRT_FC_TX as written (R164). -/
def State.fcTxWrite (s : State) (p v : Nat) : State :=
  if s.isPort p = false then s
  else if bits v 0 20 ≤ bits v 20 20 ∨ bits v 40 16 = 0 then s.evPrt F.PRT_EVENT_FC_CFG_ERR p
  else ((s.set F.PRT_FC_TX_XOFF p (bits v 0 20)).set F.PRT_FC_TX_XON p (bits v 20 20)).set F.PRT_FC_TX_QUANTA p (bits v 40 16)

/-! ## The commands -/

/-- LINK_UP (R133, R142). -/
def execLinkUp (p deskew : Nat) (s : State) : Host.Outcome State Fault Refusal := .next (s.when s.up fun s => s.linkUp p deskew)

/-- LINK_DOWN: a condition on what the lanes receive has failed; near-end loopback ignores the received signal (R133, R136, R139). -/
def execLinkDown (p : Nat) (s : State) : Host.Outcome State Fault Refusal :=
  .next (s.when (s.up && s.isPort p && s.get F.PRT_CFG_LOOPBACK p != 1) fun s => s.linkDown p)

/-- HOLD_EXPIRY (R141). -/
def execHoldExpiry (p : Nat) (s : State) : Host.Outcome State Fault Refusal :=
  .next (s.when (s.up && s.isPort p && s.on F.PRT_STATUS_HOLD p) fun s => s.holdExpire p)

/-- PORT_ADMIN_DOWN (R135). -/
def execPortAdminDown (p : Nat) (s : State) : Host.Outcome State Fault Refusal := .next (s.when (s.tileReach (tileOf p)) fun s => s.adminUp p false)

/-- PORT_ADMIN_UP (R135, R568). -/
def execPortAdminUp (p : Nat) (s : State) : Host.Outcome State Fault Refusal := .next (s.when (s.tileReach (tileOf p)) fun s => s.adminUp p true)

/-- LOOPBACK_CHANGE (R136). -/
def execLoopbackChange (p mode : Nat) (s : State) : Host.Outcome State Fault Refusal := .next (s.when (s.tileReach (tileOf p)) fun s => s.loopback p mode)

/-- PAUSE_EXPIRY: the pause timer of a class runs out, also before the frame boundary from which the pause would have held (R155, R156). -/
def execPauseExpiry (p c : Nat) (s : State) : Host.Outcome State Fault Refusal :=
  .next (s.when (s.up && s.isPort p && decide (c < 8)) fun s =>
    (s.withLive p fun l => { l with pauseIn := andNotN l.pauseIn (2 ^ c) }).clrBit F.PRT_STATUS_RX_PAUSED p c)

/-- PAUSE_REFRESH (R158). -/
def execPauseRefresh (p c : Nat) (s : State) : Host.Outcome State Fault Refusal :=
  .next (s.when (s.up && s.isPort p && decide (c < 8)) fun s => s.pauseRefresh p c)

/-- PRT_FC_TX_WRITE (R164). -/
def execPrtFcTxWrite (p v : Nat) (s : State) : Host.Outcome State Fault Refusal := .next (s.when (s.tileReach (tileOf p)) fun s => s.fcTxWrite p v)

end Sys2Proof.Machine
end

