-- ==== Sys2Proof/Machine/Rx.lean ====
section
/-! DEFINITION. From the lanes to the parser farm: receive MAC, receive timestamps, staging, early length, parsing and reordering (chapters 5 and 7, R340, R341). -/

namespace Sys2Proof.Machine

/-! ## Timestamps (R340, R341) -/

/-- Hold an error within a bound. -/
def clampInt (bound : Nat) (x : Int) : Int := if x < -(bound : Int) then -(bound : Int) else if (bound : Int) < x then bound else x

/-- The error of one timestamp of a quadrant in eighths of a ns: within ±0.625 ns of its quadrant's and that within ±0.5 ns, so that with the 0.25 ns of the resolution R341 holds; unbounded while its accuracy is not specified (log 10). -/
def State.stampErr (s : State) (q n : Nat) : Int :=
  if s.pins.refclk && s.get F.CLK_STATUS_RAIL_SKEW 0 == 0 then clampInt 5 (Config.stampError n) + clampInt 4 (Config.quadrantError q)
  else Config.stampError n

/-- A time of the master's unit with an error in eighths of a ns, to the resolution of 0.25 ns (R341). -/
def toQuarter (x : Int) (err : Int) : Int := (x + err * (unitNs / 8 : Nat)) / (unitNs / 4 : Nat)

/-- The local scale and PTP time as a timestamp with an error takes them, moved by whole quarters. -/
def State.stampAt (s : State) (err d : Int) : Nat × Nat :=
  ((toQuarter ((s.time.master : Int) - s.time.stepSum) err + d).toNat, (toQuarter s.time.master err + d).toNat)

/-- A receive timestamp: on the local scale and of PTP, in quarter ns. -/
def State.rxStamp (s : State) (p : Nat) (c : PortCfg) : (Nat × Nat) × State :=
  let n := s.freeCtr
  let s := s.draw.2
  (s.stampAt (s.stampErr (p / 128) n) (s.getInt F.TIM_PORT_PTP_RX_ADJ p - 4 * (cRx s.variant c (s.live p).deskew : Nat)), s)

/-! ## Parsing configuration (R183, R185, R196) -/

/-- EtherTypes of the member groups. -/
def State.ringTypes (s : State) : List Nat :=
  ((List.range 4).filter fun g => s.on F.RNG_GROUP_CFG_MEMBER g).map fun g => s.get F.RNG_GROUP_CFG_ETHERTYPE g

/-- VXLAN_PORT and the RTP ranges that a tile parses by (R57). -/
def State.parseDevice (s : State) (t : Nat) : Nat × List (Nat × Nat) :=
  SMap.findD s.handover.held t (s.layers.parse.vxlanPort, s.layers.parse.rtpRanges)

/-- The port group of a port and what its parser accepts. -/
def State.parseCfg (s : State) (p : Nat) : Nat × ParseCfg :=
  let l := s.layers.parse
  let g := SMap.findD l.group p 0
  let i := 8 * tileOf p + g
  let d := s.parseDevice (tileOf p)
  (g, { depth := s.get F.PRS_GROUP_DEPTH i, hdrs := s.get F.PRS_GROUP_HDR_SET i, vxlanPort := d.1, rtp := d.2, ringTypes := s.ringTypes })

/-- Parse a frame of a port by a group and its configuration: the vector, the early length, PARSE_TRUNC. -/
def parseWith (c : Nat × ParseCfg) (p : Nat) (bs : List Byte) : ParseVec × Option Nat × Bool :=
  let r := parseFrame c.2 (bs ++ fcsOf bs)
  ({ r.1 with inPort := p, group := c.1 }, r.2.1, r.2.2)

/-- Parse a frame as the port's group is configured now. -/
def State.parse (s : State) (p : Nat) (bs : List Byte) : ParseVec × Option Nat × Bool := parseWith (s.parseCfg p) p bs

/-- The early length of a frame that staging may release by it: EARLY, a length within the MTU, and no whole release before: the frame ends beyond L3 offset + 64, and a long head not before byte D; the receive MAC ends a frame at byte MTU + 1 (R145, R192, R193, Table 7.4, R441). -/
def State.earlyOf (s : State) (p mtu : Nat) (r : ParseVec × Option Nat × Bool) (wire : Nat) : Option Nat :=
  let c := (s.parseCfg p).2
  match r.2.1 with
  | none => none
  | some n =>
    let long := decide (r.1.outer.offL3 + 64 < wire) && (!r.1.longHead || decide (c.depth ≤ wire)) &&
      decide ((if r.1.longHead then c.depth else r.1.outer.offL3 + 64) ≤ mtu)
    if bitOf c.hdrs 14 && !(s.live p).secRx && decide (n ≤ mtu) && long then some n else none

/-! ## Staging (R197) -/

/-- Frames staged at a port. -/
def State.staged (s : State) (p : Nat) : List Frame := SMap.findD s.path.staging p []

/-- Replace the frames staged at a port. -/
def State.withStaged (s : State) (p : Nat) (l : List Frame) : State :=
  { s with path := { s.path with staging := if l.isEmpty then SMap.del s.path.staging p else SMap.put s.path.staging p l } }

/-- Bytes of a port's staging: 25,000 for each lane, the least that R197 allows (log 29). -/
def PortCfg.stagingBytes (c : PortCfg) : Nat := 25000 * c.width

/-- The farm of a tile. -/
def State.farm (s : State) (t : Nat) : Farm := SMap.findD s.path.farms t default

/-- Replace the farm of a tile. -/
def State.withFarm (s : State) (t : Nat) (x : Farm) : State := { s with path := { s.path with farms := SMap.put s.path.farms t x } }

/-- Frames in a port's staging: those not released and those whose heads wait for the dealer (R201, R202). -/
def State.inStaging (s : State) (p : Nat) : List Frame := s.staged p ++ (s.farm (tileOf p)).heads.filter fun f => f.port == p

/-- Bytes held in a port's staging; of a frame cut off none is kept (R197). -/
def State.stagedBytes (s : State) (p : Nat) : Nat :=
  ((s.inStaging p).map fun f => if f.cutOff then 0 else f.bytes.length + 4).sum

/-- A frame cut off for want of staging room (R197). -/
def State.stageDrop (s : State) (p : Nat) : State :=
  (s.count F.PRS_PORT_CNT_COUNT (2 * p) 1).evT F.PRS_EVENT_STAGE_DROP (p / 16)

/-- A new frame of a port, numbered. -/
def State.newFrame (s : State) (f : Frame) : Frame × State :=
  ({ f with id := s.path.ids, cutsSeen := s.tue.applied }, { s with path := { s.path with ids := s.path.ids + 1 } })

/-- Elapsed time at which byte n of a frame that begins now arrives. -/
def State.byteAt (s : State) (p n : Nat) : Nat := s.elapsed + ceilDiv (40 * n) (max 1 (s.rate p))

/-- The mark of a frame of n bytes released with early length e while staging has room for `room` of them, and the byte at which it shows: a byte beyond the early length, the byte that finds no room, or the frame's end (R195, R197). -/
def earlyMark (e n room : Nat) (fcsOk : Bool) : Nat × Nat :=
  if e < n ∧ e ≤ room then (2, e + 1)
  else if room < n then (1, room + 1)
  else if fcsOk = false then (1, n)
  else if n < e then (2, n)
  else (0, n)

/-- A frame passes the receive MAC and Elytra into staging (R147, R192 to R197); it has no timestamp before the tile's replica of the time has aligned (R339). `bs` is the frame without FCS, `wire` its length as received; staging takes no byte beyond the MTU, where the MAC ends the frame (R145). -/
def State.stage (s : State) (p : Nat) (c : PortCfg) (stamp : Nat × Nat) (bs : List Byte) (wire : Nat) (fcsOk : Bool) (tally : List (Nat × Nat)) : State :=
  let n := bs.length + 4
  let held := min n c.mtu
  let r := s.parse p bs
  let room := c.stagingBytes - s.stagedBytes p
  let f : Frame := { (default : Frame) with
    port := p, bytes := bs, tally := tally, rxQ := stamp.1, rxPtp := if s.time.unaligned.contains (p / 16) then none else some stamp.2, vec := r.1, trunc := r.2.2, endAt := s.byteAt p (if n ≤ c.mtu then wire else c.mtu + 1) }
  let put (s : State) (f : Frame) : State :=
    let r := s.newFrame f
    r.2.withStaged p (s.staged p ++ [r.1])
  match s.earlyOf p c.mtu r n with
  | none => if room < n then s.stageDrop p else if fcsOk then put (s.prtCounts p tally) f else s.prtCounts p tally
  | some e =>
    -- the head alone must fit for the frame to be released before it is cut off
    if room < (if r.1.longHead then (s.parseCfg p).2.depth else r.1.outer.offL3 + 64) then s.stageDrop p
    else
      let full := decide (room < held)
      let m := earlyMark e n room fcsOk
      let s := if full then s.stageDrop p else s.prtCounts p tally
      put s { f with
        bytes := if n ≤ c.mtu then bs else bs.take (c.mtu - 4)
        tally := if full then [] else tally, mark := m.1, markAt := s.byteAt p m.2, cutOff := full, vec := { r.1 with len := e, lenEarly := true } }

/-- A frame that the receive MAC discards at its end, or at byte MTU + 1, takes staging until then; its counter is its single count unless it is cut off first (R145, R146, R197). -/
def State.rxDiscard (s : State) (p : Nat) (c : PortCfg) (n k : Nat) : State :=
  if c.stagingBytes < s.stagedBytes p + n then s.stageDrop p else s.count F.PRT_CNT_COUNT (64 * p + k) 1

/-- The receive MAC and the receive lane on one frame (Table 5.3, R432, R440). -/
def State.rxMac (s : State) (p : Nat) (c : PortCfg) (bs : List Byte) (fcsOk : Bool) (laneBad : Option Nat) : State :=
  let s := s.secBoundary p true
  let wire := bs.length + 4
  let limit := if (s.live p).secRx then c.mtu + 32 else c.mtu
  let st := s.rxStamp p c
  let s := st.2
  let r := s.parse p bs
  let early := (s.earlyOf p c.mtu r wire).isSome
  if wire < 64 then s.rxDiscard p c wire (if fcsOk then 9 else 10)
  else if limit < wire then
    let k := if fcsOk then 11 else 12
    if early then s.stage p c st.1 bs wire fcsOk [(k, 1)] else s.rxDiscard p c limit k
  else if fcsOk = false then
    if early then s.stage p c st.1 bs wire false [(8, 1)] else s.rxDiscard p c wire 8
  else if etherType bs = 0x8808 then s.macControl p bs
  else
    let good := goodCounts wire (be bs 0 6)
    -- a frame that fails check 7 has not passed every check (R145, R161)
    let counts (v : ParseVec) : List (Nat × Nat) := if v.ip4CsumBad then [(14, 1)] else good
    if (s.live p).secRx = false then s.stage p c st.1 bs wire true (counts r.1)
    else
      match laneBad with
      | some k => ((s.prtCounts p good).laneFault p (k % c.width)).dropAt cFencedUnit p
      | none =>
        match s.secReceive p c.mtu bs with
        | (none, s) => (s.prtCounts p good).dropAt cSecAuthFail p
        | (some plain, s) => s.stage p c st.1 plain wire true (counts (s.parse p plain).1)

/-- The oldest waiting pause frame goes out; in near-end loopback it returns to the receive MAC (R136, R159). -/
def State.pauseSend (s : State) (p : Nat) : State :=
  match s.pauseTake p, s.port p with
  | (some bs, s), some c =>
    if s.get F.PRT_CFG_LOOPBACK p = 1 then s.rxMac p c bs true none else { s with out := { s.out with frames := (p, bs, true) :: s.out.frames } }
  | (_, s), _ => s

/-- A codeword of the frame that FEC cannot correct fails the frame's FCS check (R132). -/
def fecFails (c : PortCfg) (cw : List Nat) : Bool := c.fec != 0 && cw.getD 1 0 != 0

/-- What the lanes count of codewords: corrected, uncorrectable and symbols corrected where FEC is in use, and invalid blocks; the first four numbers are those of the frame, the next four those received between the frame before and this one (R132, Table 5.5). -/
def State.codewords (s : State) (p : Nat) (c : PortCfg) (cw : List Nat) : State :=
  let all (k : Nat) : Nat := cw.getD k 0 + cw.getD (k + 4) 0
  let fec (k : Nat) : Nat := if c.fec = 0 then 0 else all k
  s.prtCounts p [(15, fec 0), (16, fec 1), (17, fec 2), (18, all 3)]

/-- RX_FRAME (DESIGN CHOICE, log 129: Table 5.5 gives no link condition; what the lanes receive while LINK_UP is 0 counts in none of PRT_CNT 15 to 18): on a port whose link is up a frame reaches the receive MAC, in far-end loopback the transmitter; with no byte the lanes have received codewords alone. In near-end loopback received signal is ignored (R133, R136). -/
def State.rxFrame (s : State) (p : Nat) (bs : List Byte) (fcsOk : Bool) (laneBad : Option Nat) (cw : List Nat) : State :=
  match s.port p with
  | none => s
  | some c =>
    let good := fcsOk && !fecFails c cw
    if s.on F.PRT_STATUS_LINK_UP p = false ∨ s.get F.PRT_CFG_LOOPBACK p = 1 then s
    else if bs.isEmpty then s.codewords p c cw
    else if s.get F.PRT_CFG_LOOPBACK p = 2 then { s with out := { s.out with frames := (p, bs, good) :: s.out.frames } }.codewords p c cw
    else (s.rxMac p c bs good laneBad).codewords p c cw

/-! ## Discards before a queue -/

/-- A frame is discarded before it reaches a queue; a reinjected buffer goes with it (R312, R331). -/
def State.loseFrame (s : State) (f : Frame) (code : Nat) : State :=
  let s := s.dropAt code f.port
  f.handle.elim s fun h => s.gone h false true

/-! ## Release into the farm (R60, R193, R198) -/

/-- Earlier frames of a port have not yet crossed the crossbar. -/
def State.uncrossed (s : State) (p : Nat) : Bool :=
  (s.farm (tileOf p)).heads.any (fun f => f.port == p) || (s.farm (tileOf p)).entries.any (fun x => x.frame.port == p) ||
    s.path.crossing.any fun c => c.frame.port == p

/-- The port waits after a change of its ORDER_STRICT bit (R266). -/
def State.orderWaits (s : State) (p : Nat) : Bool := (s.live p).orderHold && s.uncrossed p

/-- STAGING_RELEASE: the port's oldest staged frame reaches its release point; its tile is awake (R109, R193, R266). -/
def State.stagingRelease (s : State) (p : Nat) : State :=
  let t := tileOf p
  match s.staged p with
  | [] => s
  | f :: rest =>
    if s.sleepOf t != 0 || s.orderWaits p then s
    else
      let s := if (s.live p).orderHold then s.withLive p fun l => { l with orderHold := false } else s
      let f := if f.vec.lenEarly then f else { f with endAt := min f.endAt s.elapsed }
      let s := s.withStaged p rest
      if s.quiesced (quadOf p) || s.tileOut t then s.loseFrame f cFencedUnit
      else
        let s := if f.vec.lenEarly then s.count F.PRS_PORT_CNT_COUNT (2 * p + 1) 1 else s
        s.withFarm t { s.farm t with heads := (s.farm t).heads ++ [f] }

/-- Engines in the rotation of a tile, ascending (R198, R200). -/
def State.engines (s : State) (t : Nat) : List Nat :=
  (List.range 48).filter fun e => !bitOf (s.get F.PRS_SPARE_MASK_SPARE t) e && !bitOf (s.get F.PRS_FARM_FENCED t) e

/-- An engine holds a head. -/
def FarmEntry.heldBy (x : FarmEntry) (e : Nat) : Bool := x.engine == some e && !x.done

/-- The engine next in rotation; a farm under rate skips busy ones (R198, R201). -/
def State.nextEngine (s : State) (t : Nat) : Option Nat :=
  let f := s.farm t
  let free := if s.on F.PRS_FARM_UNDER_RATE t then (s.engines t).filter fun e => !(f.entries.any (·.heldBy e)) else s.engines t
  (free.find? fun e => decide (f.last ≤ e)).orElse fun _ => free.head?

/-- Replace the entry at a place. -/
def setEntry (l : List FarmEntry) (i : Nat) (e : FarmEntry) : List FarmEntry := l.take i ++ [e] ++ l.drop (i + 1)

/-- Deal the oldest head to the next engine, while an entry is free; it is parsed as the port's group is configured now (R56, R198, R202). -/
def State.deal (s : State) (t : Nat) : State :=
  let f := s.farm t
  match f.heads with
  | [] => s
  | h :: rest =>
    if 64 ≤ f.entries.length then s
    else
      match s.nextEngine t with
      | none => s
      | some e =>
        (s.count F.PRS_TILE_CNT_COUNT (3 * t) 1).withFarm t
          { heads := rest, entries := f.entries ++ [{ frame := h, cfg := s.parseCfg h.port, engine := some e, errors := 0, done := false }], last := (e + 1) % 48 }

/-- Deal the head of an entry again, where an engine is free for it; the reaction of a report-only engine ends with that (R200, R201, R493). -/
def State.redeal (s : State) (t i : Nat) : State :=
  let f := s.farm t
  match s.nextEngine t with
  | none => s
  | some e =>
    let x := f.entries.getD i default
    let f := { f with entries := setEntry f.entries i { x with engine := some e, erred := none }, last := (e + 1) % 48 }
    let s := x.erred.elim s fun e => if s.fencePolicy (srcTile t 4) e then s else s.reacted (srcTile t 4) e
    ((s.evT F.PRS_EVENT_REDEAL t).count F.PRS_TILE_CNT_COUNT (3 * t + 1) 1).withFarm t f

/-- The dealer takes one head: one to be dealt again ahead of new heads (R198, R200). -/
def State.dealOne (s : State) (t : Nat) : State :=
  match (s.farm t).entries.findIdx? fun x => x.engine.isNone && !x.done with
  | some i => s.redeal t i
  | none => s.deal t

/-- PARSE_DEAL: up to two heads in a cycle; with all 64 entries taken, no new head is dealt (R198, R202). -/
def State.parseDeal (s : State) (t : Nat) : State :=
  let full := !(s.farm t).heads.isEmpty && decide (64 ≤ (s.farm t).entries.length)
  let s := if full then (s.evT F.PRS_EVENT_REORDER_FULL t).count F.PRS_TILE_CNT_COUNT (3 * t + 2) 1 else s
  (s.dealOne t).dealOne t

/-! ## Fencing a parser engine (R200, R201) -/

/-- Active engines that R45 asks for on a tile. -/
def State.enginesNeeded (s : State) (t : Nat) : Nat :=
  let groups := ((s.portsOf t) ++ (if t % 8 = 0 then [512 + t / 8] else [])).map fun p => (s.parseCfg p).2.depth
  2 * (8 + ceilDiv (groups.foldl max 0) 32)

/-- An engine leaves the rotation; the lowest spare takes its place (R200, R201). -/
def State.engineLeaves (s : State) (t e : Nat) : State :=
  if bitOf (s.get F.PRS_FARM_FENCED t) e then s
  else
    let wasSpare := bitOf (s.get F.PRS_SPARE_MASK_SPARE t) e
    let s := (s.setBit F.PRS_FARM_FENCED t e).clrBit F.PRS_SPARE_MASK_SPARE t e
    let spare := (List.range 48).find? fun k => bitOf (s.get F.PRS_SPARE_MASK_SPARE t) k
    let s : State := match wasSpare, spare with
      | false, some k => s.clrBit F.PRS_SPARE_MASK_SPARE t k
      | _, _ => s
    let left := ((List.range 48).filter fun k => bitOf (s.get F.PRS_SPARE_MASK_SPARE t) k).length
    let s := (s.set F.PRS_FARM_SPARES_LEFT t left).set F.PRS_FARM_ACTIVE t (s.engines t).length
    if left == 0 && decide ((s.engines t).length < s.enginesNeeded t) then (s.set F.PRS_FARM_UNDER_RATE t 1).evT F.PRS_EVENT_UNDER_RATE t else s

/-- A parser engine error: the report, then the engine's policy; under report-only the reaction lasts while its head waits to be dealt again (R200, R493). -/
def State.parserFault (s : State) (t e : Nat) (again : Bool) : State :=
  let s := s.unitFault (srcTile t 4) e kCheck (0x10 + t) 5 e
  if s.fencePolicy (srcTile t 4) e then s.engineLeaves t e else s.when again fun s => s.react (srcTile t 4) e

/-! ## Completion (R199, R200, R202) -/

/-- PARSE_COMPLETE: an engine delivers the vector of the earliest head it holds, or meets an error: the head is dealt again at once, or waits for an engine; a second error discards the frame (R56, R190, R199, R200). -/
def State.parseComplete (s : State) (t e : Nat) (bad : Bool) : State :=
  let f := s.farm t
  match f.entries.findIdx? (·.heldBy e) with
  | none => s
  | some i =>
    let x := f.entries.getD i default
    let without := { f with entries := f.entries.take i ++ f.entries.drop (i + 1) }
    if bad then
      let s := s.parserFault t e (x.errors == 0)
      if 1 ≤ x.errors then (s.withFarm t without).loseFrame x.frame cFencedUnit
      else (s.withFarm t { f with entries := setEntry f.entries i { x with engine := none, errors := 1, erred := some e } }).redeal t i
    else
      let r := parseWith x.cfg x.frame.port x.frame.bytes
      let v := { r.1 with len := x.frame.vec.len, lenEarly := x.frame.vec.lenEarly, redealt := decide (0 < x.errors) }
      if r.2.2 then (s.withFarm t without).loseFrame x.frame cParseTrunc
      else s.withFarm t { f with entries := setEntry f.entries i { x with frame := { x.frame with vec := v }, done := true } }

/-- The earliest completed entry with no earlier entry of its port, taken out (R202). -/
def takeReleased (seen : List Nat) : List FarmEntry → Option (Frame × List FarmEntry)
  | [] => none
  | x :: rest =>
    if x.done && !seen.contains x.frame.port then some (x.frame, rest)
    else (takeReleased (x.frame.port :: seen) rest).map fun r => (r.1, x :: r.2)

/-! ## The commands -/

/-- RX_FRAME (R145). -/
def execRxFrame (p : Nat) (bs : List Byte) (fcsOk : Bool) (laneBad : Option Nat) (cw : List Nat) (s : State) : Host.Outcome State Fault Refusal :=
  .next (s.when (s.up && s.tileUp (p / 16)) fun s => s.rxFrame p bs fcsOk laneBad cw)

/-- PAUSE_FRAME_SEND (R159). -/
def execPauseFrameSend (p : Nat) (s : State) : Host.Outcome State Fault Refusal :=
  .next (s.when (s.up && s.isPort p) fun s => s.pauseSend p)

/-- STAGING_RELEASE (R193). -/
def execStagingRelease (p : Nat) (s : State) : Host.Outcome State Fault Refusal :=
  .next (s.when (s.up && s.isAnyPort p) fun s => s.stagingRelease p)

/-- PARSE_DEAL (R198). -/
def execParseDeal (t : Nat) (s : State) : Host.Outcome State Fault Refusal :=
  .next (s.when (s.up && decide (t < 32) && s.sleepOf t == 0) fun s => s.parseDeal t)

/-- PARSE_COMPLETE (R199). -/
def execParseComplete (t e : Nat) (bad : Bool) (s : State) : Host.Outcome State Fault Refusal :=
  .next (s.when (s.up && decide (t < 32)) fun s => s.parseComplete t e bad)

end Sys2Proof.Machine
end

