-- ==== Sys2Proof/Machine/Ring.lean ====
section
/-! DEFINITION. The Yarro ring: acceptance, transit and local copies, probes and span delays (chapter 14). -/

namespace Sys2Proof.Machine

/-! ## The ring tag (Table 14.3) -/

/-- VERSION and FLAGS of a ring-tagged frame. -/
def Frame.ringVersion (f : Frame) : Nat := be f.bytes 14 1 / 16
def Frame.ringCtrl (f : Frame) : Bool := bitOf (be f.bytes 14 1) 1
def Frame.ringDir (f : Frame) : Nat := b2n (bitOf (be f.bytes 14 1) 2)

/-- The ring port across the group from a ring port (R23, R396). -/
def ringAcross (p : Nat) : Nat := if p % 128 = 0 then p + 4 else p - 4

/-- A ring tag as the agent writes it: VERSION 1, flags, class, source, sequence and budget; HOPS 0. -/
def State.ringTagBytes (s : State) (g flags cls seq budget : Nat) : List Byte :=
  beBytes (s.get F.RNG_GROUP_CFG_ETHERTYPE g) 2 ++ beBytes (16 + flags) 1 ++ beBytes (s.get F.RNG_GROUP_CFG_RING_ID g * 16 + cls) 1 ++
    beBytes (s.get F.RNG_GROUP_CFG_NODE_ID g) 2 ++ beBytes seq 2 ++ beBytes budget 4 ++ beBytes 0 4

/-- DIR for a frame that leaves by a ring port: 1 travelling east (Table 14.3). -/
def ringDirOut (p : Nat) : Nat := if p % 128 = 0 then 1 else 0

/-! ## Probes (R401, R402) -/

/-- The 80-bit timestamp of a time in quarter ns (Table 12.2). -/
def stamp80 (q : Nat) : List Byte := beBytes (q / (4 * 10 ^ 9)) 6 ++ beBytes (q % (4 * 10 ^ 9)) 4

/-- A time in quarter ns from an 80-bit timestamp. -/
def unstamp80 (bs : List Byte) : Nat := be bs 0 6 * (4 * 10 ^ 9) + be bs 6 4

/-- A probe frame of a ring port; its addresses and sequence are stated nowhere (log 31). -/
def State.probeFrame (s : State) (g p kind number : Nat) (t1 t2 : List Byte) : Frame × State :=
  let r := s.draw
  let s := r.2
  let bs := beBytes r.1 12 ++ s.ringTagBytes g (2 + 4 * ringDirOut p) 7 (r.1 / 2 ^ 96) 0x7FFFFFFF ++
    beBytes kind 1 ++ beBytes number 1 ++ fit 10 t1 ++ fit 10 t2 ++ fit 10 []
  s.newFrame
    { (default : Frame) with
      port := p, bytes := bs, probe := kind, rxQ := s.localQ, endAt := s.elapsed, cls := 7, mapped := 7,
      vec := { (default : ParseVec) with inPort := p, len := 64, ringTag := true, ringClass := 7 } }

/-- A probe enters the class 7 queue of its port from the ring-control partition (R401). -/
def State.probeQueue (s : State) (p : Nat) (f : Frame) : State :=
  s.enterQueue (s.freeAt (quadOf p)) f (s.ucastQueue p 7 f.hash) 2
    { buf := 0, recipe := 0, param := 0, closer := true, deadline := 0, ringSeq := none, reason := 0, stamp := false, replica := false }

/-- The agent runs on a port: a ring port of a joined group (R401). -/
def State.agentOn (s : State) (p : Nat) : Option Nat := (s.ringGroup p).filter fun g => s.on F.CSW_STATUS_JOINED g

/-- Numbers of the requests of a port that no reply has answered, oldest first. -/
def State.outstanding (s : State) (p : Nat) : List Nat := (SMap.find s.probes p).elim [] (·.waiting)

/-- RING_PROBE_SEND: a request on a port whose link is up (R401). -/
def State.probeSend (s : State) (p : Nat) : State :=
  match s.agentOn p with
  | none => s
  | some g =>
    if s.on F.PRT_STATUS_LINK_UP p = false then s
    else
      let n := ((SMap.find s.probes p).elim 0 fun x => x.number + 1) % 256
      let r := s.probeFrame g p 1 n [] []
      { r.2 with probes := SMap.put r.2.probes p { number := n, t1 := 0, waiting := (s.outstanding p) ++ [n] } }.probeQueue p r.1

/-- PROBE_TIMEOUT: no reply to the oldest request within 10 ms; the last value stands (R402). -/
def State.probeTimeout (s : State) (p : Nat) : State :=
  match s.agentOn p, s.outstanding p with
  | some g, _ :: rest =>
    { s with probes := SMap.modify s.probes p default fun x => { x with waiting := rest } }.count F.RNG_CNT_COUNT (6 * g + 5) 1
  | _, _ => s

/-- The span delay of a reply: half of (t4 - t1) - (t3 - t2), rounded up to whole ns (R402). -/
def spanDelay (t1 t2 t3 t4 : Nat) : Nat := ceilDiv (((t4 : Int) - t1) - ((t3 : Int) - t2)).toNat 8

/-- A ring control frame is consumed by the agent: a request is answered at once, a reply gives the span (R402). -/
def State.ringControl (s : State) (g : Nat) (f : Frame) : State :=
  let kind := be f.bytes 28 1
  let n := be f.bytes 29 1
  let p := f.port
  if kind = 1 then
    if s.on F.PRT_STATUS_LINK_UP p = false then s
    else
      let r := s.probeFrame g p 2 n (slice f.bytes 30 10) (stamp80 (f.rxPtp.getD 0))
      r.2.probeQueue p r.1
  else if kind = 2 ∧ (s.outstanding p).contains n then
    let d := spanDelay (unstamp80 (slice f.bytes 30 10)) (unstamp80 (slice f.bytes 40 10)) (unstamp80 (slice f.bytes 50 10)) (f.rxPtp.getD 0)
    let i := 2 * g + ringSide p
    let changed := s.get F.RNG_SPAN_DELAY_NS i != d
    let s := { s with probes := SMap.modify s.probes p default fun x => { x with waiting := x.waiting.erase n } }
    let s := ((s.set F.RNG_SPAN_DELAY_NS i d).set F.RNG_SPAN_VALID i 1).set F.BUF_PORT_BUDGET_LINK_NS p d
    let s := s.set (if p % 128 = 0 then F.RNG_GROUP_STATUS_EAST_NEIGHBOUR else F.RNG_GROUP_STATUS_WEST_NEIGHBOUR) g f.vec.ringSrc
    if changed then s.eventBit F.RNG_EVENT_SPAN_CHANGE 0 g 0 else s
  else s

/-! ## Acceptance (R395 to R400) -/

/-- The group that accepts a ring-tagged frame (R395). -/
def State.ringAccepts (s : State) (f : Frame) : Option Nat :=
  (s.agentOn f.port).filter fun g => f.ringVersion == 1 && f.vec.ringId == s.get F.RNG_GROUP_CFG_RING_ID g

/-- A ring-tagged frame that no group accepts: NO_ROUTE, counted for the group of its ingress quadrant (R395). -/
def State.badTag (s : State) (f : Frame) : State :=
  let g := quadOf f.port
  (((s.loseFrame f cNoRoute).count F.RNG_CNT_COUNT (6 * g + 3) 1).eventBit F.RNG_EVENT_BAD_TAG 0 g 0)

/-- The merge binding of a ring frame's local copies (R400). -/
def State.ringBinding (s : State) (g : Nat) (f : Frame) : Option (Nat × Nat) :=
  let low := s.get F.RNG_GROUP_CTX_NODE_LOW g
  if low ≤ f.vec.ringSrc ∧ f.vec.ringSrc < low + s.get F.RNG_GROUP_CTX_NODE_COUNT g then
    some (s.get F.RNG_GROUP_CTX_CTX_BASE g + (f.vec.ringSrc - low), f.ringDir)
  else none

/-- The transit copy: the other ring port, ring tag update (R396, R422). -/
def transitCopy (g : Nat) (f : Frame) : Copy :=
  { frame := f, quadrant := g, target := .unicast (ringAcross f.port) 0x12 0, merge := none, transit := some g, localOf := none }

/-- RNG_GROUP_CTX as written. -/
def State.groupCtxWrite (s : State) (g v : Nat) : State :=
  let base := bits v 0 16
  let low := bits v 16 16
  let n := bits v 32 17
  if 65536 < base + n ∨ 65536 < low + n then s.evC F.RNG_EVENT_CFG_REFUSED 0
  else ((s.set F.RNG_GROUP_CTX_CTX_BASE g base).set F.RNG_GROUP_CTX_NODE_LOW g low).set F.RNG_GROUP_CTX_NODE_COUNT g n

/-! ## The commands -/

/-- RING_PROBE_SEND (R401). -/
def execRingProbeSend (p : Nat) (s : State) : Host.Outcome State Fault Refusal := .next (s.when s.up fun s => s.probeSend p)

/-- PROBE_TIMEOUT (R402). -/
def execProbeTimeout (p : Nat) (s : State) : Host.Outcome State Fault Refusal := .next (s.when s.up fun s => s.probeTimeout p)

/-- RNG_GROUP_CTX_WRITE (R400). -/
def execRngGroupCtxWrite (g v : Nat) (s : State) : Host.Outcome State Fault Refusal :=
  .next (s.when (s.up && decide (g < 4)) fun s => s.groupCtxWrite g v)

end Sys2Proof.Machine
end

