-- ==== Sys2Proof/Machine/Farm.lean ====
section
/-! DEFINITION. A frame leaves the reorder buffer and is looked up: epoch stamp, ring, traps, cuts and the forwarding decision (R188, R202, R278, R292, R293, R344, R395, R514). -/

namespace Sys2Proof.Machine

/-- Cuts whose marker or gap has been found and whose T_x is still to come: frames of the watch port see them early, after the marker frame or after t_g (R292, R293). -/
def State.earlyCuts (s : State) (p : Nat) : List Cut :=
  (s.tue.cuts.filter fun e =>
    e.2.state == 2 && e.2.mode != 0 && !e.2.waitExpired && e.2.watch == p &&
      e.2.tx.any fun t => e.2.mode == 1 || decide (t < s.nowQ + 80)).map (·.2)

/-- Ordinary lookup of a frame, under the cuts that its port sees early. -/
def State.forwardCut (s : State) (f : Frame) (err : LookupErrors) (ring : Option (Nat × Option (Nat × Nat))) : Looked × State :=
  let cuts := s.earlyCuts f.port
  if cuts.isEmpty then s.forward s.pinnedKey f err ring
  else
    let t := s.forAll cuts State.viewCut
    let r := t.forward s.pinnedKey f err ring
    (r.1, s.unview t r.2)

/-- A cut sees a lookup of a frame of its named stream at an instant of PTP and of elapsed time (R290, R292, R293). -/
def Cut.sees (c : Cut) (f : Frame) (k : Looked) (now elapsed : Nat) : Cut :=
  if c.state ≠ 2 ∨ c.tx.isSome ∨ c.watch ≠ f.port ∨ k.stream ≠ some c.stream then c
  else if c.mode = 1 then
    if f.vec.rtpM && (f.vec.app == 2 || (f.vec.app == 3 && k.sidHit)) && decide (c.t ≤ now ∧ now ≤ c.waitEnd) then
      { c with tx := some (now + 80) }
    else c
  else if c.mode = 2 then { c with lastLook := elapsed }
  else c

/-- Every cut watches the lookup. -/
def State.cutsSee (s : State) (f : Frame) (k : Looked) : State :=
  { s with tue := { s.tue with cuts := s.tue.cuts.map fun e => (e.1, e.2.sees f k s.nowQ s.elapsed) } }

/-- Ordinary lookup of a frame that every cut watches (R292, R293). -/
def State.forwardSeen (s : State) (f : Frame) (err : LookupErrors) (ring : Option (Nat × Option (Nat × Nat))) : State :=
  let r := s.forwardCut f err ring
  r.2.cutsSee f r.1

/-- The decision that a transmit descriptor gives: no table, and the class of QUEUE (R514). -/
def State.lookupDirect (s : State) (f : Frame) (d : Direct) : State :=
  let cls := if d.dest < 512 then s.queueClass (48 * d.dest + d.queue) else 0
  s.cross [{ frame := { f with cls := cls, mapped := cls }, quadrant := quadOf d.dest, target := .directed d, merge := none, transit := none, localOf := none }]

/-- A ring-tagged frame (R395 to R400). -/
def State.lookupRing (s : State) (f : Frame) (err : LookupErrors) : State :=
  match s.ringAccepts f with
  | none => s.badTag f
  | some g =>
    if f.vec.ringSrc = s.get F.RNG_GROUP_CFG_NODE_ID g then s.count F.RNG_CNT_COUNT (6 * g + 2) 1
    else if f.ringCtrl then s.ringControl g f
    else
      let s := (s.cross [transitCopy g f]).count F.RNG_CNT_COUNT (6 * g + 1) 1
      let bind := s.ringBinding g f
      let n := s.path.crossing.length
      let f := { f with ringLocal := true }
      let s := match s.trapReason f with
        | some r => s.cross [{ s.hostCopy f r with merge := bind, localOf := some g }]
        | none => s.forwardSeen f err (some (g, bind))
      if bind.isNone then s.count F.RNG_CNT_COUNT (6 * g + 4) (s.path.crossing.length - n) else s

/-- The fabric plane of a flow: hash[1:0], or that of a port held to one plane; of host port 512 + h plane h (R264, R266). -/
def State.planeOf (s : State) (p hash : Nat) : Nat := if bitOf (s.get F.TUE_ORDER_STRICT_PORT (p / 64)) (p % 64) then p % 4 else hash % 4

/-- The lookup of a frame, under every cut whose T_x has come (R188, R264, R278, R295, R359). -/
def State.lookup (s : State) (f : Frame) (err : LookupErrors) : State :=
  let s := s.cutsDue true
  let cls := s.mappedClass f
  let hash := s.flowHash f
  let f := { f with epoch := s.get F.TUE_EPOCH_CURRENT 0, mapped := cls, cls := cls, hash := hash, plane := s.planeOf f.port hash,
                    cutsSeen := s.tue.applied, early := (s.earlyCuts f.port).map Cut.uid }
  match f.direct with
  | some d => s.lookupDirect f d
  | none =>
    if f.vec.ringTag then s.lookupRing f err
    else
      match s.trapReason f with
      | some r => s.cross [s.hostCopy f r]
      | none => s.forwardSeen f err none

/-- Errors that the lookup meets: flipped TCAM cells and uncorrectable bank rows (R229, R254). -/
def State.rowErrors (s : State) (t : Nat) (err : LookupErrors) : State :=
  (s.when (!err.flipped.isEmpty) fun s => s.cellsFlip (t / 8) err.flipped).forAll err.badRows fun s k => s.rowUncorr (0x10 + t) 4 (k / 2048) (k % 2048)

/-- REORDER_RELEASE: one completed entry leaves in port order (R202); no lookup starts before the tile's replica of the time has aligned (R339). -/
def State.reorderRelease (s : State) (t : Nat) (err : LookupErrors) : State :=
  if s.time.unaligned.contains t then s
  else
  match takeReleased [] (s.farm t).entries with
  | none => s
  | some (f, rest) => ((s.withFarm t { s.farm t with entries := rest }).rowErrors t err).lookup f err

/-- REORDER_RELEASE (R202). -/
def execReorderRelease (t : Nat) (err : LookupErrors) (s : State) : Host.Outcome State Fault Refusal :=
  .next (s.when (s.up && decide (t < 32)) fun s => s.reorderRelease t err)

end Sys2Proof.Machine
end

