-- ==== Sys2Proof/Machine/Egress.lean ====
section
/-! DEFINITION. Arrival at the egress quadrant, replication, the head check, Sexton, and the host's writes to buffers and queues (chapter 11). -/

namespace Sys2Proof.Machine

/-- An entry for a queue, its buffer still to come. -/
def QEntry.of (recipe param reason : Nat) : QEntry :=
  { buf := 0, recipe := recipe, param := param, closer := true, deadline := 0, ringSeq := none, reason := reason, stamp := false, replica := false }

/-- The host queue n of a host port by quadrant. -/
def hostQueue (h n : Nat) : Nat := 24576 + 16 * h + n

/-! ## Replication (R314, R315) -/

/-- A replica entry: port, queue, recipe, parameter, PRUNE (Table 11.2). -/
structure Replica where
  port : Nat
  gq : Nat
  recipe : Nat
  param : Nat
  prune : Bool
  deriving DecidableEq, Repr

/-- A replica entry as an object holds it. -/
def replicaOf (v : Nat) : Replica :=
  let p := bits v 54 10
  { port := p, gq := if p < 512 then 48 * p + 32 + bits v 50 4 else hostQueue (p - 512) (bits v 50 4), recipe := bits v 42 8,
    param := bits v 24 18, prune := bitOf v 23 }

/-- The n entries of a copy's list, as its frame reads them (R295, R314). -/
def State.replicas (s : State) (f : Frame) (first n : Nat) : List Replica := (List.range n).map fun k => replicaOf (s.objFor f 4 (first + k))

/-- One replica of a copy in buffer h; `free` is what its cycle began with (R308), seq the ring sequence that the copy has taken. -/
def State.replicate (s : State) (free : FreeAt) (c : Copy) (h region : Nat) (r : Replica) (closer : Bool) (seq : Option Nat) : Option Nat × State :=
  let f := c.frame
  let lost (s : State) (code : Nat) : State := (s.dropOutIn c.quadrant code r.port (queueLocal r.gq)).gone h false closer
  let size := (s.buf h).elim 0 (·.size)
  if (r.prune ∧ r.port = f.port) ∨ c.localOf.any fun g => r.port = 128 * g ∨ r.port = 128 * g + 4 then (seq, s.gone h false closer)
  else if !(r.port == 512 + c.quadrant || (s.isPort r.port && r.port / 128 == c.quadrant)) then (seq, (lost s cNoRoute).count F.MCR_CNT_COUNT (3 * c.quadrant + 2) 1)
  else
    match s.refusal f r.gq size (s.freeFor free r.gq region size) with
    | some code => (seq, lost s code)
    | none =>
      let e : QEntry :=
        { QEntry.of (if c.localOf.isSome then stripRecipe.1 else r.recipe) (if c.localOf.isSome then stripRecipe.2 else r.param) 0 with
          buf := h, closer := closer, ringSeq := seq, replica := true, deadline := if r.gq < 24576 then s.deadlineOf f r.gq else 0 }
      let t := s.takeSeq r.port e
      if t.2.flushes r.port then (t.1, lost t.2 cLinkFlush)
      else (t.1, (t.2.enqueue r.gq { e with ringSeq := if r.recipe = 0x11 then t.1 else none }).count F.MCR_CNT_COUNT (3 * c.quadrant + 1) 1)

/-- The replicas of one cycle, in order: all see the free bytes at its start, each the queues as those before it leave them (R308, R314). -/
def State.replicateCycle (s : State) (y : QuadCycle) (c : Copy) (h region : Nat) (seq : Option Nat) (l : List (Replica × Bool)) : Option Nat × State :=
  s.oneCycle c.quadrant y.dropped l seq fun s seq x => s.replicate y.free c h region x.1 x.2 seq

/-- The replicas of a copy, 8 in each of n cycles; the first cycle is the allocation's (R314). -/
def State.replicateAll (s : State) (y : QuadCycle) (c : Copy) (h region : Nat) (seq : Option Nat) (l : List (Replica × Bool)) : Nat → State
  | 0 => s
  | n + 1 =>
    let r := s.replicateCycle y c h region seq (l.take 8)
    State.replicateAll r.2 { y with free := r.2.freeAt c.quadrant, dropped := false } c h region r.1 (l.drop 8) n

/-- A multicast copy: one buffer, then its replicas, counted as they are enqueued or find no route (R310, R314, R537). -/
def State.groupIn (s : State) (y : QuadCycle) (c : Copy) (first n : Nat) (shelter : Bool) : State :=
  let region := if shelter then 4 else 0
  let s := s.count F.MCR_CNT_COUNT (3 * c.quadrant) 1
  match s.alloc c.quadrant region c.frame with
  | (none, t) => (t.keepLowest (t.dropIn c.quadrant cPoolEmpty c.frame.port true 0) c.quadrant y.dropped).evQ F.BUF_EVENT_POOL_EMPTY c.quadrant
  | (some h, t) =>
    let l := (t.replicas c.frame first n).zipIdx.map fun x => (x.1, x.2 + 1 == n)
    (t.replicateAll y c h region none l (n / 8 + 1)).pauseCheck c.frame.port c.frame.cls

/-! ## Arrival (R60, R306) -/

/-- Ports that a copy is for. -/
def State.targetPorts (s : State) (c : Copy) : List Nat :=
  match c.target with
  | .unicast p _ _ => [p]
  | .host h _ _ => [512 + h]
  | .directed d => [d.dest]
  | .group first n _ => (s.replicas c.frame first n).map (·.port)

/-- The egress quadrant can accept the copy: the tiles of its front ports are awake (Table 4.4). -/
def State.canAccept (s : State) (c : Copy) : Bool := (s.targetPorts c).all fun p => decide (512 ≤ p) || s.sleepOf (p / 16) == 0

/-- Queue of a copy that is for one queue; a multicast copy has none of its own. -/
def State.copyQueue (s : State) (c : Copy) : Nat :=
  match c.target with
  | .unicast p _ _ => s.ucastQueue p c.frame.cls c.frame.hash
  | .host h n _ => hostQueue h n
  | .directed d => if d.dest < 512 then 48 * d.dest + d.queue else hostQueue (d.dest - 512) d.queue
  | .group _ _ _ => 0

/-- A discard of a copy at the merge check (R306, R331). -/
def State.mergeDrop (s : State) (c : Copy) : State :=
  match c.target with
  | .group _ _ _ => s.dropIn c.quadrant cMergeDup c.frame.port true 0
  | _ =>
    let s := s.dropOut cMergeDup ((s.targetPorts c).headD 0) (queueLocal (s.copyQueue c))
    c.frame.handle.elim s fun h => s.gone h false true

/-- A copy past the merge check goes to its queue or is replicated in the cycle y. -/
def State.deliver (s : State) (y : QuadCycle) (c : Copy) : State :=
  let enter (e : QEntry) : State := s.keepLowest (s.unicastIn y.free c.frame (s.copyQueue c) e) c.quadrant y.dropped
  match c.target with
  | .unicast _ r a => enter (QEntry.of r a 0)
  | .host _ _ reason => enter (QEntry.of 0 0 reason)
  | .directed d => enter (QEntry.of d.recipe d.param 7)
  | .group first n shelter => s.groupIn y c first n shelter

/-- Frames for the quadrant still wait at the crossbar (TOP_CAPACITY.XBAR_QUEUED). -/
def State.xbarMark (s : State) (q : Nat) : State :=
  if s.path.crossing.any fun c => c.quadrant == q then s.setBit F.TOP_CAPACITY_XBAR_QUEUED 0 q else s

/-- A copy is served before another: it has waited longer, or came in the same cycle from a lower ingress tile (R302, R393). -/
def Copy.first (a b : Copy) : Bool := decide (a.since < b.since) || (a.since == b.since && decide (tileOf a.frame.port < tileOf b.frame.port))

/-- Place at the crossbar of the copy that quadrant q serves next, of those that it can accept; dealing order within a tile is the order of the list (R302, R393). -/
def State.nextCopy (s : State) (q : Nat) : Option Nat :=
  let l := s.path.crossing.zipIdx.filter fun x => x.1.quadrant == q && (s.canAccept x.1 || s.quiesced q)
  let better (a : Option (Copy × Nat)) (x : Copy × Nat) : Option (Copy × Nat) := if a.any fun y => !x.1.first y.1 then a else some x
  (l.foldl better none).map (·.2)

/-- The cycle in which quadrant q serves a copy: that of the copy before it, where both reached the crossbar and are served at one instant and this one comes from a higher ingress tile; else one that begins now (R302, R308; log 32). -/
def State.cycleOf (s : State) (q : Nat) (c : Copy) : QuadCycle :=
  let new : QuadCycle := { now := s.elapsed, since := c.since, tile := tileOf c.frame.port, free := s.freeAt q }
  match SMap.find s.path.cycles q with
  | some y => if y.now = s.elapsed ∧ y.since = c.since ∧ y.tile < tileOf c.frame.port then { new with free := y.free, dropped := y.dropped } else new
  | none => new

/-- EGRESS_ARRIVAL: the next copy that quadrant q can accept (R302, R306). DEDUCED, log 50: at a quiesced quadrant a copy is discarded as FENCED_UNIT from whichever quadrant it comes; R60 names those of other quadrants, and one of its own ports that had passed staging before the quiesce began fares alike. A quadrant in reset discards them too (Table 3.4). -/
def State.egressArrival (s : State) (q : Nat) : State :=
  match s.nextCopy q with
  | none => s.xbarMark q
  | some i =>
    match s.path.crossing[i]? with
    | none => s
    | some c =>
      let s := { s with path := { s.path with crossing := s.path.crossing.eraseIdx i } }
      let s := s.xbarMark q
      if s.quiesced q || s.inReset (.quadrant q) then s.loseFrame c.frame cFencedUnit
      else
        let y := s.cycleOf q c
        let s := { s with path := { s.path with cycles := SMap.put s.path.cycles q y } }
        let t := match c.merge with
          | none => s.deliver y c
          | some (ctx, m) =>
            match s.mergeStep c.frame q ctx m with
            | (true, s) => s.deliver y c
            | (false, s) => s.keepLowest (s.mergeDrop c) q y.dropped
        { t with path := { t.path with cycles := SMap.put t.path.cycles q { y with dropped := y.dropped || t.drops q != s.drops q } } }

/-! ## The head check (R319) -/

/-- Queues of a quadrant that hold a frame. -/
def State.quadQueues (s : State) (q : Nat) : List Nat := (s.path.queues.map (·.1)).filter fun gq => queueQuad gq == q

/-- AGE_HEAD_CHECK: queues that have not dequeued since the last check lose every aged frame. -/
def State.ageHeadCheck (s : State) (q : Nat) : State :=
  let old := s.path.dequeued
  let t := s.forAll ((s.quadQueues q).filter fun gq => !old.contains gq) fun s gq =>
    s.dropQueue gq cAged fun e => (s.buf e.buf).any fun b => s.isAged gq b
  { t with path := { t.path with dequeued := old.filter fun gq => queueQuad gq != q } }

/-! ## Sexton (R323) -/

/-- A buffer is referenced: a queue entry, a frame in the egress pipeline, a reinjection under way, or the host. -/
def State.referenced (s : State) (h : Nat) (b : Buf) : Bool :=
  b.hostOwned || s.path.queues.any (fun e => e.2.any fun x => x.buf == h) ||
    s.path.ports.any (fun e => e.2.rewriting.any (fun r => r.entry.buf == h) || e.2.wire.any fun w => w.entry.buf == h) ||
    s.path.delivering.any (fun e => e.2.2.1.buf == h) ||
    (s.framesIn ++ s.path.staging.flatMap (·.2)).any fun f => f.handle == some h

/-- Interval of Sexton's walks. -/
def State.sextonMs (s : State) (q : Nat) : Nat := s.get F.BUF_SEXTON_CTRL_INTERVAL_MS q

/-- A record of Sexton's: BUF_SEXTON_LAST, its count, the event and the report (R323). -/
def State.sextonRecord (s : State) (q h partition : Nat) (double : Bool) : State :=
  let s := ((((s.set F.BUF_SEXTON_LAST_KIND q (b2n double)).set F.BUF_SEXTON_LAST_PARTITION q partition).set F.BUF_SEXTON_LAST_POOL q (handlePool h)).set
    F.BUF_SEXTON_LAST_INDEX q (handleIndex h)).set F.BUF_SEXTON_LAST_VALID q 1
  let s := s.count (if double then F.BUF_SEXTON_LAST_DOUBLES else F.BUF_SEXTON_LAST_LEAKS) q 1
  (s.evQ (if double then F.BUF_EVENT_SEXTON_DOUBLE else F.BUF_EVENT_SEXTON_LEAK) q).report (srcQuad q 2) kCheck 0x06 1 h

/-- A leaked buffer returns to its free list (R323). -/
def State.sextonLeak (s : State) (q h : Nat) (b : Buf) : State := (s.freeBuf h).sextonRecord q h (b.region - 1) false

/-- A buffer of a sheltered partition that the walk finds on a free list beside its owner or on two: the extra entry goes, the owner stays (R323). A free list here is the buffers of a partition that none owns, so an extra entry comes with the walk that finds it (log 78). -/
def State.sextonDouble (s : State) (q h partition : Nat) : State :=
  let right := match s.buf h with
    | some b => b.region == partition + 1
    | none => decide (partition < 4)
  if right && handleQuad h == q && !handleDram h then s.sextonRecord q h partition true else s

/-- One buffer under the walk. -/
def State.audit (s : State) (q h : Nat) : State :=
  match s.buf h with
  | none => s
  | some b =>
    if s.referenced h b then s.onBuf h fun b => { b with marked := none }
    else
      match b.marked with
      | none => s.onBuf h fun b => { b with marked := some s.elapsed }
      | some t => if 2 * nsUnits (1000000 * s.sextonMs q) ≤ s.elapsed - t then s.sextonLeak q h b else s

/-- SEXTON_WALK: every buffer of the sheltered partitions of a quadrant; `doubles` are the handles and partitions of those with an extra entry on a free list. -/
def State.sextonWalk (s : State) (q : Nat) (doubles : List (Nat × Nat)) : State :=
  let s := s.forAll ((s.path.bufs.filter fun e => handleQuad e.1 == q && e.2.region != 0).map (·.1)) fun s h => s.audit q h
  s.forAll doubles fun s x => s.sextonDouble q x.1 x.2

/-! ## The host's writes (R312, R316, R324, R332) -/

/-- A refused free: captured, or merged while VALID is set (R64, R316). -/
def State.foreignFree (s : State) (q handle master : Nat) : State :=
  let s :=
    if s.on F.BUF_FOREIGN_FREE_VALID q then s.count F.BUF_FOREIGN_FREE_COUNT q 1
    else (((s.set F.BUF_FOREIGN_FREE_VALID q 1).set F.BUF_FOREIGN_FREE_MASTER q master).set F.BUF_FOREIGN_FREE_HANDLE q handle).set
      F.BUF_FOREIGN_FREE_COUNT q 0
  (s.evQ F.BUF_EVENT_BPM_FOREIGN_FREE q).report (srcQuad q 1) kAccess master 2 handle

/-- BUF_FREE as written by a master: the host gives up a buffer of the quadrant, which frees when nothing else holds it (R312, R315, R316). -/
def State.bufFree (s : State) (q handle master : Nat) : State :=
  match s.buf handle with
  | some b =>
    if b.hostOwned ∧ handleQuad handle = q then (s.onBuf handle fun b => { b with hostOwned := false }).settleBuf handle
    else s.foreignFree q handle master
  | none => s.foreignFree q handle master

/-- The queue belongs to a configured port (R31). -/
def State.queueUsed (s : State) (gq : Nat) : Bool := decide (gq < 24576) && s.isPort (gq / 48)

/-- Queues that count toward the limit of deep queues: flagged, or still holding frames in DRAM (R324, R328). -/
def State.deepQueues (s : State) : List Nat :=
  (s.allPorts.flatMap fun p => List.range' (48 * p) 32).filter fun gq => s.on F.BUF_QUEUE_CFG_DEEP gq || s.inDram gq

/-- DEEP may be set on the queue (R324). -/
def State.deepOk (s : State) (gq : Nat) : Bool :=
  decide (gq % 48 < 32) && ((List.range 2).any fun d => s.on F.DRC_SHARE_COUNT_MIB (5 * d + queueQuad gq)) &&
    (s.deepQueues.contains gq || decide (s.deepQueues.length < 4096))

/-- BUF_QUEUE_CFG as written (R324, R332). -/
def State.queueCfgWrite (s : State) (gq v : Nat) : State :=
  if s.queueUsed gq = false then s
  else
    let deep := bitOf v 6 && s.deepOk gq
    let s := if bitOf v 6 && !deep then s.evQ F.BUF_EVENT_DEEP_REFUSED (queueQuad gq) else s
    let s := (s.set F.BUF_QUEUE_CFG_PROFILE gq (bits v 0 6)).set F.BUF_QUEUE_CFG_DEEP gq (b2n deep)
    if bits v 7 2 = 3 then s else s.set F.BUF_QUEUE_CFG_SHELTER gq (bits v 7 2)

/-! ## The commands -/

/-- AGE_HEAD_CHECK (R319). -/
def execAgeHeadCheck (q : Nat) (s : State) : Host.Outcome State Fault Refusal :=
  .next (s.when (s.quadUp q && decide (q < 4)) fun s => s.ageHeadCheck q)

/-- SEXTON_WALK (R323). -/
def execSextonWalk (x : SextonFind) (s : State) : Host.Outcome State Fault Refusal :=
  .next (s.when (s.quadUp x.quadrant && decide (x.quadrant < 4)) fun s => s.sextonWalk x.quadrant x.doubles)

/-- BUF_FREE_WRITE (R312, R316). -/
def execBufFreeWrite (q v : Nat) (s : State) : Host.Outcome State Fault Refusal :=
  .next (s.when (s.quadUp q && decide (q < 4)) fun s => s.bufFree q (v % 2 ^ 32) 0)

/-- BUF_QUEUE_CFG_WRITE (R324). -/
def execBufQueueCfgWrite (gq v : Nat) (s : State) : Host.Outcome State Fault Refusal := .next (s.when (s.quadUp (queueQuad gq)) fun s => s.queueCfgWrite gq v)

end Sys2Proof.Machine
end

