-- ==== Sys2Proof/Machine/Mail.lean ====
section
/-! DEFINITION. Mailbox commands as Caddis runs them: their refusals, their single response, and what stands between taking a command and answering it (R73, R522 to R524). -/

namespace Sys2Proof.Machine

/-- Status codes of Table 20.6. -/
def mbDone : Nat := 0
def mbBusy : Nat := 1
def mbBadOpcode : Nat := 2
def mbBadArg : Nat := 3

/-- Caddis is in operation: powered, out of cold and warm reset, not halted, not hibernating. -/
def State.caddisUp (s : State) : Bool :=
  s.pins.humPower && !s.pins.porLow && !s.pins.held && !s.on F.TOP_BOOT_HALT 0 && s.get F.HUM_DEVICE_STATE_STATE 0 != 3

/-- A response enters the FIFO (R523); source 73 is raised (Table 20.5). -/
def State.mailRespond (s : State) (op tag status result data : Nat) : State :=
  let r : MailResp := { opcode := op, tag := tag, status := status, result := result, data := data }
  { s with host := { s.host with resp := s.host.resp ++ [r] } }.cause 73

/-- A command that has been executed. -/
def State.mailDone (s : State) (op tag result : Nat) : State := s.mailRespond op tag mbDone result 0

/-- Responses still owed by commands under way (R523). -/
def State.mailOwed (s : State) : Nat :=
  s.host.taken.length + b2n s.nvmJob.isSome + b2n s.swap.isSome + b2n s.clocks.change.isSome + s.optics.cal.length + s.optics.opening.length +
    (s.drams.filter fun e => e.2.retrain.isSome).length

/-- The FIFO has room for one more response beside those owed, so that none is lost (R523). -/
def State.mailRoom (s : State) : Bool := decide (s.host.resp.length + s.mailOwed < 16)

/-- A stack that is being retrained. -/
def State.retraining (s : State) (d : Nat) : Bool := ((SMap.findD s.drams d default).retrain).isSome

/-- Commands answered MB_BUSY: before READY, and in conflict (R73, R524). -/
def State.mailIsBusy (s : State) (op : Nat) (args : List Nat) : Bool :=
  let a := args.getD 0 0
  (!s.on F.TOP_BOOT_READY 0 && op != 1 && op != 5) ||
    ((op == 2 || op == 3) && s.swap.isSome) ||
    ((op == 4 || op == 5 || op == 13) && s.nvmJob.isSome) ||
    (op == 7 && s.retraining a) ||
    (op == 8 && (SMap.find s.optics.cal a).isSome) ||
    (op == 12 && s.clocks.change.isSome)

/-- Arguments out of range where no result code of the command covers them (Tables 20.6 and 20.7). -/
def mailBadArgs (op : Nat) (args : List Nat) : Bool :=
  let a := args.getD 0 0
  let b := args.getD 1 0
  ((op == 2 || op == 13) && decide (1 < a)) ||
    (op == 3 && (decide (1 < a) || decide (1000 < args.getD 2 0))) ||
    (op == 7 && (decide (1 < a) || decide (1000 < b))) ||
    ((op == 9 || op == 10) && decide (3 < a)) ||
    (op == 11 && (decide (3 < a) || decide (1 < b)))

/-- The status that refuses a command, if any. DESIGN CHOICE, log 96: an opcode that no command has is answered MB_BAD_OPCODE also before READY, where R73 has MB_BUSY answer all but two commands; and MB_BUSY goes before MB_BAD_ARG. -/
def State.mailRefusal (s : State) (op : Nat) (args : List Nat) : Option Nat :=
  if op = 0 ∨ 13 < op then some mbBadOpcode
  else if s.mailIsBusy op args then some mbBusy
  else if mailBadArgs op args then some mbBadArg
  else none

/-- The arguments that a command uses (Table 20.7). -/
def mailArity (op : Nat) : Nat :=
  if op = 3 then 3 else if op = 4 ∨ op = 5 then 4 else if op = 7 ∨ op = 11 then 2 else if op = 1 ∨ op = 6 then 0 else 1

/-- The command leaves the list of those taken. -/
def State.mailBegin (s : State) (op tag : Nat) (args : List Nat) : State :=
  { s with host := { s.host with taken := s.host.taken.erase { opcode := op, tag := tag, args := args } } }

/-- Caddis, restarted where it sleeps, runs a command: refused with its status, or executed; with no room for its response it waits (R117, R523; log 15). -/
def State.mailRun (s : State) (op tag : Nat) (args : List Nat) (f : State → State) : State :=
  let t := s.caddisRestart.mailBegin op tag args
  if s.caddisUp = false then s
  else if t.mailRoom = false then s.caddisRestart
  else
    match t.mailRefusal op args with
    | some st => t.mailRespond op tag st 0 0
    | none => f t

/-- Caddis copies the command in the slot, and answers at once one that it refuses (R73, R522 to R524). -/
def State.mailCopy (s : State) : State :=
  let op := s.get F.FWM_CMD_OPCODE 0
  let tag := s.get F.FWM_CMD_TAG 0
  let args := (List.range (mailArity op)).map fun k => s.get F.FWM_ARG_ARG k
  let s := s.set F.FWM_STATUS_SLOT_BUSY 0 0
  match s.mailRefusal op args with
  | some st => s.mailRespond op tag st 0 0
  | none =>
    if op = 12 ∧ 3 < args.headD 0 then s.mailDone 12 tag 1
    else { s with host := { s.host with taken := s.host.taken ++ [{ opcode := op, tag := tag, args := args }] } }

end Sys2Proof.Machine
end

