-- ==== Sys2Proof/Machine/Gates.lean ====
section
/-! DEFINITION. Gate lists of ports and stream gates: change, cancel, start, transition (R370 to R376, R380, R381). -/

namespace Sys2Proof.Machine

/-! ## A list in time -/

/-- Segments of one cycle: start and entry word; entries beyond the cycle are cut (R371). -/
def segmentsFrom (cycle : Nat) : Nat → List Nat → List (Nat × Nat)
  | _, [] => []
  | pos, w :: ws => if cycle ≤ pos then [] else (pos, w) :: segmentsFrom cycle (pos + bits w 8 30) ws

/-- Segments of a list's cycle. -/
def GateList.segments (l : GateList) : List (Nat × Nat) := segmentsFrom l.cycle 0 l.entries

/-- Position of a time in the cycle. -/
def GateList.position (l : GateList) (t : Nat) : Nat := (((t : Int) - l.start) % (max 1 l.cycle : Nat)).toNat

/-- From a position of the cycle to the next closing of a class, or none where it never closes. -/
def GateList.closesIn (l : GateList) (c pos : Nat) : Option Nat :=
  let ds := (l.segments.filter fun x => !bitOf x.2 c).map fun x => if pos ≤ x.1 then x.1 - pos else x.1 + l.cycle - pos
  ds.head?.map fun d => ds.foldl min d

/-- First instant at or after t at which a class closes under the list in force and the pending one (R375). -/
def Gate.closeAt (g : Gate) (c t : Nat) : Option Nat :=
  let under (l : GateList) (at_ : Nat) : Option Nat := (l.closesIn c (l.position at_)).map (at_ + ·)
  match g.pending with
  | some p =>
    if p.start ≤ t then (if p.clear then none else under p t)
    else
      let first := (g.oper.bind fun l => under l t).filter fun x => decide (x < p.start)
      first.orElse fun _ => if p.clear then none else under p p.start
  | none => g.oper.bind fun l => under l t

/-- The class is open at t (R371). -/
def Gate.openAt (g : Gate) (c t : Nat) : Bool := (g.inForce t).all fun l => bitOf (l.at t).2 c

/-- Lengths of the segments of a cycle with their words. -/
def GateList.lengths (l : GateList) : List (Nat × Nat) :=
  let segs := l.segments
  let ends := (segs.drop 1).map (·.1) ++ [l.cycle]
  (segs.zip ends).map fun x => (x.2 - x.1.1, x.1.2)

/-- Longest continuous open time of a class, joined across the cycle boundary; none where it never closes (R376). -/
def GateList.maxOpen (l : GateList) (c : Nat) : Option Nat :=
  let ls := l.lengths
  if ls.all fun x => bitOf x.2 c then none
  else
    some ((ls ++ ls).foldl (fun (a : Nat × Nat) x => if bitOf x.2 c then (a.1 + x.1, max a.2 (a.1 + x.1)) else (0, a.2)) (0, 0)).2

/-! ## The registers of a unit -/

/-- The registers of a port gate or a stream gate, and where its lists lie. -/
structure GateRegs where
  key : Nat
  i : Nat
  adminEn : Field
  adminLen : Field
  cycle : Field
  baseNs : Field
  baseS : Field
  changeNs : Field
  changeS : Field
  operEn : Field
  pending : Field
  entry : Field
  operLen : Field
  basePast : Field
  cfgErr : Field
  locked : Field
  started : Field
  adminEntry : Field
  operEntry : Field
  /-- Instance of the first admin and oper entry, and the most entries. -/
  listBase : Nat
  most : Nat

/-- The registers of a port's gate. -/
def State.portGate (s : State) (p : Nat) : GateRegs where
  key := p
  i := p
  adminEn := F.GAT_PORT_CTRL_ADMIN_EN
  adminLen := F.GAT_PORT_CTRL_ADMIN_LEN
  cycle := F.GAT_PORT_CYCLE_CYCLE_NS
  baseNs := F.GAT_PORT_BASE_NS_NS
  baseS := F.GAT_PORT_BASE_S_SECONDS
  changeNs := F.GAT_PORT_CHANGE_NS_NS
  changeS := F.GAT_PORT_CHANGE_S_SECONDS
  operEn := F.GAT_PORT_STATUS_OPER_EN
  pending := F.GAT_PORT_STATUS_PENDING
  entry := F.GAT_PORT_STATUS_ENTRY
  operLen := F.GAT_PORT_STATUS_OPER_LEN
  basePast := F.GAT_PORT_EVENT_BASE_PAST
  cfgErr := F.GAT_PORT_EVENT_CFG_ERR
  locked := F.GAT_PORT_EVENT_ADMIN_LOCKED
  started := F.GAT_PORT_EVENT_STARTED
  adminEntry := F.GAT_ADMIN_LIST_ENTRY
  operEntry := F.GAT_OPER_LIST_ENTRY
  listBase := 2048 * (p / 16) + s.get F.GAT_PORT_STATUS_LIST_BASE p
  most := SMap.findD s.layers.time.gateListLen p 0

/-- The registers of stream gate g, 16 × tile + unit. -/
def streamGateRegs (g : Nat) : GateRegs where
  key := 512 + g
  i := g
  adminEn := F.GAT_SG_CTRL_ADMIN_EN
  adminLen := F.GAT_SG_CTRL_ADMIN_LEN
  cycle := F.GAT_SG_CYCLE_CYCLE_NS
  baseNs := F.GAT_SG_BASE_NS_NS
  baseS := F.GAT_SG_BASE_S_SECONDS
  changeNs := F.GAT_SG_CHANGE_NS_NS
  changeS := F.GAT_SG_CHANGE_S_SECONDS
  operEn := F.GAT_SG_STATUS_OPER_EN
  pending := F.GAT_SG_STATUS_PENDING
  entry := F.GAT_SG_STATUS_ENTRY
  operLen := F.GAT_SG_STATUS_OPER_LEN
  basePast := F.GAT_SG_EVENT_BASE_PAST
  cfgErr := F.GAT_SG_EVENT_CFG_ERR
  locked := F.GAT_SG_EVENT_ADMIN_LOCKED
  started := F.GAT_SG_EVENT_STARTED
  adminEntry := F.GAT_SG_ADMIN_LIST_ENTRY
  operEntry := F.GAT_SG_OPER_LIST_ENTRY
  listBase := 32 * g
  most := 32

/-- The tile of a unit's registers. -/
def GateRegs.tile (r : GateRegs) : Nat := r.i / 16

/-- Replace gate control. -/
def State.withGate (s : State) (r : GateRegs) (g : Gate) : State := { s with gates := SMap.put s.gates r.key g }

/-- An event bit of a gate unit's tile. -/
def State.evGate (s : State) (r : GateRegs) (f : Field) : State := s.event f r.i (2 + r.tile / 8)

/-! ## Status (GAT_PORT_STATUS, GAT_SG_STATUS) -/

/-- The status registers show the list in force now and the pending change. -/
def State.gateMirror (s : State) (r : GateRegs) : State :=
  let g := s.gate r.key
  let now := g.inForce s.nowNs
  let e := now.elim (0, 0) fun l => l.at s.nowNs
  let s := (s.set r.operEn r.i (b2n now.isSome)).set r.pending r.i (b2n (g.pending.any fun l => decide (s.nowNs < l.start)))
  let s := (s.set r.entry r.i e.1).set r.operLen r.i (now.elim 0 fun l => l.entries.length)
  if r.key < 512 then
    let states := if now.isSome then bits e.2 0 8 else 255
    (s.set F.GAT_PORT_STATUS_STATES r.i states).set F.SCH_PORT_STATUS_GATE_STATES r.i states
  else
    let open_ := now.isNone || bitOf e.2 0
    let ipv := now.isSome && bitOf e.2 1
    ((s.set F.GAT_SG_STATUS_OPEN r.i (b2n open_)).set F.GAT_SG_STATUS_IPV_VALID r.i (b2n ipv)).set F.GAT_SG_STATUS_IPV r.i
      (if ipv then bits e.2 2 3 else 0)

/-! ## Start, change and cancel -/

/-- The oper list as GAT_OPER_LIST and GAT_SG_OPER_LIST show it. -/
def State.operStore (s : State) (r : GateRegs) (l : List Nat) : State :=
  let s := { s with regs := SMap.drop s.regs fun k =>
    k % 1024 == r.operEntry.id % 1024 && decide (r.listBase ≤ k / 1024) && decide (k / 1024 < r.listBase + r.most) }
  s.forAll (l.zip (List.range l.length)) fun s e => s.set r.operEntry (r.listBase + e.2) e.1

/-- A pending list whose start has come goes into force (R373). -/
def State.gateStart (s : State) (r : GateRegs) : State :=
  let g := s.gate r.key
  match g.pending with
  | some l =>
    if l.start ≤ s.nowNs then
      let oper := if l.clear then none else some l
      let s := (s.withGate r { oper := oper, pending := none }).operStore r (oper.elim [] (·.entries))
      (s.evGate r r.started).gateMirror r
    else s
  | none => s

/-- Reserved bits of an entry read zero: Table 13.1 has none below the interval, Table 13.4 has bits [7:5]. -/
def GateRegs.entryOk (r : GateRegs) (w : Nat) : Bool :=
  decide (64 ≤ bits w 8 30) && decide (bits w 8 30 ≤ 10 ^ 9) && (decide (r.key < 512) || decide (bits w 5 3 = 0))

/-- Entries of the admin list. -/
def State.adminList (s : State) (r : GateRegs) : List Nat :=
  (List.range (s.get r.adminLen r.i)).map fun k => s.get r.adminEntry (r.listBase + k)

/-- The admin parameters pass (R373). -/
def State.adminOk (s : State) (r : GateRegs) : Bool :=
  let n := s.get r.adminLen r.i
  let c := s.get r.cycle r.i
  decide (1 ≤ n) && decide (n ≤ r.most) && decide (256 ≤ c) && decide (c ≤ 10 ^ 9) && decide (s.get r.baseNs r.i < 10 ^ 9) &&
    (s.adminList r).all r.entryOk

/-- Start time for a base and a cycle, and whether the base lies in the past (R373). -/
def State.startTime (s : State) (base cycle : Nat) : Nat × Bool :=
  let soon := s.time.master + 1000 * unitNs
  if soon ≤ base * unitNs then (base, false)
  else (base + ceilDiv (soon - base * unitNs) (cycle * unitNs) * cycle, true)

/-- The change is pending from now: CHANGE_TIME reports its start. -/
def State.gatePend (s : State) (r : GateRegs) (l : GateList) : State :=
  let s := s.withGate r { s.gate r.key with pending := some l }
  ((s.set r.changeNs r.i (l.start % 10 ^ 9)).set r.changeS r.i (l.start / 10 ^ 9)).gateMirror r

/-- CHANGE (R373, R374); with ADMIN_EN 0 all gates open at the next oper cycle boundary, at once where no list runs. -/
def State.gateChange (s : State) (r : GateRegs) : State :=
  let s := s.gateStart r
  if s.on r.adminEn r.i = false then
    match (s.gate r.key).oper with
    | some l =>
      let pos := l.position s.nowNs
      s.gatePend r { entries := [], start := s.nowNs + (if pos = 0 then 0 else l.cycle - pos), cycle := l.cycle, clear := true }
    | none =>
      (s.gatePend r { entries := [], start := s.nowNs, cycle := 0, clear := true }).gateStart r
  else if s.adminOk r = false then s.evGate r r.cfgErr
  else
    let cycle := s.get r.cycle r.i
    let t := s.startTime (s.get r.baseS r.i * 10 ^ 9 + s.get r.baseNs r.i) cycle
    let s := if t.2 then s.evGate r r.basePast else s
    s.gatePend r { entries := s.adminList r, start := t.1, cycle := cycle, clear := false }

/-- CANCEL (R374); a start in the same instant comes first (Table 13.6). -/
def State.gateCancel (s : State) (r : GateRegs) : State :=
  let s := s.gateStart r
  (s.withGate r { s.gate r.key with pending := none }).gateMirror r

/-- A write to a port's gate registers: ignored off configured ports, refused where the port owns no gate timer unit (R381). -/
def State.portGateWrite (s : State) (p master : Nat) (f : State → State) : State :=
  if s.isPort p = false then s
  else if s.layers.time.portUnit.any (fun e => e.2 = p ∧ e.1 / 16 = p / 16) then f s
  else s.claimErr 3 (32 * (p / 16) + p % 16) master

/-- A write to a stream gate's registers: refused where the unit has no owner (R381). -/
def State.streamGateWrite (s : State) (g master : Nat) (f : State → State) : State :=
  if (SMap.find s.layers.time.streamUnit g).isSome then f s
  else s.claimErr 3 (32 * (g / 16) + 16 + g % 16) master

/-! ## The commands -/

/-- GATE_CHANGE (R373). -/
def execGateChange (p : Nat) (s : State) : Host.Outcome State Fault Refusal :=
  .next (s.when (s.tileReach (tileOf p) && decide (p < 512)) fun s => s.portGateWrite p 0 fun s => s.gateChange (s.portGate p))

/-- GATE_CANCEL (R374). -/
def execGateCancel (p : Nat) (s : State) : Host.Outcome State Fault Refusal :=
  .next (s.when (s.tileReach (tileOf p) && decide (p < 512)) fun s => s.portGateWrite p 0 fun s => s.gateCancel (s.portGate p))

/-- GATE_LIST_START (R373). -/
def execGateListStart (p : Nat) (s : State) : Host.Outcome State Fault Refusal :=
  .next (s.when (s.up && s.isPort p) fun s => s.gateStart (s.portGate p))

/-- GATE_ENTRY_TRANSITION (R371). -/
def execGateEntryTransition (p : Nat) (s : State) : Host.Outcome State Fault Refusal :=
  .next (s.when (s.up && s.isPort p) fun s => s.gateMirror (s.portGate p))

/-- SG_CHANGE (R380). -/
def execSgChange (g : Nat) (s : State) : Host.Outcome State Fault Refusal :=
  .next (s.when (s.tileReach (g / 16) && decide (g < 512)) fun s => s.streamGateWrite g 0 fun s => s.gateChange (streamGateRegs g))

/-- SG_CANCEL (R380). -/
def execSgCancel (g : Nat) (s : State) : Host.Outcome State Fault Refusal :=
  .next (s.when (s.tileReach (g / 16) && decide (g < 512)) fun s => s.streamGateWrite g 0 fun s => s.gateCancel (streamGateRegs g))

/-- SG_LIST_START (R380). -/
def execSgListStart (g : Nat) (s : State) : Host.Outcome State Fault Refusal :=
  .next (s.when (s.up && decide (g < 512)) fun s => s.gateStart (streamGateRegs g))

/-- SG_TRANSITION (R380). -/
def execSgTransition (g : Nat) (s : State) : Host.Outcome State Fault Refusal :=
  .next (s.when (s.up && decide (g < 512)) fun s => s.gateMirror (streamGateRegs g))

end Sys2Proof.Machine
end

