-- ==== Sys2Proof/Machine/Telem.lean ====
section
/-! DEFINITION. The telemetry history ring as it is written, and the queue sampler (R385, R386, R456, R467). -/

namespace Sys2Proof.Machine

/-- Records of the ring of a stack: 65,536 for each MiB of its share (R456). -/
def State.telemSize (s : State) (d : Nat) : Nat := s.get F.DRC_SHARE_COUNT_MIB (5 * d + 4) * 65536

/-- The stack whose ring a quadrant writes to: the one beside it, else the other (R456). -/
def State.telemStack (s : State) (q : Nat) : Option Nat :=
  let d := q / 2
  if 0 < s.telemSize d then some d else if 0 < s.telemSize (1 - d) then some (1 - d) else none

/-- The stack takes telemetry records: in service and not fenced (R464, R467, R471). -/
def State.telemTakes (s : State) (d : Nat) : Bool :=
  s.get F.DRC_STATUS_STATE d == 2 && !s.on F.DRC_STATUS_FENCED d

/-- A record is lost: counted by the stack and by the quadrant (R386, R464, R467, R471). -/
def State.telemLost (s : State) (q d : Nat) : State :=
  ((s.count F.DRC_CNT_COUNT (6 * d + 5) 1).count F.SMP_CNT_COUNT (3 * q + 2) 1).evQ F.SMP_EVENT_RECORDS_LOST q

/-- Records of a quadrant that the ring accepts between two sample instants: 256 million a second (R386; log 42). -/
def State.sampleBudget (s : State) (q : Nat) : Nat := s.get F.SMP_CTRL_PERIOD_NS q * 256 / 1000

/-- The quadrant has used what the ring accepts of it; with no sample period the ring sets no limit of its own. -/
def State.ringSpent (s : State) (q : Nat) : Bool :=
  s.on F.SMP_CTRL_PERIOD_NS q && decide (s.sampleBudget q ≤ SMap.findD s.path.records q 0)

/-- Pseudo-channel and byte address of the burst that holds record i of a stack's ring; the ring takes the pseudo-channels in turn (R453, R456; DESIGN CHOICE, log 112). -/
def State.telemBurst (s : State) (d i : Nat) : Nat × Nat :=
  (i / 4 % 32, s.get F.DRC_SHARE_FIRST_MIB (5 * d + 4) * 2 ^ 20 + i / 4 * 64)

/-- One record of a quadrant enters the ring at WRITE_INDEX (R456), whatever its type within the quadrant's limit (R386); every access moves one burst (R452). -/
def State.telemWrite (s : State) (q rec : Nat) : State :=
  match s.telemStack q with
  | none => s
  | some d =>
    if s.telemTakes d = false ∨ s.ringSpent q = true then s.telemLost q d
    else
      let b := s.telemBurst d (s.get F.DRC_TELEM_STAT_WRITE_INDEX d)
      let s := { s with path := { s.path with records := SMap.put s.path.records q (SMap.findD s.path.records q 0 + 1) } }
      let i := s.get F.DRC_TELEM_STAT_WRITE_INDEX d
      let n := s.telemSize d
      let s := { s with drams := SMap.modify s.drams d default fun x => { x with ring := SMap.put x.ring i rec } }
      let s := if i + 1 = n then s.set F.DRC_TELEM_STAT_WRAPPED d 1 else s
      let s := s.dramWrites d [(b.1, { addr := b.2, telem := true })]
      (s.set F.DRC_TELEM_STAT_WRITE_INDEX d ((i + 1) % n)).count F.SMP_CNT_COUNT (3 * q + 1) 1

/-- Records leave for a quadrant's ring: RING_EN is set and some ring exists (R386, R456). -/
def State.telemOn (s : State) (q : Nat) : Bool := s.on F.SMP_CTRL_RING_EN q && (s.telemStack q).isSome

/-- A record in the layout of Table 13.7. -/
def telemRecord (type queue time high frames hol : Nat) : Nat :=
  type * 2 ^ 126 + queue % 2 ^ 15 * 2 ^ 111 + time % 2 ^ 47 * 2 ^ 64 + min high (2 ^ 24 - 1) * 2 ^ 40 +
    min frames (2 ^ 20 - 1) * 2 ^ 20 + min hol (2 ^ 20 - 1)

/-- The global ID of the quadrant's queue of index n of the sampler: port queues, then host queues. -/
def sampleQueue (q n : Nat) : Nat := if n < 6144 then 6144 * q + n else 24576 + 16 * q + (n - 6144)

/-- The sampler's index of a global queue ID. -/
def sampleIndex (gq : Nat) : Nat := if gq < 24576 then gq % 6144 else 6144 + (gq - 24576) % 16

/-- DEPTH, FRAMES and HOL_DELAY of a queue now (R385). -/
def State.sampleOf (s : State) (gq : Nat) : Nat × Nat × Nat :=
  let l := s.queue gq
  let age := match l.head?.bind fun e => s.buf e.buf with
    | some b => s.age b.frame
    | none => 0
  (ceilDiv (s.depth gq + s.depthDram gq) 256, l.length, age)

/-- A field of the sampler's result saturates. -/
def State.sampleSet (s : State) (f : Field) (i v : Nat) : State := s.set f i (min v (2 ^ f.width - 1))

/-- One queue is sampled: SMP_LAST whole, each field of SMP_MAX on its own (R385). -/
def State.sampleOne (s : State) (q n : Nat) : State :=
  let i := 6160 * q + n
  let x := s.sampleOf (sampleQueue q n)
  let s := ((s.sampleSet F.SMP_LAST_DEPTH i x.1).sampleSet F.SMP_LAST_FRAMES i x.2.1).sampleSet F.SMP_LAST_HOL_DELAY i x.2.2
  let s := s.sampleSet F.SMP_MAX_DEPTH i (max (s.get F.SMP_MAX_DEPTH i) x.1)
  let s := s.sampleSet F.SMP_MAX_FRAMES i (max (s.get F.SMP_MAX_FRAMES i) x.2.1)
  s.sampleSet F.SMP_MAX_HOL_DELAY i (max (s.get F.SMP_MAX_HOL_DELAY i) x.2.2)

/-- Indexes of a quadrant whose sample can differ from the last: queues that hold a frame, and those whose last sample is stored. -/
def State.sampled (s : State) (q : Nat) : List Nat :=
  let held := (s.path.queues.map (·.1)).filter (fun gq => queueQuad gq == q) |>.map sampleIndex
  let stored := (s.regs.filter fun e => e.1 % 1024 == F.SMP_LAST_FRAMES.id && e.1 / 1024 / 6160 == q).map fun e => e.1 / 1024 % 6160
  (held ++ stored).eraseDups

/-- Watched indexes of a quadrant, ascending; bits above 6,159 are ignored. -/
def State.watched (s : State) (q : Nat) : List Nat :=
  (List.range 97).flatMap fun k =>
    let w := s.get F.SMP_WATCH_WATCH (97 * q + k)
    if w = 0 then [] else ((List.range 64).filter fun b => bitOf w b && decide (64 * k + b < 6160)).map fun b => 64 * k + b

/-- The record of a watched queue, and with STAMP_EN the mark on its tail (R386). -/
def State.watchOne (s : State) (q time n : Nat) : State :=
  let gq := sampleQueue q n
  let x := s.sampleOf gq
  let s := s.telemWrite q (telemRecord 0 gq time x.1 x.2.1 x.2.2)
  if s.on F.SMP_CTRL_STAMP_EN q then
    match (s.queue gq).reverse with
    | e :: rest => s.withQueue gq (rest.reverse ++ [{ e with stamp := true }])
    | [] => s
  else s

/-- A quadrant is asleep: its eight tiles are in torpor (R123). -/
def State.quadAsleep (s : State) (q : Nat) : Bool := (List.range 8).all fun k => s.get F.PWQ_TILE_SLEEP_STATE (8 * q + k) == 2

/-- QUEUE_SAMPLE: every queue of the quadrant at a sample instant (R385, R386). -/
def State.queueSample (s : State) (q : Nat) : State :=
  let period := s.get F.SMP_CTRL_PERIOD_NS q
  if period = 0 ∨ s.quadAsleep q = true then s
  else
    let time := s.nowNs - s.nowNs % 10 ^ 9 % period
    let gap := SMap.find s.path.gaps q
    let s := { s with path := { s.path with gaps := SMap.del s.path.gaps q, records := SMap.del s.path.records q } }
    let s : State := match gap with
      | some t =>
        let s := s.evQ F.SMP_EVENT_GAP q
        if s.telemOn q then s.telemWrite q (telemRecord 2 0 t 0 0 0) else s
      | none => s
    let s := (s.forAll (s.sampled q) fun s n => s.sampleOne q n).count F.SMP_CNT_COUNT (3 * q) 1
    if s.telemOn q then s.forAll (s.watched q) fun s n => s.watchOne q time n else s

end Sys2Proof.Machine
end

