-- ==== Sys2Proof/Machine/Sched.lean ====
section
/-! DEFINITION. The scheduler of a port: classes, disciplines, shapers, credit, the gate check, the checks at dequeue and the timestamp FIFO (R350 to R354, R361 to R369, R375, R376). -/

namespace Sys2Proof.Machine

/-! ## The timestamp FIFO of a tile (R350 to R354) -/

/-- Records of a tile that wait for the host. -/
def State.tsfRecords (s : State) (t : Nat) : List TsRecord := SMap.findD s.path.tsf t []

/-- Reservations of a port. -/
def State.tsfReservedOf (s : State) (p : Nat) : Nat :=
  ((s.live p).rewriting.filter (·.reserved)).length + ((s.live p).wire.filter (·.reserved)).length

/-- Reservations of a tile. -/
def State.tsfReserved (s : State) (t : Nat) : Nat := ((s.portsOf t).map s.tsfReservedOf).sum

/-- Departure stamps that a tile holds. -/
def State.tsfStamps (s : State) (t : Nat) : List (Nat × DramFault) := SMap.findD s.path.stamps t []

/-- Records and reservations of a tile. -/
def State.tsfCount (s : State) (t : Nat) : Nat := (s.tsfRecords t).length + s.tsfReserved t

/-- The pacing hold of a tile (R351). -/
def State.pacing (s : State) (t : Nat) : Bool := s.on F.TSF_CTRL_PACE_EN t && decide (s.get F.TSF_CTRL_WATERMARK t ≤ s.tsfCount t)

/-- A port has its share in use, or the FIFO has no entry for a record (R350 to R352). -/
def State.tsfFull (s : State) (p : Nat) : Bool :=
  let mine := ((s.tsfRecords (p / 16)).filter fun r => r.port == p).length + s.tsfReservedOf p
  decide (SMap.findD s.layers.time.tsfShare p 0 ≤ mine) || decide (64 ≤ s.tsfCount (p / 16))

/-- A departure stamp is lost (R353). -/
def State.stampLost (s : State) (t : Nat) : State := (s.count F.TSF_CNT_COUNT (3 * t + 2) 1).evT F.TSF_EVENT_TELEM_DISPLACED t

/-- A reservation that finds no free entry displaces the oldest departure stamp (R353). -/
def State.tsfDisplace (s : State) (t : Nat) : State :=
  match s.tsfStamps t with
  | _ :: rest =>
    if s.tsfCount t + rest.length + 1 < 64 then s
    else { s with path := { s.path with stamps := SMap.put s.path.stamps t rest } }.stampLost t
  | [] => s

/-- A frame that leaves a record: two-step, an event message, injected by the host (R345, R350). -/
def Frame.twoStep (f : Frame) : Bool := f.tsMode == 1 && f.vec.ptpEvent && decide (512 ≤ f.port)

/-- A departure stamp enters the FIFO, or is lost (R353). -/
def State.stampWrite (s : State) (t rec : Nat) (fault : DramFault) : State :=
  if s.telemOn (t / 8) = false then s
  else if s.get F.TSF_CTRL_WATERMARK t ≤ s.tsfCount t then s
  else if 64 ≤ s.tsfCount t + (s.tsfStamps t).length then s.stampLost t
  else { s with path := { s.path with stamps := SMap.put s.path.stamps t (s.tsfStamps t ++ [(rec, fault)]) } }

/-- TSF_POP as written (R354). -/
def State.tsfPop (s : State) (t v : Nat) : State :=
  if bitOf v 0 then { s with path := { s.path with tsf := SMap.put s.path.tsf t ((s.tsfRecords t).drop 1) } } else s

/-! ## Shapers (R367, R368) -/

/-- A shaper of a port: class c, or 8 for the port shaper. -/
def State.shaper (s : State) (p k : Nat) : Shaper := SMap.findD s.path.shapers (9 * p + k) default

/-- Change a shaper. -/
def State.withShaper (s : State) (p k : Nat) (f : Shaper → Shaper) : State :=
  { s with path := { s.path with shapers := SMap.modify s.path.shapers (9 * p + k) default f } }

/-- The settings of a shaper as its register holds them: enable, rate, burst. -/
def State.shaperRegs (s : State) (p k : Nat) : Bool × Nat × Nat :=
  if k = 8 then (s.on F.SCH_PORT_SHAPER_EN p, s.get F.SCH_PORT_SHAPER_RATE p, s.get F.SCH_PORT_SHAPER_BURST p)
  else
    let i := 8 * p + k
    (s.on F.SCH_SHAPER_CIR_EN i, s.get F.SCH_SHAPER_CIR_RATE i, s.get F.SCH_SHAPER_CIR_BURST i)

/-- What one refill adds in 2^-16 bytes: RATE in Mbit/s over REFILL cycles at the operating point (Table 4.2). -/
def refillBytes (rate refill point : Nat) : Nat :=
  rate * refill * 65536 * 5 / (8000 * if point = 0 then 8 else if point = 1 then 6 else 4)

/-- The settings of a shaper that were written before this instant and that a refill takes now (R368). -/
def State.shaperDue (s : State) (p k : Nat) : Option (Bool × Nat × Nat) :=
  let x := s.shaper p k
  if x.wrote.any fun w => decide (w < s.elapsed) then some (s.shaperRegs p k) else x.due

/-- A shaper takes settings; enabled, it starts full (R367). -/
def Shaper.take (x : Shaper) (r : Bool × Nat × Nat) (now : Nat) : Shaper :=
  { on := r.1, rate := r.2.1, burst := r.2.2, bucket := if r.1 && !x.on then (r.2.2 * 65536 : Nat) else x.bucket
    wrote := x.wrote.filter fun w => decide (now ≤ w), due := none }

/-- One shaper at the end of a refill interval: settings written before this instant take effect, then the bucket gains up to BURST. -/
def State.refillOne (s : State) (p k : Nat) : State :=
  let due := s.shaperDue p k
  let y := due.elim (s.shaper p k) fun r => (s.shaper p k).take r s.elapsed
  if y.on then
    let t := p / 16
    let gain := refillBytes y.rate (s.get F.SCH_CTRL_REFILL t) (s.get F.CLK_QCTRL_ACTUAL (t / 8))
    s.withShaper p k fun _ => { y with bucket := min (y.bucket + (gain : Nat)) (y.burst * 65536 : Nat) }
  else if due.isSome then s.withShaper p k fun _ => y
  else s

/-- SHAPER_REFILL: every shaper of the tile's ports. -/
def State.shaperRefill (s : State) (t : Nat) : State :=
  s.forAll (s.portsOf t) fun s p => s.forAll (List.range 9) fun s k => s.refillOne p k

/-- A shaper that is off or holds more than zero bytes (R362). -/
def State.shaperOpen (s : State) (p k : Nat) : Bool := !(s.shaper p k).on || decide (0 < (s.shaper p k).bucket)

/-- Charge or credit a shaper that is on, in bytes; only a refill caps the bucket (R367). -/
def State.shaperMove (s : State) (p k : Nat) (n : Int) : State :=
  if (s.shaper p k).on then s.withShaper p k fun x => { x with bucket := x.bucket + 65536 * n } else s

/-! ## Credit-based shaper (R369) -/

/-- Credit of a class in 10^-7 bits. -/
def State.credit (s : State) (p c : Nat) : Int := SMap.findD s.path.credits (8 * p + c) 0

/-- Queues of a class on a port. -/
def State.classQueues (s : State) (p c : Nat) : List Nat := (queuesOf p).filter fun gq => s.queueClass gq == c

/-- A frame of the class waits. -/
def State.classWaits (s : State) (p c : Nat) : Bool := (s.classQueues p c).any fun gq => !(s.queue gq).isEmpty

/-- The class transmits: the frame on the wire is from one of its queues. -/
def State.classSends (s : State) (p c : Nat) : Bool := ((s.live p).wire.head?).any fun w => s.queueClass w.queue == c

/-- One class over 12.8 ns: its credit falls, rises, holds or returns to zero (R369; negative credit with nothing waiting rises to zero as in IEEE 802.1Qav, log 43). -/
def State.creditStep (s : State) (p c : Nat) : State :=
  let slope : Int := 128 * (s.get F.SCH_CBS_IDLE_SLOPE (8 * p + c) : Nat)
  let x := s.credit p c
  let closed := !(s.gate p).openAt c s.nowNs || bitOf (s.get F.PRT_STATUS_RX_PAUSED p) c
  let y : Int :=
    if s.classSends p c then x + slope - 128 * (1000000 * s.rate p : Nat)
    else if closed then x
    else if s.classWaits p c then x + slope
    else if 0 ≤ x then 0
    else min 0 (x + slope)
  { s with path := { s.path with credits := if y = 0 then SMap.del s.path.credits (8 * p + c) else SMap.put s.path.credits (8 * p + c) y } }

/-- Every class with CBS over one tick. -/
def State.creditTick (s : State) : State :=
  s.forAll ((s.layers.sched.cbs.filter (·.2)).map (·.1)) fun s k => if s.isPort (k / 8) then s.creditStep (k / 8) (k % 8) else s

/-! ## Selection within a class (R364 to R366) -/

/-- The queue's head is on-die (R327). -/
def State.headReady (s : State) (gq : Nat) : Bool := ((s.queue gq).head?).any fun e => !handleDram e.buf

/-- The better of two queues by a key, then RANK, then local number (R364 to R366). -/
def State.better (s : State) (key : Nat → Nat) (a b : Nat) : Bool :=
  let rank := fun q => s.get F.SCH_QUEUE_CFG_RANK q
  decide (key a < key b) || (key a == key b && (decide (rank a < rank b) || (rank a == rank b && decide (a < b))))

/-- The best queue of a list by a relation. -/
def pickBest (lt : Nat → Nat → Bool) : List Nat → Option Nat
  | [] => none
  | q :: qs => some (qs.foldl (fun a b => if lt b a then b else a) q)

/-- Deadline of a queue's head. -/
def State.headDeadline (s : State) (gq : Nat) : Nat := (s.queue gq).head?.elim 0 (·.deadline)

/-- The earlier deadline modulo 2^32 within 2^31 (R366). -/
def State.sooner (s : State) (a b : Nat) : Bool :=
  let x := s.headDeadline a
  let y := s.headDeadline b
  if x = y then s.better (fun _ => 0) a b else decide ((y + 2 ^ 32 - x) % 2 ^ 32 < 2 ^ 31)

/-- The queue that the discipline of a class selects. -/
def State.selectQueue (s : State) (p c : Nat) : Option Nat :=
  let l := (s.classQueues p c).filter s.headReady
  match s.discipline p c with
  | .strict => pickBest (s.better fun _ => 0) l
  | .wfq =>
    let v := s.get F.SCH_CLASS_STATUS_VTIME (8 * p + c)
    pickBest (s.better fun q => ((SMap.findD s.path.tags q default).finish + 2 ^ 48 - v) % 2 ^ 48) l
  | .edf => pickBest s.sooner l

/-! ## The head (R304, R322, R375, R376) -/

/-- GROW of a recipe in a tile, none where it is not loaded. -/
def State.growOf (s : State) (t r : Nat) : Option Nat :=
  if s.on F.RWE_RECIPE_LOADED (256 * t + r) then some (s.get F.RWE_RECIPE_GROW (256 * t + r)) else none

/-- Gate-check bytes W_b of a frame on a port (R375). -/
def State.gateBytes (s : State) (p : Nat) (e : QEntry) : Nat :=
  let mtu := s.get F.PRT_CFG_MTU p
  let l := match s.growOf (p / 16) e.recipe with
    | some g => min mtu (s.entryLen e + g)
    | none => mtu
  l + 20 + (if (s.live p).secTx then 32 else 0) + if s.on F.PRT_CFG_FC_MODE p then 84 else 0

/-- The frame would pass the gate now: its class is open and it ends no later than the next close (R375). -/
def State.gatePasses (s : State) (p c wb : Nat) : Bool :=
  let g := s.gate p
  g.openAt c s.nowNs && (g.closeAt c s.nowNs).all fun x => decide (s.time.master * s.rate p + wb * 8 * unitNs ≤ x * unitNs * s.rate p)

/-- The frame is longer than any opening of its class (R376). -/
def State.gateOversize (s : State) (p c wb : Nat) : Bool :=
  ((s.gate p).inForce s.nowNs).any fun l => (l.maxOpen c).any fun m => decide (m * s.rate p < wb * 8)

/-- A mark shows once the frame's last byte has arrived. -/
def State.marked (s : State) (f : Frame) : Nat := if f.markAt ≤ s.elapsed then f.mark else 0

/-- Take the head off a queue; the next head gets its tags (R319, R365). -/
def State.popHead (s : State) (gq : Nat) : State :=
  let s := s.withQueue gq ((s.queue gq).drop 1)
  let s := { s with path := { s.path with dequeued := if s.path.dequeued.contains gq then s.path.dequeued else gq :: s.path.dequeued } }
  s.headArrives gq false

/-- What the checks at dequeue say of a head: a drop code, or 0 for a frame counted in TX_ERR_DISCARD (R147, R318, R321, R322, R376). -/
def State.headCheck (s : State) (p c gq wb : Nat) (b : Buf) : Option Nat :=
  if s.marked b.frame = 1 then some 0
  else if s.marked b.frame = 2 then some cLenMismatch
  else if s.isAged gq b then some cAged
  else if s.budgetSpent b.frame p then some cBudgetSpent
  else if s.gateOversize p c wb then some cGateOversize
  else none

/-- A head is discarded at dequeue. -/
def State.headLost (s : State) (p gq code : Nat) (e : QEntry) : State :=
  let s := s.popHead gq
  let s := if code = 0 then s.count F.PRT_CNT_COUNT (64 * p + 42) 1 else s.dropOut code p (queueLocal gq)
  s.gone e.buf true e.closer

/-- A head that must wait for its last byte, or for a timestamp share (R304, R351). -/
def State.headWaits (s : State) (p : Nat) (f : Frame) : Bool :=
  (decide (s.elapsed < f.endAt) && decide (f.port < 512) && decide (s.rate f.port < s.rate p)) ||
    (f.twoStep && s.on F.TSF_CTRL_PACE_EN (p / 16) && s.tsfFull p)

/-- The class may send apart from its head: no HOLD, pause or pacing hold, shapers and credit allow it (R362). -/
def State.classOpen (s : State) (p c : Nat) : Bool :=
  !s.on F.PRT_STATUS_HOLD p && !bitOf (s.get F.PRT_STATUS_RX_PAUSED p) c &&
    !(s.pacing (p / 16) && bitOf (s.get F.TSF_CTRL_TS_CLASS (p / 16)) c) && s.shaperOpen p c && s.shaperOpen p 8 &&
    (!s.on F.SCH_CBS_EN (8 * p + c) || decide (0 ≤ s.credit p c))

/-- The head that a class sends, after the checks at dequeue have discarded those that fail. -/
def State.classHead (s : State) (p c : Nat) : Nat → State × Option (Nat × QEntry × Buf)
  | 0 => (s, none)
  | n + 1 =>
    match s.selectQueue p c with
    | none => (s, none)
    | some gq =>
      match (s.queue gq).head? with
      | none => (s, none)
      | some e =>
        match s.buf e.buf with
        | none => (s, none)
        | some b =>
          let wb := s.gateBytes p e
          match s.headCheck p c gq wb b with
          | some code => State.classHead (s.headLost p gq code e) p c n
          | none => if s.headWaits p b.frame || !s.gatePasses p c wb then (s, none) else (s, some (gq, e, b))

/-- The highest eligible class's head (R362). -/
def State.choose (s : State) (p : Nat) : List Nat → State × Option (Nat × QEntry × Buf)
  | [] => (s, none)
  | c :: cs =>
    if s.classOpen p c = false then State.choose s p cs
    else
      match s.classHead p c ((s.classQueues p c).map fun gq => (s.queue gq).length).sum.succ with
      | (s, some x) => (s, some x)
      | (s, none) => State.choose s p cs

/-- Bit c: class c is eligible now (SCH_PORT_STATUS). -/
def State.eligible (s : State) (p : Nat) : Nat :=
  (List.range 8).foldl (fun n c =>
    if s.classOpen p c && (s.classHead p c ((s.classQueues p c).map fun gq => (s.queue gq).length).sum.succ).2.isSome then n + 2 ^ c else n) 0

/-! ## A decision -/

/-- The chosen head starts: tags, virtual time, reservation, shaper charge, an engine (R350, R352, R365, R367, R406). -/
def State.start (s : State) (p gq : Nat) (e : QEntry) (b : Buf) : State :=
  let t := p / 16
  let c := s.queueClass gq
  let wb := s.gateBytes p e
  let tag := SMap.findD s.path.tags gq default
  let s := { s with path := { s.path with tags := SMap.put s.path.tags gq { tag with last := tag.finish } } }
  let s := if s.discipline p c = .wfq then s.set F.SCH_CLASS_STATUS_VTIME (8 * p + c) tag.finish else s
  let s := s.popHead gq
  let s := (s.shaperMove p c (-(wb : Int))).shaperMove p 8 (-(wb : Int))
  let two := b.frame.twoStep
  let lost := two && s.tsfFull p
  let s := if lost then (s.count F.TSF_CNT_COUNT (3 * t + 1) 1).evT F.TSF_EVENT_TSF_OVERFLOW t else s
  let s := if two && !lost then s.tsfDisplace t else s
  let r : Rewriting :=
    { entry := e, queue := gq, order := s.path.dequeues, cluster := 0, faulted := false, waiting := true, abandoned := false, cls := c, charged := wb,
      reserved := two && !lost, content := none }
  let s := { s with path := { s.path with dequeues := s.path.dequeues + 1 } }
  (s.withLive p fun l => { l with rewriting := l.rewriting ++ [r] }).dealNext t

/-- SCHED_DECISION: one choice of a port whose link is up, out of far-end loopback; none while a frame of the tile waits at the dealer (R136, R362, R408). -/
def State.schedDecision (s : State) (p : Nat) : State :=
  if s.on F.PRT_STATUS_LINK_UP p = false ∨ s.get F.PRT_CFG_LOOPBACK p = 2 ∨ s.dealerBusy (p / 16) then s
  else
    match s.choose p [7, 6, 5, 4, 3, 2, 1, 0] with
    | (s, some (gq, e, b)) => s.start p gq e b
    | (s, none) => s

/-! ## SCH_QMAP (R361) -/

/-- SCH_QMAP as written: ignored where it would select a queue above 31 or of another class. -/
def State.qmapWrite (s : State) (p c v : Nat) : State :=
  if s.isPort p = false then s
  else
    let base := bits v 0 5
    let span := bits v 5 2
    let ok := span != 3 && (List.range (2 ^ span)).all fun k => decide (base + k < 32) && s.queueClass (48 * p + base + k) == c
    if ok then (s.set F.SCH_QMAP_UQ_BASE (8 * p + c) base).set F.SCH_QMAP_SPAN (8 * p + c) span
    else s.evT F.SCH_EVENT_CFG_REFUSED (p / 16)

/-! ## The commands -/

/-- SCHED_DECISION (R362). -/
def execSchedDecision (p : Nat) (s : State) : Host.Outcome State Fault Refusal :=
  .next (s.when (s.up && s.isPort p && s.tileUp (p / 16) && s.sleepOf (p / 16) == 0) fun s => s.schedDecision p)

/-- SHAPER_REFILL (R367). -/
def execShaperRefill (t : Nat) (s : State) : Host.Outcome State Fault Refusal :=
  .next (s.when (s.up && decide (t < 32) && s.tileUp t) fun s => s.shaperRefill t)

/-- SCH_QMAP_WRITE (R361). -/
def execSchQmapWrite (p c v : Nat) (s : State) : Host.Outcome State Fault Refusal :=
  .next (s.when (s.tileReach (tileOf p) && decide (c < 8)) fun s => s.qmapWrite p c v)

/-- TSF_POP (R354). -/
def execTsfPop (t v : Nat) (s : State) : Host.Outcome State Fault Refusal :=
  .next (s.when (s.tileReach t && decide (t < 32)) fun s => s.tsfPop t v)

end Sys2Proof.Machine
end

