-- ==== Sys2Proof/Machine/Rewrite.lean ====
section
/-! DEFINITION. Rewrite routines, the edit stage, protection and the end of a transmission (chapter 15, R147 to R152, R280, R345 to R350, R398, R399). -/

namespace Sys2Proof.Machine

/-! ## Clusters (R406, R418 to R421) -/

/-- Source of cluster k of a tile (Table 19.1). -/
def clusterSrc (t k : Nat) : Nat := srcTile t (8 + k)

/-- Master of cluster k of a tile (R420). -/
def clusterMaster (t k : Nat) : Nat := 0x40 + 2 * t + k / 3

/-- Uncommitted routines of a cluster are abandoned (R418). -/
def State.abandonCluster (s : State) (t k : Nat) : State :=
  s.forAll (s.portsOf t) fun s p =>
    if (s.live p).rewriting.any fun r => r.cluster == k && !r.waiting then
      s.withLive p fun l => { l with rewriting := l.rewriting.map fun r => if r.cluster == k && !r.waiting then { r with waiting := true, abandoned := true } else r }
    else s

/-- A cluster is fenced, its committed routines having ended: out of service (R420, R496, Table 19.7). -/
def State.clusterFence (s : State) (t k : Nat) : State :=
  if bitOf (s.get F.RWE_STATUS_FENCED t) k then s
  else ((s.setBit F.RWE_STATUS_FENCED t k).clrBit F.RWE_STATUS_IN_SERVICE t k).evT F.RWE_EVENT_CLUSTER_FENCED t

/-- Caddis begins to rewrite a report-only cluster's store (R421). -/
def State.clusterReload (s : State) (t k : Nat) : State := (s.setBit F.RWE_STATUS_RELOADING t k).clrBit F.RWE_STATUS_IN_SERVICE t k

/-- CLUSTER_RELOAD_DONE: the store is rewritten, the cluster returns to service, the reaction ends (R421, R493). -/
def State.reloadDone (s : State) (t k : Nat) : State :=
  if bitOf (s.get F.RWE_STATUS_RELOADING t) k = false then s
  else
    let s := s.clrBit F.RWE_STATUS_RELOADING t k
    let s := if bitOf (s.get F.RWE_STATUS_FENCED t) k then s else s.setBit F.RWE_STATUS_IN_SERVICE t k
    (s.reacted (clusterSrc t k) 0).dealNext t

/-- A cluster's fault: the report, and under fence policy the beginning of its fence, which abandons its uncommitted routines; under report-only policy the reaction lasts while `goes` says that a restart or a reload follows (R418, R420, R485, R493). -/
def State.clusterFault (s : State) (t k kind access addr : Nat) (goes : Bool) : State :=
  let s := s.unitFault (clusterSrc t k) 0 kind (clusterMaster t k) access addr
  if s.fencePolicy (clusterSrc t k) 0 then s.abandonCluster t k else s.when goes fun s => s.react (clusterSrc t k) 0

/-! ## The routine of a port's oldest frame -/

/-- Take the oldest routine off its port; its engine is free. -/
def State.routineOff (s : State) (p : Nat) : State := (s.withLive p fun l => { l with rewriting := l.rewriting.drop 1 }).dealNext (p / 16)

/-- The frame of the oldest routine is discarded. -/
def State.routineLost (s : State) (p code : Nat) (r : Rewriting) : State :=
  ((s.routineOff p).dropOut code p (queueLocal r.queue)).gone r.entry.buf true r.entry.closer

/-- The routine meets a fault or read error: it restarts on another cluster, or its frame is discarded on the second (R418, R420). -/
def State.routineFault (s : State) (p : Nat) (r : Rewriting) : State :=
  let t := p / 16
  if r.faulted then (s.routineLost p cFencedUnit r).count F.RWE_CNT_COUNT (6 * t + 3) 1
  else
    let s := s.withLive p fun l => { l with rewriting :=
      match l.rewriting with
      | x :: rest => { x with waiting := true, abandoned := true, faulted := true } :: rest
      | [] => [] }
    (s.count F.RWE_CNT_COUNT (6 * t + 2) 1).evT F.RWE_EVENT_RESTART t

/-- REWRITE_RESTART: the abandoned routine of a port is dealt to another cluster; the reaction of a report-only cluster ends (R418, R493). -/
def State.rewriteRestart (s : State) (p : Nat) : State :=
  let t := p / 16
  s.when ((s.live p).rewriting.any fun r => r.waiting && r.abandoned) fun s => s.dealNext t

/-! ## Transmit time (R340, R343) -/

/-- t_tx of a frame that commits now: on the local scale and of PTP, in quarter ns. Elytra's 36 ns, C_tx, TX_ADJ and the error of R341 apply (log 45). -/
def State.txStamp (s : State) (p : Nat) (c : PortCfg) : (Nat × Nat) × State :=
  let n := s.freeCtr
  let s := s.draw.2
  (s.stampAt (s.stampErr (p / 128) n) (4 * ((if (s.live p).secTx then 36 else 0) + cTx s.variant c : Nat) + s.getInt F.TIM_PORT_PTP_TX_ADJ p), s)

/-! ## The edit stage -/

/-- Add to a correctionField, counting a saturation (R348). -/
def State.correctAt (s : State) (bs : List Byte) (a : Nat) (add : Int) : List Byte × State :=
  let r := correct (be bs (a + 8) 8) add
  (splice bs (a + 8) (beBytes r.1 8), if r.2 then s.count F.TIM_CNT_COUNT 0 1 else s)

/-- The PTP fields of an event message at offset a of the edited frame (R345, R347). -/
def State.ptpEdit (s : State) (p : Nat) (f : Frame) (bs : List Byte) (a txQ txPtp : Nat) : List Byte × State :=
  if f.vec.ptpEvent = false ∨ f.vec.app ≠ 1 then (bs, s)
  else if 512 ≤ f.port then
    if f.tsMode = 2 then
      let stamp := beBytes (txPtp / (4 * 10 ^ 9)) 6 ++ beBytes (txPtp / 4 % 10 ^ 9) 4
      s.correctAt (splice bs (a + 34) stamp) a ((txPtp % 4 * 2 ^ 14 : Nat) : Int)
    else if f.tsMode = 3 then s.correctAt bs a (((txPtp : Int) - f.refTime) * 2 ^ 14)
    else (bs, s)
  else
    let mode := s.get F.TIM_PORT_PTP_TC_MODE p
    if mode = 1 ∨ mode = 2 then
      let res : Int := (txQ : Int) - f.rxQ + if mode = 2 then (s.get F.TIM_PORT_PTP_PEER_DELAY f.port : Nat) else 0
      s.correctAt bs a (res * 2 ^ 14)
    else (bs, s)

/-- BUDGET and HOPS of a ring frame sent on a ring port (R399). -/
def State.ringSend (s : State) (p : Nat) (f : Frame) (bs : List Byte) (txQ : Nat) : List Byte :=
  let v := be bs 20 4
  let b : Int := if v < 2 ^ 31 then v else (v : Int) - 2 ^ 32
  let left : Int := b - (ceilDiv (txQ - f.rxQ) 4 : Nat) - (s.linkNs p : Nat)
  splice (splice bs 20 (beBytes (left % 2 ^ 32).toNat 4)) 24 (beBytes (min (be bs 24 2 + 1) 65535) 2)

/-- The tag that recipe 0x11 inserts on a port (R398); off a ring port what META holds is open. -/
def State.ringInsert (s : State) (p : Nat) (f : Frame) (e : QEntry) (prm : List Byte) : List Byte × State :=
  match s.ringGroup p with
  | some g =>
    (s.ringTagBytes g (be prm 4 1 % 2 + 4 * ringDirOut p) (f.cls % 8) (e.ringSeq.getD 0) (be prm 0 4), s)
  | none =>
    let r := s.draw
    (beBytes r.1 8 ++ prm.take 4 ++ beBytes 0 4, r.2)

/-- t1 or t3 of a probe of this module, and t1 kept for its reply (R401, R402). -/
def State.probeStamp (s : State) (p : Nat) (f : Frame) (bs : List Byte) (txPtp : Nat) : List Byte × State :=
  if f.probe = 1 then
    (splice bs 30 (stamp80 txPtp), { s with probes := SMap.modify s.probes p default fun x => { x with t1 := txPtp } })
  else if f.probe = 2 then (splice bs 50 (stamp80 txPtp), s)
  else (bs, s)

/-- The frame leaves the edit stage: MTU, Elytra, the wire; a frame that the lane discards for a cipher fault has taken its PN (R149, R432, R437, R451). -/
def State.transmit (s : State) (p : Nat) (c : PortCfg) (r : Rewriting) (bs : List Byte) (tx : Nat × Nat) (laneBad : Option Nat) : State :=
  if c.mtu < bs.length + 4 then
    ((s.routineOff p).count F.PRT_CNT_COUNT (64 * p + 42) 1).gone r.entry.buf true r.entry.closer
  else
    match s.secTransmit p bs with
    | (.exhausted, s) => s.routineLost p cPnExhausted r
    | (.send out counts, s) =>
      match (if (s.live p).secTx then laneBad else none) with
      | some k => (s.laneFault p (k % c.width)).routineLost p cFencedUnit r
      | none =>
        let s := s.forAll counts fun s x => s.count F.PRT_SEC_CNT_COUNT (13 * p + x.1) x.2
        let w : OnWire := { entry := r.entry, queue := r.queue, sent := out, txQ := tx.1, txPtp := tx.2, cls := r.cls, charged := r.charged, reserved := r.reserved }
        (s.withLive p fun l => { l with wire := l.wire ++ [w] }).routineOff p

/-- What META shows of a frame (Table 15.2). -/
def metaBytes (p : Nat) (f : Frame) (ringTag : List Byte) : List Byte :=
  beBytes p 2 ++ beBytes f.vec.len 2 ++ beBytes f.hash 4 ++ ringTag.take 8 ++ beBytes f.cls 1

/-- A routine up to its commit point: a library recipe as Table 15.5 gives it, any other by its microcode (R415 to R417, R422). -/
def State.routine (s : State) (p : Nat) (r : Rewriting) (f : Frame) (ringTag : List Byte) (entry : Nat) : MicroEnd ⊕ Committed :=
  let t := p / 16
  let id := r.entry.recipe
  let prm := beBytes (r.content.getD entry) 64
  let n := s.freeCtr
  if s.microcoded t id then
    let c : MicroCtx :=
      { entry := prm, info := metaBytes p f ringTag, vec := f.vec.toBits, len := f.vec.len, id := id, store := s.storeWord t r.cluster,
        free := fun k => Config.free (n + k) }
    match Engine.run c 8192 (Engine.load f.vec f.bytes) (s.storeEntry t r.cluster id) with
    | .commit e cnt full badEnd => .inr (e.committed f.vec f.bytes (bits entry 496 16) cnt full badEnd)
    | x => .inl x
  else
    let c : EditCtx :=
      { vec := f.vec, len := f.vec.len - 4, hash := f.hash, ringTag := ringTag, seqNext := bits entry 496 16, vxlanPort := (s.parseDevice t).1 }
    let x := recipeEdit id c f.bytes prm
    if min f.bytes.length 176 < x.need then .inl .overrun else .inr (x.committed id f.vec f.bytes)

/-- The frame of a routine takes SEQ_NEXT at its commit point. -/
def State.takesSeq (s : State) (p : Nat) (r : Rewriting) : Bool :=
  (s.buf r.entry.buf).any fun b =>
    match s.routine p r b.frame [] (s.paramFor (p / 16) r.entry.param b.frame) with
    | .inr x => x.seq
    | .inl _ => false

/-- An earlier frame of the tile will take SEQ_NEXT of the same entry first (R417). -/
def State.seqBlocked (s : State) (p : Nat) (r : Rewriting) : Bool :=
  s.takesSeq p r && (s.portsOf (p / 16)).any fun k => (s.live k).rewriting.any fun x =>
    x.entry.param == r.entry.param && decide (x.order < r.order) && s.takesSeq k x

/-- A control-store word that CHECK cannot correct is reported, and its cluster fenced or reloaded (R420, R421). -/
def State.wordError (s : State) (t k addr : Nat) : State :=
  let s := s.clusterFault t k kUncorr 1 addr true
  if s.fencePolicy (clusterSrc t k) 0 then s else s.clusterReload t k

/-- The same before the commit point, or a word that R412 and R415 treat so: the routine is abandoned (R418). -/
def State.storeError (s : State) (p : Nat) (r : Rewriting) (addr : Nat) : State :=
  let t := p / 16
  ((s.evT F.RWE_EVENT_CS_UNCORR t).routineFault p r).wordError t r.cluster addr

/-- The commit point: SEQ_NEXT, counters, the edit stage, and transmission; an end word that then reads wrong, or is none that R412 and R415 allow, is reported (R417, Table 15.4). -/
def State.commitPoint (s : State) (p : Nat) (c : PortCfg) (r : Rewriting) (f : Frame) (x : Committed) (idx : Option Nat) (laneBad : Option Nat) (badEnd : Option Nat) : State :=
  let t := p / 16
  let id := r.entry.recipe
  let s := if x.seq then idx.elim s (s.seqTaken f) else s
  let s := if x.cnt then s.count F.RWE_RECIPE_CNT_COUNT (256 * t + id) 1 else s
  let s := (s.count F.RWE_CNT_COUNT (6 * t) 1).secBoundary p false
  let tx := s.txStamp p c
  let s := tx.2
  let pt := x.ptp.elim (x.bytes, s) fun a => s.ptpEdit p f x.bytes a tx.1.1 tx.1.2
  let s := pt.2
  let bs := fixChecksums f.vec x f.bytes pt.1
  let ring := (s.ringGroup p).isSome && f.probe == 0 && (id == 0x11 || (f.vec.ringTag && id != 0x13 && x.moved 12 == some 12))
  let bs := if ring then s.ringSend p f bs tx.1.1 else bs
  let pr := s.probeStamp p f bs tx.1.2
  let s := pr.2.transmit p c r pr.1 tx.1 laneBad
  (badEnd <|> x.badEnd).elim s fun addr => (s.evT F.RWE_EVENT_CS_UNCORR t).wordError t r.cluster addr

/-- R410 looks at the PARAM of a frame: its recipe reads the entry by Table 15.5, or by its microcode where the table does not list it (log 86). -/
def State.needsParam (s : State) (t : Nat) (r : Rewriting) (f : Frame) : Bool :=
  readsParam r.entry.recipe || ((recipeInfo r.entry.recipe).isNone && s.routineReads t r f)

/-- The routine of a frame commits, or is lost before it (R410, R416, R417). -/
def State.commit (s : State) (p : Nat) (c : PortCfg) (r : Rewriting) (f : Frame) (laneBad : Option Nat) (badEnd : Option Nat) : State :=
  let t := p / 16
  let id := r.entry.recipe
  let idx := s.paramIndex t r.entry.param
  if s.on F.RWE_RECIPE_LOADED (256 * t + id) = false ∨ (s.needsParam t r f = true ∧ idx.isNone) then
    ((s.routineLost p cNoRoute r).count F.RWE_CNT_COUNT (6 * t + 4) 1).evT F.RWE_EVENT_BAD_TARGET t
  else
    let entry := s.paramFor t r.entry.param f
    let tag := s.ringInsert p f r.entry (beBytes (r.content.getD entry) 64)
    match s.routine p r f tag.1 entry with
    | .inl .overrun => ((s.routineLost p cParseTrunc r).count F.RWE_CNT_COUNT (6 * t + 5) 1).evT F.RWE_EVENT_WINDOW_OVERRUN t
    | .inl (.badRead a) => s.storeError p r a
    | .inl _ => s
    | .inr x =>
      let s := if s.microcoded t id then { s with freeCtr := s.freeCtr + 2048 } else if id = 0x11 then tag.2 else s
      s.commitPoint p c r f x idx laneBad badEnd

/-- REWRITE_COMMIT: the oldest routine of a port reaches its commit point, or meets a fault before it (R409, R417, R418). -/
def State.rewriteCommit (s : State) (p : Nat) (fault : RoutineFault) (laneBad : Option Nat) : State :=
  let t := p / 16
  match (s.live p).rewriting, s.port p with
  | r :: _, some c =>
    if r.waiting ∨ s.seqBlocked p r then s
    else
      match s.buf r.entry.buf with
      | none => s
      | some b =>
        match fault with
        | .none => s.commit p c r b.frame laneBad none
        | .uncorrectableEnd addr => s.commit p c r b.frame laneBad (some addr)
        | .correctedWord addr =>
          let s := (s.evT F.RWE_EVENT_CS_CORR t).report (clusterSrc t r.cluster) kCorr (clusterMaster t r.cluster) 1 addr
          s.commit p c r b.frame laneBad none
        | .engineFault => (s.routineFault p r).clusterFault t r.cluster kCheck 5 0 (!r.faulted)
        | .uncorrectableWord addr => s.storeError p r addr
  | _, _ => s

/-! ## The last byte (R147, R149, R280, R315, R350, R353, R367) -/

/-- Counters of a frame sent whole (Table 5.5). -/
def State.txCounts (s : State) (p : Nat) (bs : List Byte) (wire : Nat) : State :=
  let da := be bs 0 6
  s.prtCounts p [(32, wire), (33, 1), (if da = 0xFFFFFFFFFFFF then 36 else if bitOf da 40 then 35 else 34, 1)]

/-- The record of a two-step transmission fills its entry (R350). -/
def State.tsfRecord (s : State) (p : Nat) (f : Frame) (txPtp : Nat) : State :=
  let t := p / 16
  let a := f.vec.offApp
  let r : TsRecord := { port := p, domain := be f.bytes (a + 4) 1, msgType := be f.bytes a 1 % 16, seqId := be f.bytes (a + 30) 2, txPtp := txPtp }
  let s := { s with path := { s.path with tsf := SMap.put s.path.tsf t (s.tsfRecords t ++ [r]) } }
  (s.count F.TSF_CNT_COUNT (3 * t) 1).cause (85 + t / 8)

/-- FRAME_TX_DONE: the frame at the head of the wire has left; with no frame behind it the transmit channel stands at a boundary (R443, R444, R448). DESIGN CHOICE, log 129: a stomped frame counts in TX_STOMPED alone, not in TX_OCTETS_OK or the counters of sent frames by destination address; Table 5.5 says so of TX_FRAMES_OK only. -/
def State.frameTxDone (s : State) (p : Nat) (fault : DramFault) : State :=
  match (s.live p).wire, s.port p with
  | w :: rest, some c =>
    let s := (s.withLive p fun l => { l with wire := rest }).txBoundary p
    let s := s.when rest.isEmpty fun s => s.secBoundary p false
    match s.buf w.entry.buf with
    | none => s
    | some b =>
      let bs := if w.sent.length < 60 then fit 60 w.sent else w.sent
      let s := if w.sent.length < 60 then s.count F.PRT_CNT_COUNT (64 * p + 41) 1 else s
      let good := decide (b.frame.mark = 0)
      let s := if good then s.txCounts p bs (bs.length + 4) else s.count F.PRT_CNT_COUNT (64 * p + 39) 1
      let back : Int := (w.charged : Int) - (bs.length + 24 : Nat)
      let s := (s.shaperMove p w.cls back).shaperMove p 8 back
      let s := if w.reserved then s.tsfRecord p b.frame w.txPtp else s
      let s := if w.entry.stamp then
          s.stampWrite (p / 16) (telemRecord 1 w.queue (w.txPtp / 4) ((w.txQ - b.frame.rxQ) / 256) 0 0) fault else s
      let s := s.gone w.entry.buf true w.entry.closer
      if s.get F.PRT_CFG_LOOPBACK p = 1 then s.rxMac p c bs good none
      else { s with out := { s.out with frames := (p, bs, good) :: s.out.frames } }
  | _, _ => s

/-! ## RWE_PORT_DEFAULT (R411) -/

/-- RWE_PORT_DEFAULT as written. -/
def State.portDefaultWrite (s : State) (p v : Nat) : State :=
  if s.isPort p = false then s
  else
    let t := p / 16
    let id := bits v 0 8
    if s.on F.RWE_RECIPE_LOADED (256 * t + id) = false ∨ (readsParam id = true ∧ s.paramIndex t (bits v 8 18) = none) then
      s.evT F.RWE_EVENT_DEFAULT_REFUSED t
    else (s.set F.RWE_PORT_DEFAULT_RECIPE p id).set F.RWE_PORT_DEFAULT_PARAM p (bits v 8 18)

/-! ## The commands -/

/-- REWRITE_COMMIT (R417). -/
def execRewriteCommit (p : Nat) (fault : RoutineFault) (laneBad : Option Nat) (s : State) : Host.Outcome State Fault Refusal :=
  .next (s.when (s.up && s.isPort p) fun s => s.rewriteCommit p fault laneBad)

/-- REWRITE_RESTART (R418). -/
def execRewriteRestart (p : Nat) (s : State) : Host.Outcome State Fault Refusal :=
  .next (s.when (s.up && s.isPort p) fun s => s.rewriteRestart p)

/-- CLUSTER_RELOAD_DONE (R421). -/
def execClusterReloadDone (t k : Nat) (s : State) : Host.Outcome State Fault Refusal :=
  .next (s.when (s.up && decide (t < 32) && decide (k < 6)) fun s => s.reloadDone t k)

/-- RWE_PORT_DEFAULT_WRITE (R411). -/
def execRwePortDefaultWrite (p v : Nat) (s : State) : Host.Outcome State Fault Refusal :=
  .next (s.when (s.tileReach (tileOf p)) fun s => s.portDefaultWrite p v)

end Sys2Proof.Machine
end

