-- ==== Sys2Proof/Machine/Tue.lean ====
section
/-! DEFINITION. The table update engine: rings, acceptance, waits, records, epochs and timed cuts (R260 to R299). -/

namespace Sys2Proof.Machine

/-! ## Fences and single-plane flags (R262, R266) -/

/-- TOP_FENCE as written: commands take effect in the order of the queue, so a fence completes at once (R262, log 21). -/
def State.topFence (s : State) (v : Nat) : State :=
  if bitOf v 0 then
    { s.set F.TOP_FENCE_COUNT 0 (s.get F.TOP_FENCE_COUNT 0 + 1) with host := { s.host with fences := s.host.fences + 1 } }
  else s

/-- Bits of TUE_ORDER_STRICT i that name a port. -/
def State.strictMask (s : State) (i : Nat) : Nat :=
  (List.range 64).foldl (fun n k => if s.isAnyPort (64 * i + k) then n + 2 ^ k else n) 0

/-- TUE_ORDER_STRICT as written: a port whose bit changes waits for its earlier frames (R266). -/
def State.orderStrict (s : State) (i v : Nat) : State :=
  let mask := s.strictMask i
  let old := s.get F.TUE_ORDER_STRICT_PORT i
  let new := v &&& mask
  let s := s.set F.TUE_ORDER_STRICT_PORT i new
  s.forAll ((List.range 64).filter fun k => bitOf old k != bitOf new k && bitOf mask k) fun s k =>
    s.withLive (64 * i + k) fun l => { l with orderHold := true }

/-! ## Rings (R267, R268) -/

/-- Slots of a ring. -/
def State.tueSize (s : State) (r : Nat) : Nat := 2 ^ s.get F.TUE_RING_CTRL_LOG2_SIZE r

/-- Commands read and not accepted. -/
def State.tueWaiting (s : State) (r : Nat) : List TueCmd := SMap.findD s.tue.waiting r []

/-- Commands accepted and not completed. -/
def State.tueFlight (s : State) (r : Nat) : List TueCmd := SMap.findD s.tue.flight r []

/-- Records owed to a ring. -/
def State.tueOwed (s : State) (r : Nat) : Nat := SMap.findD s.tue.owed r 0

/-- Records that a command may yield (R268, R271). -/
def recordsOf (c : Cmd) : Nat :=
  if c.opcode = oCutArm then 2 else if c.opcode = oEpoch then (if bits c.arg 0 32 = 0 then 2 else 3) else 1

/-- Room in a completion ring (TUE_CPL_TAIL). -/
def State.cplRoom (s : State) (r : Nat) : Nat :=
  let n := s.tueSize r
  (s.get F.TUE_CPL_TAIL_TAIL r % n + 2 * n - 1 - s.get F.TUE_CPL_HEAD_HEAD r % n) % n

/-- Change the records owed to a ring. -/
def State.withOwed (s : State) (r n : Nat) : State := { s with tue := { s.tue with owed := SMap.put s.tue.owed r n } }

/-- Replace the commands in flight of a ring; IN_FLIGHT follows. -/
def State.withFlight (s : State) (r : Nat) (l : List TueCmd) : State :=
  { s with tue := { s.tue with flight := SMap.put s.tue.flight r l } }.set F.TUE_RING_HEAD_IN_FLIGHT r l.length

/-- A record of Table 10.3 but for EPOCH, which stands once it is written. -/
def record (opcode ring tag status result cflags time body : Nat) : Nat :=
  opcode * 2 ^ 1016 + ring % 8 * 2 ^ 1013 + tag % 2 ^ 16 * 2 ^ 992 + status * 2 ^ 984 + result * 2 ^ 976 +
    cflags * 2 ^ 960 + time % 2 ^ 64 * 2 ^ 896 + body % 2 ^ 896

/-- TIME of a record from quarter ns of PTP time. -/
def recordTime (q : Nat) : Nat := q / (4 * 10 ^ 9) % 2 ^ 32 * 2 ^ 32 + q / 4 % 10 ^ 9

/-- A record is written: its bytes with the epoch of the writing, then the head, then the message; held while the host may not be reached (R270, Table 10.3, R508, R510). -/
def State.cplWrite (s : State) (r w : Nat) : State :=
  if s.pins.hostAllowed = false then { s with tue := { s.tue with held := s.tue.held ++ [(r, w)] } }
  else
    let n := s.tueSize r
    let h := s.get F.TUE_CPL_HEAD_HEAD r % n
    let out := putBits w 968 8 (s.get F.TUE_EPOCH_CURRENT 0)
    let s := s.hostWrite (s.get F.TUE_CPL_BASE_ADDR r / 4096 * 4096 + 128 * h) (leBytes out 128)
    ((s.set F.TUE_CPL_HEAD_HEAD r ((h + 1) % n)).withOwed r (s.tueOwed r - 1)).cause (64 + r)

/-- Held records go out once host memory may be reached again (R508). -/
def State.cplFlush (s : State) : State :=
  let l := s.tue.held
  let s := { s with tue := { s.tue with held := [] } }
  s.forAll l fun s x => s.cplWrite x.1 x.2

/-- A record of a command. -/
def State.tueRecord (s : State) (r opcode tag status result cflags time body : Nat) : State :=
  s.cplWrite r (record opcode r tag status result cflags time body)

/-- A command completes: its first record, and the room that its other records would have taken where it was refused (R268, R271, R272). -/
def State.tueRecorded (s : State) (r : Nat) (x : TueCmd) (y : Reply) : State :=
  let c := parseCmd x.word
  let s := s.withFlight r ((s.tueFlight r).filter fun z => z.seq != x.seq)
  let s := if y.status = stDone then s else (s.count F.TUE_CNT_COUNT 1 1).withOwed r (s.tueOwed r - (recordsOf c - 1))
  s.tueRecord r c.opcode c.tag y.status y.result 0 (recordTime s.nowQ) y.body

/-- Opcodes of Table 10.2. -/
def opcodeKnown (o : Nat) : Bool :=
  o == oNop || o == oFence || o == oEpoch || (decide (oEmInsert ≤ o) && decide (o ≤ oEmRead)) ||
    (decide (oTcInsert ≤ o) && decide (o ≤ oTcReadRow)) || o == oObjWrite || o == oObjRead || (decide (oCutOpen ≤ o) && decide (o ≤ oCutCancel))

/-- A ring whose oldest command can be accepted: enabled, host memory within reach, room for its records (R268, R508). -/
def State.canAccept1 (s : State) (r : Nat) : Bool :=
  s.on F.TUE_RING_CTRL_ENABLE r && s.pins.hostAllowed &&
    ((s.tueWaiting r).head?).any fun x => decide (s.tueOwed r + recordsOf (parseCmd x.word) ≤ s.cplRoom r)

/-- Accept the oldest command of a ring. -/
def State.accept1 (s : State) (r : Nat) : State :=
  match s.tueWaiting r with
  | [] => s
  | x :: rest =>
    let x := { x with seq := s.tue.accepted }
    let s := { s with tue := { s.tue with waiting := SMap.put s.tue.waiting r rest, served := r, accepted := s.tue.accepted + 1 } }
    let s := (s.set F.TUE_RING_HEAD_HEAD r ((x.slot + 1) % s.tueSize r)).count F.TUE_CNT_COUNT 0 1
    (s.withOwed r (s.tueOwed r + recordsOf (parseCmd x.word))).withFlight r (s.tueFlight r ++ [x])

/-- Accept round robin until nothing more can be accepted; the learner, source 8, has no request that waits for acceptance (R268). -/
def State.tueAccept (s : State) : Nat → State
  | 0 => s
  | n + 1 =>
    match ((List.range 9).map fun k => (s.tue.served + 1 + k) % 9).find? fun r => decide (r < 8) && s.canAccept1 r with
    | some r => State.tueAccept (s.accept1 r) n
    | none => s

/-! ## Waits (R273 to R276) -/

/-- Two accepted commands have the same key (R273). -/
def State.sameKey (s : State) (a b : Cmd) : Bool :=
  let isEm (c : Cmd) := decide (oEmInsert ≤ c.opcode ∧ c.opcode ≤ oEmRead)
  let isRow (c : Cmd) := c.opcode == oTcWriteRow || c.opcode == oTcReadRow
  let isTc (c : Cmd) := c.opcode == oTcInsert || c.opcode == oTcUpdateAction || c.opcode == oTcDelete
  let isObj (c : Cmd) := c.opcode == oObjWrite || c.opcode == oObjRead
  let isCut (c : Cmd) := decide (oCutOpen ≤ c.opcode ∧ c.opcode ≤ oCutCancel)
  let meet := (s.regionQuads a.quad a.space).any fun q => (s.regionQuads b.quad b.space).contains q
  if isEm a && isEm b then
    a.space == b.space && ((SMap.find s.layers.tables a.space).elim (a.body == b.body) fun t => keyOf t a.body == keyOf t b.body)
  else if isRow a && isRow b then a.space == b.space && a.index == b.index && meet
  else if isTc a && isTc b then
    a.space == b.space && meet && (tcEntry a.body).value == (tcEntry b.body).value && (tcEntry a.body).mask == (tcEntry b.body).mask
  else if isObj a && isObj b then a.space == b.space && a.index == b.index
  else isCut a && isCut b && bits a.arg 0 8 == bits b.arg 0 8

/-- A learn request and a command have the same key: table and key field (R224, R273). -/
def State.learnsKey (s : State) (q : LearnReq) (c : Cmd) : Bool :=
  decide (oEmInsert ≤ c.opcode ∧ c.opcode ≤ oEmRead) && c.space == q.table &&
    (SMap.find s.layers.tables q.table).any fun t => keyOf t c.body == keyOf t q.payload

/-- All commands in flight, with their rings. -/
def State.allFlight (s : State) : List (Nat × TueCmd) := s.tue.flight.flatMap fun e => e.2.map fun x => (e.1, x)

/-- A command must wait for earlier commands of the rings and for earlier learn requests (R273 to R275, R279). -/
def State.tueBlocked (s : State) (r : Nat) (x : TueCmd) : Bool :=
  let c := parseCmd x.word
  (s.allFlight.any fun e =>
    let y := e.2
    let d := parseCmd y.word
    decide (y.seq < x.seq) &&
      (c.opcode == oFence || (e.1 == r && (c.ord || c.opcode == oEpoch || d.opcode == oFence)) || s.sameKey c d)) ||
    s.exm.queue.any fun q => decide (q.seq < x.seq) && (c.opcode == oFence || s.learnsKey q c)

/-- A learn request must wait for an earlier command of its key (R224, R273). -/
def State.learnBlocked (s : State) (q : LearnReq) : Bool :=
  s.allFlight.any fun e => decide (e.2.seq < q.seq) && s.learnsKey q (parseCmd e.2.word)

/-- Commands with an opcode that is not listed complete as they may start (Table 10.2, R274, R275). -/
def State.badOpcodes (s : State) : Nat → State
  | 0 => s
  | n + 1 =>
    match s.allFlight.find? fun e => !opcodeKnown (parseCmd e.2.word).opcode && !s.tueBlocked e.1 e.2 with
    | some e => State.badOpcodes (s.tueRecorded e.1 e.2 { status := stBadOpcode }) n
    | none => s

/-- Accept what waits on the eight rings and may be accepted; of what has been accepted, what no command of this model starts completes. -/
def State.tueTake (s : State) : State :=
  let s := s.tueAccept ((s.tue.waiting.map fun e => e.2.length).sum)
  s.badOpcodes s.allFlight.length

/-- A command completes, and what it held back may go on (R268, R274). -/
def State.tueComplete (s : State) (r : Nat) (x : TueCmd) (y : Reply) : State := (s.tueRecorded r x y).tueTake

/-- TUE_RING_TAIL as written: (TAIL - HEAD) modulo the size commands wait; `cmds` are the words of the slots not read before, oldest first (R267, log 7). Each takes the registers that it will read as they stand now (R263, log 117). -/
def State.tueTail (s : State) (r v : Nat) (cmds : List Nat) : State :=
  let s := s.set F.TUE_RING_TAIL_TAIL r v
  let n := s.tueSize r
  let head := s.get F.TUE_RING_HEAD_HEAD r % n
  let want := (s.get F.TUE_RING_TAIL_TAIL r % n + n - head) % n
  let have_ := s.tueWaiting r
  let ageEn := ((List.range 16).filter fun t => s.on F.EXM_SWEEP_AGE_EN t).foldl (fun m t => m + 2 ^ t) 0
  let new := (List.range (want - have_.length)).map fun k =>
    { slot := (head + have_.length + k) % n, word := cmds.getD k 0 % 2 ^ 1024, seq := 0, ageEn := ageEn, waitUs := s.get F.TUE_RING_CTRL_WAIT_US r,
      aborted := false : TueCmd }
  { s with tue := { s.tue with waiting := SMap.put s.tue.waiting r (have_.take want ++ new) } }.tueTake

/-- The command in a slot of a ring that has been accepted and not completed. -/
def State.inSlot (s : State) (r slot : Nat) : Option TueCmd := (s.tueFlight r).find? fun x => x.slot == slot

/-- A command of a ring as it executes: its words, and what its doorbell and its wait have fixed (R263). -/
def TueCmd.cmd (x : TueCmd) : Cmd := { parseCmd x.word with ageEn := x.ageEn, aborted := x.aborted }

/-- Execute the command in a slot where it has the opcode and need not wait; otherwise nothing happens (log 8, log 16). -/
def State.tueRun (s : State) (r slot opcode : Nat) (f : State → Cmd → State × Reply) : State :=
  match s.inSlot r slot with
  | none => s
  | some x =>
    if x.cmd.opcode ≠ opcode ∨ s.tueBlocked r x then s
    else
      let y := f s x.cmd
      y.1.tueComplete r x y.2

/-- TUE_WAIT_TIMEOUT: a command that still waits at its ring's limit (R276). -/
def State.waitTimeout (s : State) (r slot : Nat) : State :=
  match s.inSlot r slot with
  | none => s
  | some x =>
    if s.tueBlocked r x = false ∨ x.waitUs = 0 then s
    else (s.evC F.TUE_EVENT_WAIT_TIMEOUT 0).tueComplete r x { status := stTimeout }

/-- LEARN_SERVE: the learner takes the oldest request, which waits for an earlier command of its key, checks the limit again and inserts (R223, R224, R273). -/
def State.learnServe (s : State) (pinned : Nat → Nat → Bool) : State :=
  match s.exm.queue with
  | [] => s
  | r :: rest =>
    if s.learnBlocked r then s
    else
      let s := { s with exm := { s.exm with queue := rest } }
      let learnt (s : State) : State := (s.count F.EXM_CNT_COUNT 0 1).exmRecord 1 r.table r.port 0 r.payload
      let s := match SMap.find s.layers.tables r.table with
        | none => s
        | some c =>
          if pinned r.table (keyOf c r.payload) then s
          else if s.atLimit r.port then s.limitRecord r.table r.port r.fid r.mac
          else
            match s.emInsert r.table c (pinned r.table) r.payload false false false (s.on F.EXM_SWEEP_AGE_EN r.table) with
            | (s, .ok) => learnt s
            | (s, .moved) => learnt s
            | (s, .evicted) => learnt s
            | (s, _) => s
      s.badOpcodes s.allFlight.length

/-- NOP and FENCE do nothing but complete (Table 10.2, R275). -/
def State.nothing (s : State) (c : Cmd) : State × Reply := (s, { status := if s.badTarget c then stBadTarget else stDone })

/-! ## Epochs (R278 to R282) -/

/-- Frames stamped with an epoch that are still live: those that cross, and buffers that a queue, a routine, the wire or a delivery holds. The frame of a buffer that the host holds, or reinjects, has gone with its DMA (R280). -/
def State.liveFrames (s : State) (e : Nat) : Nat :=
  (s.path.crossing.filter fun c => c.frame.epoch == e).length + (s.path.bufs.filter fun b => b.2.frame.epoch == e && b.2.holders != 0).length

/-- EPOCH starts (R279). -/
def State.epochStart (s : State) (r : Nat) (c : Cmd) : State × Reply :=
  if s.badTarget c then (s, { status := stBadTarget })
  else if 128 ≤ s.tue.epochs.length then (s, { status := stEpochFull })
  else
    let e := s.get F.TUE_EPOCH_CURRENT 0
    let p : PendEpoch := { epoch := e, ring := r, tag := c.tag, timeout := bits c.arg 0 32 != 0 }
    let s := { s with tue := { s.tue with epochs := s.tue.epochs ++ [p] } }
    ((s.set F.TUE_EPOCH_CURRENT 0 (e + 1)).set F.TUE_EPOCH_PENDING 0 s.tue.epochs.length, { status := stDone })

/-- EPOCH_DRAINED: the oldest pending epoch has no live frame (R279, R281). -/
def State.epochDrained (s : State) : State :=
  match s.tue.epochs with
  | [] => s
  | p :: rest =>
    if s.liveFrames p.epoch ≠ 0 then s
    else
      let s := { s with tue := { s.tue with epochs := rest } }
      let s := (s.set F.TUE_EPOCH_DRAINED 0 p.epoch).set F.TUE_EPOCH_PENDING 0 rest.length
      let s := if p.timeout then s.withOwed p.ring (s.tueOwed p.ring - 1) else s
      (s.tueRecord p.ring oEpoch p.tag stEpochDrained 0 0 (recordTime s.nowQ) 0).tueTake

/-- An epoch and every pending one before it have no live frame: it drains in this instant (R279). -/
def State.epochDrains (s : State) (e : Nat) : Bool :=
  ((s.tue.epochs.takeWhile fun p => p.epoch != e).map (·.epoch) ++ [e]).all fun x => s.liveFrames x == 0

/-- EPOCH_TIMEOUT: a pending epoch has not drained in its time; a drain in the same instant wins (R127, R282). -/
def State.epochTimeout (s : State) (e : Nat) : State :=
  match s.tue.epochs.find? fun p => p.epoch == e && p.timeout with
  | none => s
  | some p =>
    if s.epochDrains e then s
    else
      let l : List PendEpoch := s.tue.epochs.map fun (h : PendEpoch) => if h.epoch = e then { h with timeout := false } else h
      let s := { s with tue := { s.tue with epochs := l } }
      (s.evC F.TUE_EVENT_EPOCH_TIMEOUT 0).tueRecord p.ring oEpoch p.tag stTimeout 0 0 (recordTime s.nowQ) 0

/-! ## Timed cuts (R287 to R299) -/

/-- The header of a cut command: reserved bits of ARG, OPFLAGS, INDEX and body are zero (R269, R287). -/
def cutHeader (c : Cmd) (argBits flagBits : Nat) : Bool := decide (c.arg < 2 ^ argBits) && decide (c.flags < 2 ^ flagBits)

/-- CUT_OPEN (R287). -/
def State.cutOpen (s : State) (c : Cmd) : State × Reply :=
  let n := bits c.arg 0 8
  if cutHeader c 8 0 = false ∨ c.index ≠ 0 ∨ c.body ≠ 0 then (s, { status := stBadTarget })
  else if (s.cut n).isSome then (s, { status := stCutBusy })
  else
    let s := { s with tue := { s.tue with opened := s.tue.opened + 1 } }
    (s.withCut n (some { (default : Cut) with state := 1, uid := s.tue.opened }), { status := stDone })

/-- CUT_ADD (R287, R288). -/
def State.cutAdd (s : State) (c : Cmd) : State × Reply :=
  let n := bits c.arg 0 8
  let inner := bits c.arg 8 8
  if cutHeader c 23 0 = false then (s, { status := stBadTarget })
  else
    match (s.cut n).filter fun x => x.state == 1 with
    | none => (s, { status := stCutUnknown })
    | some x =>
      if cutInner inner = false then (s, { status := stBadOpcode })
      else if 64 ≤ x.changes.length then (s, { status := stCutFull })
      else
        match s.offer { c with opcode := inner, flags := bits c.arg 16 7, arg := 0 } with
        | (s, .refused y) => (s, y)
        | (s, .added ch result) => (s.withCut n (some { x with changes := x.changes ++ [ch] }), { status := stDone, result := result })

/-- CUT_ARM's body: T in quarter ns, STREAM_HANDLE, WAIT_NS, GAP_NS, WATCH_PORT (R269). -/
def armFields (b : Nat) : Nat × Nat × Nat × Nat × Nat :=
  ((bits b 32 48 * 10 ^ 9 + bits b 0 32) * 4, bits b 80 16, bits b 96 32, bits b 128 32, bits b 160 10)

/-- CUT_ARM is refused as TUE_BAD_TARGET (R290). -/
def State.armBad (s : State) (c : Cmd) (x : Cut) : Bool :=
  let mode := bits c.arg 8 2
  let f := armFields c.body
  !cutHeader c 10 1 || c.index != 0 || decide (2 ^ 170 ≤ c.body) || x.changes.isEmpty || decide (10 ^ 9 ≤ bits c.body 0 32) || mode == 3 ||
    (mode != 0 && (f.2.2.1 == 0 || !s.isAnyPort f.2.2.2.2)) || (mode == 2 && decide (f.2.2.2.1 < 64))

/-- CUT_ARM (R290 to R294). -/
def State.cutArm (s : State) (r : Nat) (c : Cmd) : State × Reply :=
  let n := bits c.arg 0 8
  match (s.cut n).filter fun x => x.state == 1 with
  | none => (s, { status := if cutHeader c 10 1 then stCutUnknown else stBadTarget })
  | some x =>
    if s.armBad c x then (s, { status := stBadTarget })
    else
      let mode := bits c.arg 8 2
      let f := armFields c.body
      let now := s.nowQ
      let late := decide (f.1 < now)
      let gone := late && mode != 0 && decide (f.1 + 4 * f.2.2.1 < now)
      if late && bitOf c.flags 0 then (s, { status := stCutPast })
      else
        let tx : Option Nat := if mode = 0 then some (if late then now else f.1) else if gone then some now else none
        let y : Cut :=
          { x with
            state := 2, mode := mode, ring := r, tag := c.tag, t := f.1, watch := f.2.2.2.2, stream := f.2.1, waitNs := f.2.2.1, gapNs := f.2.2.2.1,
            tx := tx, late := late, waitExpired := gone, isPartial := false, missed := [], lastLook := s.elapsed }
        ((if late then s.evC F.TUE_EVENT_CUT_LATE 0 else s).withCut n (some y), { status := stDone })

/-- CUT_CANCEL; for an armed cut the CUT_DONE record that follows, with its ring and tag (R297). -/
def State.cutCancel (s : State) (c : Cmd) : State × Reply × Option (Nat × Nat) :=
  let n := bits c.arg 0 8
  if cutHeader c 8 0 = false ∨ c.index ≠ 0 ∨ c.body ≠ 0 then (s, { status := stBadTarget }, none)
  else
    match s.cut n with
    | none => (s, { status := stCutUnknown }, none)
    | some x =>
      if x.state = 1 then (s.withCut n none, { status := stDone }, none)
      else if x.state = 2 ∧ (s.cutFixed x false).tx.all fun t => decide (s.nowQ < t) then (s.withCut n none, { status := stDone }, some (x.ring, x.tag))
      else (s, { status := stCutApplied }, none)

/-- CUT_GAP_FOUND (R293). -/
def State.cutGap (s : State) (n : Nat) : State :=
  match s.cut n with
  | some c => if c.state = 2 ∧ c.tx.isNone ∧ s.gapFound c then s.withCut n (some (s.cutFixed c false)) else s
  | none => s

/-- CUT_WAIT_EXPIRY: neither marker nor gap before T + WAIT_NS (R292, R293). -/
def State.cutWait (s : State) (n : Nat) : State :=
  match s.cut n with
  | some c => if c.state = 2 ∧ c.tx.isNone ∧ s.watchOver c then s.withCut n (some (s.cutFixed c false)) else s
  | none => s

/-- CUT_APPLY: T_x has come; the changes take effect with those of every cut of the same T_x, in every quadrant that takes part (R295, R296, R298, R299). -/
def State.cutApply (s : State) (n : Nat) : State :=
  match s.cut n with
  | some c => if s.cutReached c then s.cutsNow (s.tue.cuts.filter fun e => e.2.state == 2 && e.2.tx == c.tx) else s
  | none => s

/-- CUT_DONE: every change is written, the targets are released, the record is posted (R296). -/
def State.cutDone (s : State) (n : Nat) : State :=
  match s.cut n with
  | some c =>
    if c.state = 3 then
      let flags := b2n c.late + 2 * b2n c.waitExpired + 4 * b2n c.isPartial
      (s.withCut n none).tueRecord c.ring oCutArm c.tag stCutDone 0 flags (recordTime (c.tx.getD 0)) 0
    else s
  | none => s

/-- CUT_CANCEL from its slot: its own record, then the cancelled cut's CUT_DONE (R297). -/
def State.cancelRun (s : State) (r slot : Nat) : State :=
  match s.inSlot r slot with
  | none => s
  | some x =>
    let c := parseCmd x.word
    if c.opcode ≠ oCutCancel ∨ s.tueBlocked r x then s
    else
      let y := s.cutCancel c
      let s := y.1.tueRecorded r x y.2.1
      (y.2.2.elim s fun o => s.tueRecord o.1 oCutArm o.2 stCutDone 0 8 0 0).tueTake

/-! ## The commands -/

/-- LEARN_SERVE (R223). -/
def execLearnServe (s : State) : Host.Outcome State Fault Refusal := .next (s.when s.up fun s => s.learnServe s.pinnedKey)

/-- ORDER_STRICT_WRITE (R266). -/
def execOrderStrictWrite (i v : Nat) (s : State) : Host.Outcome State Fault Refusal :=
  .next (s.when (s.up && decide (i < 9)) fun s => s.orderStrict i v)

/-- TUE_RING_TAIL_WRITE (R267). -/
def execTueRingTailWrite (r v : Nat) (cmds : List Nat) (s : State) : Host.Outcome State Fault Refusal :=
  .next (s.when (s.up && decide (r < 8)) fun s => s.tueTail r v cmds)

/-- NOP (Table 10.2). -/
def execNop (r slot : Nat) (s : State) : Host.Outcome State Fault Refusal :=
  .next (s.when s.up fun s => s.tueRun r slot oNop State.nothing)

/-- FENCE (R275). -/
def execFence (r slot : Nat) (s : State) : Host.Outcome State Fault Refusal :=
  .next (s.when s.up fun s => s.tueRun r slot oFence State.nothing)

/-- EPOCH (R279). -/
def execEpoch (r slot : Nat) (s : State) : Host.Outcome State Fault Refusal :=
  .next (s.when s.up fun s => s.tueRun r slot oEpoch fun s c => s.epochStart r c)

/-- EM_INSERT (R215). -/
def execEmInsert (r slot : Nat) (s : State) : Host.Outcome State Fault Refusal :=
  .next (s.when s.up fun s => s.tueRun r slot oEmInsert State.tableCmd)

/-- EM_UPDATE (R219). -/
def execEmUpdate (r slot : Nat) (s : State) : Host.Outcome State Fault Refusal :=
  .next (s.when s.up fun s => s.tueRun r slot oEmUpdate State.tableCmd)

/-- EM_DELETE (R219). -/
def execEmDelete (r slot : Nat) (s : State) : Host.Outcome State Fault Refusal :=
  .next (s.when s.up fun s => s.tueRun r slot oEmDelete State.tableCmd)

/-- EM_READ (R219, R270). -/
def execEmRead (r slot : Nat) (s : State) : Host.Outcome State Fault Refusal :=
  .next (s.when s.up fun s => s.tueRun r slot oEmRead State.tableCmd)

/-- TC_INSERT (R249). -/
def execTcInsert (r slot : Nat) (s : State) : Host.Outcome State Fault Refusal :=
  .next (s.when s.up fun s => s.tueRun r slot oTcInsert State.tableCmd)

/-- TC_WRITE_ROW (R251). -/
def execTcWriteRow (r slot : Nat) (s : State) : Host.Outcome State Fault Refusal :=
  .next (s.when s.up fun s => s.tueRun r slot oTcWriteRow State.tableCmd)

/-- TC_UPDATE_ACTION (R246). -/
def execTcUpdateAction (r slot : Nat) (s : State) : Host.Outcome State Fault Refusal :=
  .next (s.when s.up fun s => s.tueRun r slot oTcUpdateAction State.tableCmd)

/-- TC_DELETE (R246). -/
def execTcDelete (r slot : Nat) (s : State) : Host.Outcome State Fault Refusal :=
  .next (s.when s.up fun s => s.tueRun r slot oTcDelete State.tableCmd)

/-- TC_READ_ROW (R270). -/
def execTcReadRow (r slot : Nat) (s : State) : Host.Outcome State Fault Refusal :=
  .next (s.when s.up fun s => s.tueRun r slot oTcReadRow State.tableCmd)

/-- OBJ_WRITE (R277). -/
def execObjWrite (r slot : Nat) (s : State) : Host.Outcome State Fault Refusal :=
  .next (s.when s.up fun s => s.tueRun r slot oObjWrite State.tableCmd)

/-- OBJ_READ (R277). -/
def execObjRead (r slot : Nat) (s : State) : Host.Outcome State Fault Refusal :=
  .next (s.when s.up fun s => s.tueRun r slot oObjRead State.tableCmd)

/-- CUT_OPEN (R287). -/
def execCutOpen (r slot : Nat) (s : State) : Host.Outcome State Fault Refusal :=
  .next (s.when s.up fun s => s.tueRun r slot oCutOpen State.cutOpen)

/-- CUT_ADD (R287, R288). -/
def execCutAdd (r slot : Nat) (s : State) : Host.Outcome State Fault Refusal :=
  .next (s.when s.up fun s => s.tueRun r slot oCutAdd State.cutAdd)

/-- CUT_ARM (R290). -/
def execCutArm (r slot : Nat) (s : State) : Host.Outcome State Fault Refusal :=
  .next (s.when s.up fun s => s.tueRun r slot oCutArm fun s c => s.cutArm r c)

/-- CUT_CANCEL (R297). -/
def execCutCancel (r slot : Nat) (s : State) : Host.Outcome State Fault Refusal :=
  .next (s.when s.up fun s => s.cancelRun r slot)

/-- TUE_WAIT_TIMEOUT (R276). -/
def execTueWaitTimeout (r slot : Nat) (s : State) : Host.Outcome State Fault Refusal :=
  .next (s.when s.up fun s => s.waitTimeout r slot)

/-- EPOCH_DRAINED (R279). -/
def execEpochDrained (s : State) : Host.Outcome State Fault Refusal := .next (s.when s.up fun s => s.epochDrained)

/-- EPOCH_TIMEOUT (R282). -/
def execEpochTimeout (e : Nat) (s : State) : Host.Outcome State Fault Refusal := .next (s.when s.up fun s => s.epochTimeout e)

/-- CUT_GAP_FOUND (R293). -/
def execCutGapFound (n : Nat) (s : State) : Host.Outcome State Fault Refusal := .next (s.when s.up fun s => s.cutGap n)

/-- CUT_WAIT_EXPIRY (R292, R293). -/
def execCutWaitExpiry (n : Nat) (s : State) : Host.Outcome State Fault Refusal := .next (s.when s.up fun s => s.cutWait n)

/-- CUT_APPLY (R295). -/
def execCutApply (n : Nat) (s : State) : Host.Outcome State Fault Refusal := .next (s.when s.up fun s => s.cutApply n)

/-- CUT_DONE (R296). -/
def execCutDone (n : Nat) (s : State) : Host.Outcome State Fault Refusal := .next (s.when s.up fun s => s.cutDone n)

end Sys2Proof.Machine
end

