-- ==== Sys2Proof/Machine/Dram.lean ====
section
/-! DEFINITION. The DRAM controllers: read-back, freeze, refresh, training, power-down, self-refresh, the telemetry export, and the steps that write to a stack (chapter 17, R327 to R329). -/

namespace Sys2Proof.Machine

/-! ## A stack leaves service (R329, R466, R467) -/

/-- Source and master of DRC d (Tables 19.1 and 19.2). -/
def drcSrc (d : Nat) : Nat := 0x10 + d
def drcMaster (d : Nat) : Nat := 0xA0 + d

/-- An event of DRC d, of block group 1 (Table 19.4). -/
def State.evD (s : State) (f : Field) (d : Nat) : State := s.event f d 1

/-- Queues that hold a frame in a stack. -/
def State.deepIn (s : State) (d : Nat) : List Nat :=
  (s.path.queues.filter fun e => e.2.any fun x => handleDram x.buf && s.stackOf x.buf == d).map (·.1)

/-- An export under way stops with ERR (R467, R508). -/
def State.exportStop (s : State) (d : Nat) : State :=
  if (s.stack d).exporting.isNone then s
  else
    (((s.withStack d fun x => { x with exporting := none }).set F.DRC_TELEM_EXPORT_CTRL_BUSY d 0).set F.DRC_TELEM_EXPORT_CTRL_ERR d 1).cause (83 + d)

/-- The deep buffer of a stack goes offline: its frames are discarded, its owners stop spilling to it, its export stops, a retraining gives up (R329, R464, R467). -/
def State.drcOffline (s : State) (d : Nat) : State :=
  let s := s.forAll (s.deepIn d) fun s gq => s.dropQueue gq cDeepOffline fun x => handleDram x.buf && s.stackOf x.buf == d
  let s := s.forAll ((List.range 4).filter fun q => s.on F.DRC_SHARE_COUNT_MIB (5 * d + q)) fun s q => (s.set F.BUF_DEEP_STAT_OFFLINE q 1).evQ F.BUF_EVENT_DEEP_OFFLINE q
  let s := (s.setBit F.TOP_CAPACITY_DEEP_OFFLINE 0 d).exportStop d
  match (s.stack d).retrain with
  | some (tag, _) => (s.withStack d fun x => { x with retrain := none }).mailDone 7 tag 2
  | none => s

/-- The controller freezes: the cause is held, the stack goes offline, the ring is lost, and the DRC is fenced whatever its policy (R466, R467). -/
def State.drcFreeze (s : State) (d cause pc cmd addr : Nat) : State :=
  if s.get F.DRC_STATUS_STATE d = 5 then s
  else
    let s := (s.set F.DRC_STATUS_STATE d 5).evD F.DRC_EVENT_FROZEN d
    let s := ((s.set F.DRC_FREEZE_0_CAUSE d cause).set F.DRC_FREEZE_0_PC d pc).set F.DRC_FREEZE_0_CMD d cmd
    let s := (s.set F.DRC_FREEZE_1_ADDR d addr).set F.DRC_FREEZE_1_NS d (s.nowNs % 10 ^ 9)
    let s := s.report (drcSrc d) (if cause = 1 then kUncorr else kCheck) (drcMaster d) (if cmd = 0 then 1 else if cmd = 1 then 2 else 7) addr
    let s := (s.fenceStart (drcSrc d) 0).drcOffline d
    s.withStack d fun x => { x with ring := [] }

/-! ## Read-back (R327, R465) -/

/-- The first entry of a queue that lies in DRAM, and its place. -/
def State.firstDeep (s : State) (gq : Nat) : Option (Nat × QEntry) :=
  match (s.queue gq).findIdx? fun e => handleDram e.buf with
  | some i => ((s.queue gq)[i]?).map fun e => (i, e)
  | none => none

/-- A frame read from DRAM moves to an on-die ordinary buffer; with none free it waits (R327). -/
def State.moveOnDie (s : State) (gq i d : Nat) (e : QEntry) (b : Buf) : State :=
  match s.alloc (queueQuad gq) 0 b.frame with
  | (none, _) => s
  | (some h, s) =>
    let s := s.withBufs (SMap.del (SMap.modify s.path.bufs h b fun n => { b with region := 0, size := n.size }) e.buf)
    let s := (s.count F.DRC_CNT_COUNT (6 * d + 1) (b.size / 64)).wakePcs d ((s.bursts e.buf b.size).map (·.1))
    let l := s.queue gq
    s.withQueue gq (l.take i ++ [{ e with buf := h }] ++ l.drop (i + 1))

/-- A corrected burst read: counted and reported; its burst address follows from no rule and is free (R465; log 17). -/
def State.correctedBurst (s : State) (d : Nat) : State :=
  let r := s.draw
  ((r.2.count F.DRC_CNT_COUNT (6 * d + 2) 1).evD F.DRC_EVENT_CORRECTED d).report (drcSrc d) kCorr (drcMaster d) 1 (r.1 % 2 ^ 35)

/-- Corrected burst reads of one access. -/
def State.correctedRead (s : State) (d : Nat) : Nat → State
  | 0 => s
  | n + 1 => State.correctedRead (s.correctedBurst d) d n

/-- Bursts of a read that match a pending write (R460). -/
def Stack.clashes (x : Stack) (l : List (Nat × Nat)) : Nat :=
  (l.filter fun b => (SMap.findD x.writes b.1 []).any fun w => w.addr == b.2).length

/-- A read waits: a pending write matches one of its bursts, or writes take priority in one of its pseudo-channels (R459, R460). -/
def Stack.blocks (x : Stack) (l : List (Nat × Nat)) : Bool := decide (0 < x.clashes l) || l.any fun b => x.flooded.contains b.1

/-- The read of a queue's first deep frame is served, and meets what it meets (R327, R465, R466). -/
def State.readDeep (s : State) (gq i d : Nat) (e : QEntry) (fault : DramFault) : State :=
  let woken := s.wakePcs d ((s.bursts e.buf (s.entrySize e)).map (·.1))
  match fault, s.buf e.buf with
  | .none, some b => s.moveOnDie gq i d e b
  | .corrected n, some b => (s.correctedRead d (min n (b.size / 64))).moveOnDie gq i d e b
  | .uncorrectable pc addr, _ => woken.drcFreeze d 1 pc 0 addr
  | .parity pc cmd addr, _ => woken.drcFreeze d 2 pc cmd addr
  | _, none => s

/-- A read of a stack waits; it wakes its pseudo-channels, and each burst that a pending write holds up is counted, once for one read (R460, R469). -/
def State.readWaits (s : State) (d : Nat) (w : DramWait) (l : List (Nat × Nat)) : State :=
  if (s.stack d).waits.contains w then s
  else ((s.wakePcs d (l.map (·.1))).withStack d fun x => { x with waits := x.waits ++ [w] }).count F.DRC_CNT_COUNT (6 * d + 3) ((s.stack d).clashes l)

/-- The depth of a spilling queue is at DEEP_THRESH/2 or below: its first frame in DRAM is read back, at once or when the writes before it have gone (R327, R459, R460). -/
def State.deepReadback (s : State) (gq : Nat) (fault : DramFault) : State :=
  match s.firstDeep gq with
  | none => s
  | some (i, e) =>
    let d := s.stackOf e.buf
    if s.get F.DRC_STATUS_STATE d ≠ 2 ∨ s.on F.DRC_STATUS_FENCED d ∨ s.get F.BUF_PROFILE_AGE_DEEP_THRESH (s.profileOf gq) * 128 < s.depth gq then s
    else
      let l := s.bursts e.buf (s.entrySize e)
      if (s.stack d).blocks l then s.readWaits d (.readback gq e.buf fault) l else s.readDeep gq i d e fault

/-! ## Writes that meet an error (R466) -/

/-- A step has written to a stack: a frame lies there that did not, or the ring has gone on. -/
def State.wroteTo (s t : State) (d : Nat) : Bool :=
  s.get F.DRC_TELEM_STAT_WRITE_INDEX d != t.get F.DRC_TELEM_STAT_WRITE_INDEX d ||
    t.path.bufs.any fun b => handleDram b.1 && t.stackOf b.1 == d && (s.buf b.1).isNone

/-- A command/address parity error of a write freezes the controller that met it (R466). -/
def State.writesMet (s t : State) (d : Nat) (fault : DramFault) : State :=
  match fault with
  | .parity pc _ addr => t.when (s.wroteTo t d) fun t => t.drcFreeze d 2 pc 1 addr
  | _ => t

/-- A record of a departure enters the ring of a quadrant, and meets what its write meets (R386, R466). -/
def State.stampToRing (s : State) (q : Nat) (r : Nat × DramFault) : State :=
  let t := s.telemWrite q r.1
  match s.telemStack q with
  | some d => s.writesMet t d r.2
  | none => t

/-- The departure stamps of a tile move to the history ring (R353). -/
def State.stampsMove (s : State) (t : Nat) : State :=
  let l := s.tsfStamps t
  let s := { s with path := { s.path with stamps := SMap.del s.path.stamps t } }
  s.forAll l fun s r => s.stampToRing (t / 8) r

/-! ## Refresh and temperature (R462, R463) -/

/-- DRAM_REFRESH: one bank of a pseudo-channel; the request wakes it, and a parity error freezes the controller (R462, R466, R469). -/
def State.dramRefresh (s : State) (d pc : Nat) (fault : DramFault) : State :=
  if s.get F.DRC_STATUS_STATE d = 5 ∨ 32 ≤ pc then s
  else
    let s := s.wakePcs d [pc]
    match fault with
    | .parity _ _ addr => s.drcFreeze d 2 pc 2 addr
    | _ => s

/-- The refresh interval of a temperature (R462). -/
def refreshCode (c : Int) : Nat := if c ≤ 85 then 0 else if c ≤ 95 then 1 else 2

/-- A stack in operation that has had a full training; one without a share has none (R76, R463). -/
def State.trained (s : State) (d : Nat) : Bool := [2, 3, 4].contains (s.get F.DRC_STATUS_STATE d) && (s.stack d).trainedAt.isSome

/-- A full training falls due (R463). -/
def State.retrainDue (s : State) (d : Nat) : State := if s.trained d then s.evD F.DRC_EVENT_RETRAIN_DUE d else s

/-- STACK_TEMP_REPORT: the interval, the limit of 105 °C and the drift since the last full training (R462, R463). -/
def State.stackTemp (s : State) (d : Nat) (c : Int) : State :=
  let s := (s.set F.DRC_STATUS_TEMP d (c % 256).toNat).set F.DRC_STATUS_REFRESH d (refreshCode c)
  let s := if 105 < c then (s.evD F.DRC_EVENT_OVERTEMP d).report (drcSrc d) kLimit (drcMaster d) 0 0 else s
  match (s.stack d).trainedAt with
  | some c₀ => if 15 ≤ c - c₀ ∨ 15 ≤ c₀ - c then s.retrainDue d else s
  | none => s

/-- The temperature of a stack as last reported. -/
def State.stackCelsius (s : State) (d : Nat) : Int := s.getInt F.DRC_STATUS_TEMP d

/-! ## Retraining (R464, R472) -/

/-- The stack holds a DEEP_SHARE or a TELEM_SHARE (R76). -/
def State.hasShare (s : State) (d : Nat) : Bool := (List.range 5).any fun k => s.on F.DRC_SHARE_COUNT_MIB (5 * d + k)

/-- DRAM_RETRAIN: spills to the stack stop (R464). -/
def State.dramRetrain (s : State) (tag d : Nat) : State :=
  if s.hasShare d = false then s.mailDone 7 tag 3
  else if s.trained d = false ∨ s.on F.DRC_STATUS_FENCED d then s.mailDone 7 tag 2
  else s.withStack d fun x => { x with retrain := some (tag, true) }

/-- DRAM_RETRAIN_DRAINED: an empty stack starts to train, also in the cycle of the timeout; else the command gives up (R127, R464). -/
def State.retrainDrained (s : State) (d : Nat) : State :=
  match (s.stack d).retrain with
  | some (tag, true) =>
    if (s.deepIn d).isEmpty then ((s.dramServe d 64).withStack d fun x => { x with retrain := some (tag, false) }).set F.DRC_STATUS_STATE d 1
    else (s.withStack d fun x => { x with retrain := none }).mailDone 7 tag 1
  | _ => s

/-- DRAM_RETRAIN_DONE: RETRAIN_DUE clears and spills resume (R464). -/
def State.retrainDone (s : State) (d : Nat) : State :=
  match (s.stack d).retrain with
  | some (tag, false) =>
    let c := s.stackCelsius d
    (((s.withStack d fun x => { x with retrain := none, trainedAt := some c, since := s.elapsed }).set F.DRC_STATUS_STATE d 2).set F.DRC_EVENT_RETRAIN_DUE d 0).mailDone 7 tag 0
  | _ => s

/-! ## Power-down and self-refresh (R469 to R471) -/

/-- The bursts of a record range of the ring, by pseudo-channel and address (R456; log 112). -/
def State.ringBursts (s : State) (d first count : Nat) : List (Nat × Nat) :=
  ((List.range count).map fun k => s.telemBurst d ((first + k) % s.telemSize d)).eraseDups

/-- Pseudo-channels that a read which waits needs. -/
def State.waitPcs (s : State) (d : Nat) : DramWait → List Nat
  | .readback _ h _ => ((s.buf h).elim [] fun b => s.bursts h b.size).map (·.1)
  | .records _ => ((s.stack d).exporting.elim [] fun x => s.ringBursts d x.2.1 x.2.2).map (·.1)

/-- A pseudo-channel has a request pending: a write in its queue, or a read that waits (R469). -/
def State.pcPending (s : State) (d pc : Nat) : Bool :=
  (SMap.find (s.stack d).writes pc).isSome || (s.stack d).waits.any fun w => (s.waitPcs d w).contains pc

/-- PC_POWER_DOWN: a pseudo-channel of a serving stack with no pending request (R469). -/
def State.pcPowerDown (s : State) (d pc : Nat) : State :=
  if s.get F.DRC_STATUS_STATE d ≠ 2 ∨ 32 ≤ pc ∨ (s.stack d).pcDown.contains pc = true ∨ s.pcPending d pc = true then s
  else
    let l := pc :: (s.stack d).pcDown
    (s.withStack d fun x => { x with pcDown := l }).set F.DRC_STATUS_PCS_DOWN d l.length

/-- The conditions of R470 but the time. -/
def State.mayRefreshItself (s : State) (d : Nat) : Bool :=
  s.get F.DRC_STATUS_STATE d == 2 && s.on F.DRC_CFG_SR_EN d && (s.deepIn d).isEmpty &&
    !((List.range 4).any fun q => s.telemStack q == some d && s.on F.SMP_CTRL_RING_EN q) &&
    (s.stack d).exporting.isNone && (s.stack d).retrain.isNone && (s.stack d).writes.isEmpty

/-- SELF_REFRESH_ENTRY (R470). -/
def State.selfRefresh (s : State) (d : Nat) : State :=
  s.when (s.mayRefreshItself d) fun s => (s.set F.DRC_STATUS_STATE d 3).count F.DRC_CNT_COUNT (6 * d + 4) 1

/-- An exit from self-refresh starts (R471). -/
def State.selfRefreshExit (s : State) (d : Nat) : State := if s.get F.DRC_STATUS_STATE d = 3 then s.set F.DRC_STATUS_STATE d 4 else s

/-- RING_EN of a quadrant as written; setting it starts an exit of the stack it writes to (R471). -/
def State.ringEnable (s : State) (q : Nat) : State :=
  match s.telemStack q with
  | some d => if s.on F.SMP_CTRL_RING_EN q then s.selfRefreshExit d else s
  | none => s

/-! ## Export (R457) -/

/-- DRC_TELEM_EXPORT_CTRL as written: the flags, the fields, then GO; a stack that retrains takes the export too and copies once it serves again (R457, R464). -/
def State.exportWrite (s : State) (d v : Nat) : State :=
  let s := if bitOf v 57 then s.set F.DRC_TELEM_EXPORT_CTRL_DONE d 0 else s
  let s := if bitOf v 58 then s.set F.DRC_TELEM_EXPORT_CTRL_ERR d 0 else s
  let s := (s.set F.DRC_TELEM_EXPORT_CTRL_FIRST d (bits v 0 31)).set F.DRC_TELEM_EXPORT_CTRL_COUNT d (bits v 32 24)
  if bitOf v 31 = false then s
  else
    let n := s.telemSize d
    let first := bits v 0 31
    let count := bits v 32 24
    if s.on F.DRC_TELEM_EXPORT_CTRL_BUSY d ∨ n ≤ first ∨ count = 0 ∨ n < count ∨ (s.trained d || s.retraining d) = false ∨ s.on F.DRC_STATUS_FENCED d ∨ s.pins.hostAllowed = false then
      (s.set F.DRC_TELEM_EXPORT_CTRL_ERR d 1).cause (83 + d)
    else
      let addr := s.get F.DRC_TELEM_EXPORT_ADDR_ADDR d / 4096 * 4096
      ((s.withStack d fun x => { x with exporting := some (addr, first, count) }).set F.DRC_TELEM_EXPORT_CTRL_BUSY d 1).selfRefreshExit d

/-- A read-back waits: it goes before an export (R459). -/
def DramWait.isReadback : DramWait → Bool
  | .readback _ _ _ => true
  | .records _ => false

/-- The records as the ring holds them, in order and wrapping, go to the host, then DONE (R457); each goes least significant byte first (log 23). -/
def State.exportOut (s : State) (d addr first count : Nat) : State :=
  let n := s.telemSize d
  let bytes := (List.range count).flatMap fun k => leBytes (SMap.findD (s.stack d).ring ((first + k) % n) 0) 16
  let s := (s.wakePcs d ((s.ringBursts d first count).map (·.1))).hostWrite addr bytes
  let s := s.count F.DRC_CNT_COUNT (6 * d + 1) ((first + count - 1) / 4 - first / 4 + 1)
  (((s.withStack d fun x => { x with exporting := none }).set F.DRC_TELEM_EXPORT_CTRL_BUSY d 0).set F.DRC_TELEM_EXPORT_CTRL_DONE d 1).cause (83 + d)

/-- TELEM_EXPORT_DONE: the export's reads come after every pending write and every read-back (R459, R460), and meet what they meet (R465, R466). -/
def State.exportDone (s : State) (d : Nat) (fault : DramFault) : State :=
  match (s.stack d).exporting with
  | none => s
  | some (addr, first, count) =>
    if s.get F.DRC_STATUS_STATE d ≠ 2 then s
    else if (s.stack d).writes.isEmpty = false ∨ (s.stack d).waits.any DramWait.isReadback = true then s.readWaits d (.records fault) (s.ringBursts d first count)
    else
      let bursts := s.ringBursts d first count
      let woken := s.wakePcs d (bursts.map (·.1))
      match fault with
      | .none => s.exportOut d addr first count
      | .corrected n => (s.correctedRead d (min n bursts.length)).exportOut d addr first count
      | .uncorrectable pc addr => woken.drcFreeze d 1 pc 0 addr
      | .parity pc cmd addr => woken.drcFreeze d 2 pc cmd addr

/-! ## One tick of a controller (R459, R460) -/

/-- Writes that a pseudo-channel moves in one tick: 37.5 GB/s are 7.5 bursts in 12.8 ns (R452; log 112). -/
def State.tickBursts (s : State) : Nat := 7 + s.elapsed / 64 % 2

/-- A read that waited is served once nothing holds it up. -/
def State.waitServed (s : State) (d : Nat) (w : DramWait) : State :=
  let done (s : State) : State := s.withStack d fun x => { x with waits := x.waits.filter (· != w) }
  match w with
  | .records fault => s.when ((s.stack d).writes.isEmpty && !(s.stack d).waits.any DramWait.isReadback) fun s => (done s).exportDone d fault
  | .readback gq h fault =>
    match s.firstDeep gq with
    | some (i, e) =>
      if e.buf != h then done s
      else if (s.stack d).blocks (s.bursts h (s.entrySize e)) then s
      else (done s).readDeep gq i d e fault
    | none => done s

/-- The reads of a stack that wait, in the order in which they are served: read-backs before exports, each oldest first (R459). -/
def Stack.reads (x : Stack) : List DramWait := x.waits.filter (·.isReadback) ++ x.waits.filter fun w => !w.isReadback

/-- A tick of the controllers that serve: writes reach the DRAM, then the reads that waited for them are served. -/
def State.dramTick (s : State) : State :=
  s.forAll ((s.drams.filter fun e => !e.2.writes.isEmpty || !e.2.waits.isEmpty).map (·.1)) fun s d =>
    if s.get F.DRC_STATUS_STATE d ≠ 2 then s
    else
      let s := s.dramServe d s.tickBursts
      s.forAll (s.stack d).reads fun s w => if s.get F.DRC_STATUS_STATE d = 2 then s.waitServed d w else s

/-! ## The commands -/

/-- DEEP_READBACK (R327). -/
def execDeepReadback (gq : Nat) (fault : DramFault) (s : State) : Host.Outcome State Fault Refusal :=
  .next (s.when (s.up && decide (gq < 24576)) fun s => s.deepReadback gq fault)

/-- DRAM_REFRESH of a stack that serves, or leaves self-refresh (R462, Table 17.4). -/
def execDramRefresh (d pc : Nat) (fault : DramFault) (s : State) : Host.Outcome State Fault Refusal :=
  .next (s.when (s.up && decide (d < 2) && [2, 4].contains (s.get F.DRC_STATUS_STATE d)) fun s => s.dramRefresh d pc fault)

/-- STACK_TEMP_REPORT (R462). -/
def execStackTempReport (d : Nat) (c : Int) (s : State) : Host.Outcome State Fault Refusal :=
  .next (s.when (s.up && decide (d < 2) && !s.inReset (.drc d)) fun s => s.stackTemp d c)

/-- DRAM_RETRAIN (R464). -/
def execDramRetrain (tag d timeoutMs : Nat) (s : State) : Host.Outcome State Fault Refusal :=
  .next (s.mailRun 7 tag [d, timeoutMs] fun s => s.dramRetrain tag d)

/-- DRAM_RETRAIN_DRAINED (R464). -/
def execDramRetrainDrained (d : Nat) (s : State) : Host.Outcome State Fault Refusal :=
  .next (s.when (s.up && decide (d < 2)) fun s => s.retrainDrained d)

/-- DRAM_RETRAIN_DONE (R464). -/
def execDramRetrainDone (d : Nat) (s : State) : Host.Outcome State Fault Refusal :=
  .next (s.when (s.up && decide (d < 2)) fun s => s.retrainDone d)

/-- PC_POWER_DOWN (R469). -/
def execPcPowerDown (d pc : Nat) (s : State) : Host.Outcome State Fault Refusal :=
  .next (s.when (s.up && decide (d < 2)) fun s => s.pcPowerDown d pc)

/-- SELF_REFRESH_ENTRY (R470). -/
def execSelfRefreshEntry (d : Nat) (s : State) : Host.Outcome State Fault Refusal :=
  .next (s.when (s.up && decide (d < 2)) fun s => s.selfRefresh d)

/-- SELF_REFRESH_EXITED: the stack serves again (R471). -/
def execSelfRefreshExited (d : Nat) (s : State) : Host.Outcome State Fault Refusal :=
  .next (s.when (s.up && decide (d < 2) && s.get F.DRC_STATUS_STATE d == 4) fun s => s.set F.DRC_STATUS_STATE d 2)

/-- TRAIN_PERIOD_EXPIRY: a firmware timer, which restarts Caddis; with TRAIN_PERIOD_S 0 the period is not checked (R117, R463). -/
def execTrainPeriodExpiry (d : Nat) (s : State) : Host.Outcome State Fault Refusal :=
  .next (s.when (s.up && decide (d < 2) && s.on F.DRC_CFG_TRAIN_PERIOD_S d) fun s => s.caddisRestart.retrainDue d)

/-- TELEM_EXPORT: a write of DRC_TELEM_EXPORT_CTRL (R457). -/
def execTelemExport (d v : Nat) (s : State) : Host.Outcome State Fault Refusal :=
  .next (s.when (s.up && decide (d < 2) && !s.inReset (.drc d)) fun s => s.exportWrite d v)

/-- TELEM_EXPORT_DONE (R457). -/
def execTelemExportDone (x : ExportEnd) (s : State) : Host.Outcome State Fault Refusal :=
  .next (s.when (s.up && decide (x.stack < 2) && s.pins.hostAllowed) fun s => s.exportDone x.stack x.fault)

/-- EGRESS_ARRIVAL: a frame that spills meets what its writes meet (R306, R325, R466). -/
def execEgressArrival (x : QuadWrite) (s : State) : Host.Outcome State Fault Refusal :=
  .next (s.when (s.quadThere x.quadrant && decide (x.quadrant < 4)) fun s => s.writesMet (s.egressArrival x.quadrant) x.stack x.fault)

/-- QUEUE_SAMPLE: its records meet what their writes meet (R385, R386, R466). -/
def execQueueSample (x : QuadWrite) (s : State) : Host.Outcome State Fault Refusal :=
  .next (s.when (s.quadUp x.quadrant && decide (x.quadrant < 4)) fun s => s.writesMet (s.queueSample x.quadrant) x.stack x.fault)

end Sys2Proof.Machine
end

