-- ==== Sys2Proof/Machine/Optics.lean ====
section
/-! DEFINITION. Optical engines, laser inputs, calibration, the Causeway bypass, joining a ring, and the capacity that lane fences change (chapter 6, R137, R404, R405, R498, R499). -/

namespace Sys2Proof.Machine

/-! ## Causeway groups (R175 to R180) -/

/-- STATE of a Causeway group: 0 closed, 1 opening, 2 open, 3 closing. -/
def State.csw (s : State) (g : Nat) : Nat := s.get F.CSW_STATUS_STATE g

/-- A group takes another state: every change is counted and sets STATE_CHANGE (R178). -/
def State.cswMove (s : State) (g st : Nat) : State :=
  ((s.set F.CSW_STATUS_STATE g st).count F.CSW_STATUS_CHANGES g 1).eventBit F.CSW_EVENT_STATE_CHANGE 0 g 0

/-- Openings of a group under way are answered. -/
def State.cswAnswer (s : State) (g result : Nat) : State :=
  let tags := (s.optics.opening.filter fun e => e.1 == g).map (·.2)
  let s := { s with optics := { s.optics with opening := s.optics.opening.filter fun e => e.1 != g } }
  s.forAll tags fun s tag => s.mailDone 11 tag result

/-- A cause of closing arises: an open or opening group starts to close, and an open under way returns CSW_NOT_READY (R175, R177). -/
def State.groupClose (s : State) (g cause : Nat) : State :=
  if groupPresent s.variant g = false ∨ (s.csw g ≠ 1 ∧ s.csw g ≠ 2) then s
  else ((s.cswMove g 3).set F.CSW_STATUS_CLOSE_CAUSE g cause).cswAnswer g 3

/-- The ring ports of a group. -/
def ringPorts (g : Nat) : List Nat := [128 * g, 128 * g + 4]

/-- BYPASS_CLOSED: light passes the node by; its ring ports lose theirs and, without debounce and outside near-end loopback, go down (R133, R136, R175). -/
def State.bypassClosed (s : State) (g : Nat) : State :=
  if s.csw g ≠ 3 then s
  else (s.cswMove g 0).linksDown ((ringPorts g).filter fun p => s.isPort p && !s.on F.PRT_CFG_DOWN_DEBOUNCE p && s.get F.PRT_CFG_LOOPBACK p != 1)

/-- BYPASS_OPENED; without VDD_OPT no element can be held open (R70, R176). DESIGN CHOICE, log 33: what R176 asks for beyond the causes of R175 is asked as the opening begins and not again as it ends, so the command still succeeds where laser fibre 1 has gone dark or the tile has entered torpor meanwhile. -/
def State.bypassOpened (s : State) (g : Nat) : State := if s.csw g ≠ 1 ∨ s.railMissing 5 = true then s else (s.cswMove g 2).cswAnswer g 0

/-- What R176 asks of the engine and the tile; the elements need VDD_OPT (R70). -/
def State.cswReady (s : State) (g : Nat) : Bool :=
  !s.railMissing 5 && s.get F.OPT_STATUS_LASER_OK (8 * g) == 3 && s.on F.OPT_STATUS_CAL_DONE (8 * g) && !s.on F.OPT_STATUS_CALIBRATING (8 * g) &&
    decide (s.sleepOf (8 * g) ≤ 1) && s.tileUp (8 * g)

/-- CAUSEWAY_SET open (R176, R179, Table 6.3). -/
def State.causewayOpen (s : State) (tag g : Nat) : State :=
  if groupPresent s.variant g = false ∨ s.on F.CSW_STATUS_MEMBER g = false then s.mailDone 11 tag 1
  else if s.optics.faulted.contains g then s.mailDone 11 tag 4
  else if s.on F.CSW_STATUS_JOINED g = false then s.mailDone 11 tag 2
  else if s.cswReady g = false ∨ s.csw g = 3 then s.mailDone 11 tag 3
  else if s.csw g = 2 then s.mailDone 11 tag 0
  else
    let s := { s with optics := { s.optics with opening := s.optics.opening ++ [(g, tag)] } }
    if s.csw g = 1 then s else s.cswMove g 1

/-- CAUSEWAY_SET close (R180). -/
def State.causewayClose (s : State) (tag g : Nat) : State :=
  if groupPresent s.variant g = false then s.mailDone 11 tag 1 else (s.groupClose g 3).mailDone 11 tag 0

/-- ELEMENT_FAULT: a held or opening group closes for good (R179). -/
def State.elementFault (s : State) (g : Nat) : State :=
  if s.csw g ≠ 1 ∧ s.csw g ≠ 2 then s
  else
    let s := s.groupClose g 7
    let s := { s with optics := { s.optics with faulted := if s.optics.faulted.contains g then s.optics.faulted else g :: s.optics.faulted } }
    (s.eventBit F.CSW_EVENT_ELEMENT_FAULT 0 g 0).report 0x001 kLimit 0x04 0 g

/-! ## Joining and leaving a ring (R404, R405) -/

/-- The agent of a group starts or stops with no probe outstanding. -/
def State.joined (s : State) (g : Nat) (on : Bool) : State :=
  let s := { s with probes := SMap.drop s.probes fun p => (ringPorts g).contains p }
  (s.set F.CSW_STATUS_JOINED g (b2n on)).set F.RNG_GROUP_STATUS_JOINED g (b2n on)

/-- RING_JOIN (R404, Table 14.5). -/
def State.ringJoin (s : State) (tag g : Nat) : State :=
  if groupPresent s.variant g = false ∨ s.on F.RNG_GROUP_CFG_MEMBER g = false then s.mailDone 9 tag 1
  else if s.on F.CSW_STATUS_JOINED g then s.mailDone 9 tag 0
  else if s.tileUp (8 * g) = false ∨ ((ringPorts g).all fun p => s.isPort p) = false then s.mailDone 9 tag 2
  else ((s.set F.RNG_GROUP_STATUS_NEXT_SEQ g 0).joined g true).mailDone 9 tag 0

/-- RING_LEAVE (R405, Table 14.5). -/
def State.ringLeave (s : State) (tag g : Nat) : State :=
  if groupPresent s.variant g = false ∨ s.on F.RNG_GROUP_CFG_MEMBER g = false then s.mailDone 10 tag 1
  else if s.on F.CSW_STATUS_JOINED g = false then s.mailDone 10 tag 0
  else ((s.groupClose g 3).joined g false).mailDone 10 tag 0

/-! ## Capacity (R498, R499) -/

/-- A common multiple of every 6 × N_r that R45 allows, in which the factors of R498 are whole. -/
def capUnit : Nat := 12 * 5354228880

/-- The factor of a port, times `capUnit` (R498). -/
def State.capFactor (s : State) (p : Nat) : Nat :=
  let t := p / 16
  if s.tileUp t = false ∨ (s.live p).held then 0
  else if s.on F.PRT_STATUS_NARROWED p then capUnit / 2
  else
    let need := s.enginesNeeded t
    let k := ((List.range 6).filter fun k => bitOf (s.get F.RWE_STATUS_IN_SERVICE t) k).length
    min (s.get F.PRS_FARM_ACTIVE t) need * k * (capUnit / (6 * need))

/-- The FABRIC rate of a port in Gbit/s. -/
def PortCfg.gbps (c : PortCfg) : Nat := c.width * laneGbps c.rate

/-- CAPACITY; with no port configured it keeps its reset value (R498). -/
def State.capacity (s : State) : Nat :=
  let c := (s.layers.fabric.map PortCfg.gbps).sum
  if c = 0 then 10000
  else 10000 * (s.layers.fabric.map fun x => x.gbps * s.capFactor x.lane).sum / (c * capUnit)

/-- CAPACITY is recomputed, and a change of BELOW_FLOOR reported (R498, R499, R501). -/
def State.recompute (s : State) : State :=
  let n := s.capacity
  let s := s.set F.TOP_CAPACITY_CAPACITY 0 n
  let below := decide (n < 100 * s.get F.TOP_CAPACITY_FLOOR 0)
  if below = s.on F.TOP_CAPACITY_BELOW_FLOOR 0 then s
  else
    let s := (s.set F.TOP_CAPACITY_BELOW_FLOOR 0 (b2n below)).report 0x001 kLimit 0x04 0 0
    s.logDue 4 0x001 (SMap.findD s.sundew.caps 0x001 default)

/-! ## Fenced lanes (R137, R175, R451) -/

/-- The configured port that a lane belongs to. -/
def State.portOfLane (s : State) (lane : Nat) : Option PortCfg := s.layers.fabric.find? fun c => decide (c.lane ≤ lane ∧ lane < c.lane + c.width)

/-- A fence on a ring port's lane closes its group (R175). -/
def State.ringLaneFenced (s : State) (p : Nat) : State :=
  if p % 128 = 0 ∨ p % 128 = 4 then s.groupClose (p / 128) 5 else s

/-- An optical lane is fenced: its port narrows to its lower half, or stays down (R137). A further lane of the upper half of a port that has narrowed takes the link down again (DESIGN CHOICE, log 70). -/
def State.opticFence (s : State) (t i : Nat) : State :=
  if bitOf (s.get F.OPT_STATUS_LANE_FENCED t) i then s
  else
    let s := s.setBit F.OPT_STATUS_LANE_FENCED t i
    match s.portOfLane (16 * t + i) with
    | none => s
    | some c =>
      let p := c.lane
      let s :=
        if 2 ≤ c.width ∧ s.on F.PRT_CFG_NARROW_OK p = true ∧ p + c.width / 2 ≤ 16 * t + i ∧ (s.live p).held = false then (s.set F.PRT_STATUS_NARROWED p 1).evPrt F.PRT_EVENT_NARROWED p
        else s.withLive p fun l => { l with held := true }
      (s.linkDown p).ringLaneFenced p

/-- An Elytra lane is fenced: its key material is erased and its port goes down (R445, R451). -/
def State.elytraFence (s : State) (t i : Nat) : State :=
  match s.portOfLane (16 * t + i) with
  | none => s
  | some c =>
    let p := c.lane
    let slots := if s.namesSlots p then [s.get F.PRT_SEC_CFG_TX_SLOT p, s.get F.PRT_SEC_CFG_RX_SLOT p] else []
    let s := s.forAll slots State.slotZeroize
    ((s.withLive p fun l => { l with held := true }).linkDown p).ringLaneFenced p

/-- Optical lanes of an engine return by calibration or reset: their fences end, and ports held or narrowed by them alone are free (Table 19.5). -/
def State.opticsReturn (s : State) (t : Nat) : State :=
  let s := { s with sundew := { s.sundew with
    fenced := s.sundew.fenced.filter fun r => r.1 ≠ srcTile t 2
    fencing := s.sundew.fencing.filter fun r => r.1 ≠ srcTile t 2
    reacting := s.sundew.reacting.filter fun r => r.1 ≠ srcTile t 2 } }
  let s := s.set F.OPT_STATUS_LANE_FENCED t 0
  s.forAll (s.portsOf t) fun s p =>
    let lanes := (s.port p).elim [] PortCfg.lanes
    let other := lanes.any fun l => s.isFenced (srcTile t 3) (l % 16)
    (s.set F.PRT_STATUS_NARROWED p 0).withLive p fun l => { l with held := other }

/-! ## Laser inputs and tracking (R167, R169 to R171) -/

/-- A two's complement field of 16 bits. -/
def signed16 (v : Nat) : Int := if v < 32768 then v else (v : Int) - 65536

/-- A measured power on a laser fibre; its minimum since the last read follows (OPT_LASER_PWR, R566). -/
def State.laserPower (s : State) (e f : Nat) (x : Int) : State :=
  let i := 2 * e + f
  let s := s.set F.OPT_LASER_PWR_PWR i (x % 65536).toNat
  if x < signed16 (s.get F.OPT_LASER_PWR_PWR_MIN i) then s.set F.OPT_LASER_PWR_PWR_MIN i (x % 65536).toNat else s

/-- LASER_LIT: 14.0 dBm or more; the power itself is free; without VDD_OPT the engine stays in reset (R69, R169, R171; log 17). -/
def State.laserLit (s : State) (e f : Nat) : State :=
  if optical s.variant e = false ∨ s.railMissing 5 = true ∨ bitOf (s.get F.OPT_STATUS_LASER_OK e) f then s
  else
    let r := s.draw
    (r.2.laserPower e f (1400 + (r.1 % 31368 : Nat))).setBit F.OPT_STATUS_LASER_OK e f

/-- LASER_LOST: the ports that the fibre lights go down and are not narrowed (R169, R170, R175). The report names the first of the eight lanes that the fibre lights (DESIGN CHOICE, log 70). -/
def State.laserLost (s : State) (e f : Nat) : State :=
  if optical s.variant e = false ∨ bitOf (s.get F.OPT_STATUS_LASER_OK e) f = false then s
  else
    let r := s.draw
    let s := (r.2.laserPower e f (1399 - (r.1 % 34168 : Nat))).clrBit F.OPT_STATUS_LASER_OK e f
    let lit (l : Nat) : Bool := l / 16 == e && l % 16 / 8 == f
    let s := s.linksDown ((s.layers.fabric.filter fun c => c.lanes.any lit).map (·.lane))
    let s := (s.eventBit F.OPT_EVENT_LASER_LOSS e f 6).report (srcTile e 2) kLimit 0x04 0 (8 * f)
    if e % 8 = 0 ∧ f = 0 then s.groupClose (e / 8) 4 else s

/-- TRACK_LIMIT of a lane of an engine, reported with its local number (R167, R486). -/
def State.trackLimit (s : State) (e lane : Nat) : State :=
  if optical s.variant e = false ∨ s.on F.OPT_STATUS_CAL_DONE e = false then s
  else (s.evOpt F.OPT_EVENT_TRACK_LIMIT e).report (srcTile e 2) kLimit 0x04 0 lane

/-! ## Calibration (R172, R173) -/

/-- A laser fibre that lights a configured lane of the engine is dark; without VDD_OPT every engine is (R69; log 70). -/
def State.engineDark (s : State) (e : Nat) : Bool :=
  s.railMissing 5 || s.layers.fabric.any fun c => c.lanes.any fun l => l / 16 == e && !bitOf (s.get F.OPT_STATUS_LASER_OK e) (l % 16 / 8)

/-- OPT_CALIBRATE; of several refusals the lowest code of Table 6.2 is answered (R173; DESIGN CHOICE, log 70). -/
def State.optCalibrate (s : State) (tag e : Nat) : State :=
  if 31 < e ∨ optical s.variant e = false then s.mailDone 8 tag 1
  else if s.engineDark e then s.mailDone 8 tag 2
  else if s.tileUp e = false ∨ s.sleepOf e = 2 then s.mailDone 8 tag 4
  else
    let s := { s with optics := { s.optics with cal := SMap.put s.optics.cal e tag } }
    let s := (s.set F.OPT_STATUS_CALIBRATING e 1).linksDown (s.portsOf e)
    if e % 8 = 0 then s.groupClose (e / 8) 6 else s

/-- Calibration of an engine ends: lanes that failed are reported, and fenced where their policy says so (R172, R485, Table 6.2; log 70). -/
def State.calibrated (s : State) (e : Nat) (badLanes : List Nat) : State :=
  let bad := (List.range 16).filter fun i => badLanes.contains i
  let s := ((s.opticsReturn e).set F.OPT_STATUS_CALIBRATING e 0).set F.OPT_STATUS_CAL_DONE e 1
  let s := if bad.isEmpty then s else s.evOpt F.OPT_EVENT_CAL_FAIL e
  (s.forAll bad fun s i =>
    (s.report (srcTile e 2) kCheck 0x01 0 i).when (s.fencePolicy (srcTile e 2) i) fun s => (s.opticFence e i).fenceDone (srcTile e 2) i).recompute

/-- OPT_CALIBRATE_DONE answers its command: 0x03 where any lane has failed or is fenced, be it of no configured port (Table 20.7; DESIGN CHOICE, log 70). -/
def State.optCalibrateDone (s : State) (e : Nat) (badLanes : List Nat) : State :=
  match SMap.find s.optics.cal e with
  | none => s
  | some tag =>
    let s := ({ s with optics := { s.optics with cal := SMap.del s.optics.cal e } }).calibrated e badLanes
    let fenced := s.get F.OPT_STATUS_LANE_FENCED e
    s.mailRespond 8 tag mbDone (if fenced = 0 ∧ badLanes.all (16 ≤ ·) then 0 else 3) fenced

/-! ## The commands -/

/-- LASER_LIT (R171). -/
def execLaserLit (e f : Nat) (s : State) : Host.Outcome State Fault Refusal :=
  .next (s.when (s.up && decide (e < 32) && decide (f < 2)) fun s => s.laserLit e f)

/-- LASER_LOST (R170). -/
def execLaserLost (e f : Nat) (s : State) : Host.Outcome State Fault Refusal :=
  .next (s.when (s.up && decide (e < 32) && decide (f < 2)) fun s => s.laserLost e f)

/-- TRACK_LIMIT (R167). -/
def execTrackLimit (x : EngineLane) (s : State) : Host.Outcome State Fault Refusal :=
  .next (s.when (s.up && decide (x.engine < 32) && decide (x.lane < 16)) fun s => s.trackLimit x.engine x.lane)

/-- OPT_CALIBRATE (R173). -/
def execOptCalibrate (tag e : Nat) (s : State) : Host.Outcome State Fault Refusal :=
  .next (s.mailRun 8 tag [e] fun s => s.optCalibrate tag e)

/-- OPT_CALIBRATE_DONE (R172). -/
def execOptCalibrateDone (e : Nat) (badLanes : List Nat) (s : State) : Host.Outcome State Fault Refusal :=
  .next (s.when s.up fun s => s.optCalibrateDone e badLanes)

/-- CAUSEWAY_OPEN (R176). -/
def execCausewayOpen (tag g : Nat) (s : State) : Host.Outcome State Fault Refusal :=
  .next (s.mailRun 11 tag [g, 1] fun s => s.causewayOpen tag g)

/-- CAUSEWAY_CLOSE (R180). -/
def execCausewayClose (tag g : Nat) (s : State) : Host.Outcome State Fault Refusal :=
  .next (s.mailRun 11 tag [g, 0] fun s => s.causewayClose tag g)

/-- BYPASS_OPENED (R176). -/
def execBypassOpened (g : Nat) (s : State) : Host.Outcome State Fault Refusal :=
  .next (s.when (s.up && decide (g < 4)) fun s => s.bypassOpened g)

/-- BYPASS_CLOSED (R175). -/
def execBypassClosed (g : Nat) (s : State) : Host.Outcome State Fault Refusal :=
  .next (s.when (decide (g < 4)) fun s => s.bypassClosed g)

/-- ELEMENT_FAULT (R179). -/
def execElementFault (g : Nat) (s : State) : Host.Outcome State Fault Refusal :=
  .next (s.when (s.up && decide (g < 4)) fun s => s.elementFault g)

/-- RING_JOIN (R404). -/
def execRingJoin (tag g : Nat) (s : State) : Host.Outcome State Fault Refusal :=
  .next (s.mailRun 9 tag [g] fun s => s.ringJoin tag g)

/-- RING_LEAVE (R405). -/
def execRingLeave (tag g : Nat) (s : State) : Host.Outcome State Fault Refusal :=
  .next (s.mailRun 10 tag [g] fun s => s.ringLeave tag g)

end Sys2Proof.Machine
end

