-- ==== Sys2Proof/Machine/Handover.lean ====
section
/-! DEFINITION. A tile takes the PARSE and SCHED layers of the running image after a swap (R57, R58, Table 2.7). -/

namespace Sys2Proof.Machine

/-- The PARSE layer with one tile's part taken from a new one; the host port of a tile 8h goes with it. -/
def ParseLayer.take (l new : ParseLayer) (t : Nat) : ParseLayer :=
  { l with
    group := SMap.graft l.group new.group fun p => tileOf p == t
    groups := SMap.graft l.groups new.groups (unitKeys t 8)
    spares := SMap.graft l.spares new.spares (unitKeys t 1) }

/-- The farm of a tile under a new PARSE layer: fenced engines stay fenced, and the highest-numbered of the others are the spares (R198, R200). -/
def State.farmReset (s : State) (t : Nat) : State :=
  let healthy := (List.range 48).filter fun e => !bitOf (s.get F.PRS_FARM_FENCED t) e
  let spares := healthy.reverse.take (SMap.findD s.layers.parse.spares t 0)
  let active := healthy.length - spares.length
  let s := (s.set F.PRS_SPARE_MASK_SPARE t (spares.map (2 ^ ·)).sum).set F.PRS_FARM_SPARES_LEFT t spares.length
  (s.set F.PRS_FARM_ACTIVE t active).set F.PRS_FARM_UNDER_RATE t (b2n (spares.isEmpty && decide (active < s.enginesNeeded t)))

/-- Ports of a tile in service with a frame on the wire whose part of SCHED changes: they take it at the frame boundary (R56). -/
def State.latePorts (s : State) (l : Layers) (t : Nat) : List Nat :=
  if s.tileUp t then (s.portsOf t).filter fun p => !(s.live p).wire.isEmpty && decide (s.layers.sched.takePort l.sched p ≠ s.layers.sched) else []

/-- A tile takes the layers it has still to take: PARSE and its refill interval, and SCHED on every port but the late ones; with none late its bit in PENDING_TILES clears (R56, R57). -/
def State.takeLayers (s : State) (t : Nat) : State :=
  match s.handover.goal with
  | none => s
  | some l =>
    if bitOf (s.get F.PTL_SWAP_PENDING_TILES 0) t = false then s
    else
      let late := s.latePorts l t
      let newParse := s.handover.parse.contains t
      let sched := { s.layers.sched with refill := SMap.graft s.layers.sched.refill l.sched.refill (unitKeys t 1) }
      let layers := { s.layers with parse := s.layers.parse.take l.parse t, sched := sched }
      let s := { s with
        image := { s.image with layers := layers }
        handover := { s.handover with
          held := SMap.del s.handover.held t
          late := (s.handover.late.filter fun p => p / 16 != t) ++ late
          parse := s.handover.parse.filter (· != t) } }
      let s := (s.unsetAll [F.PRS_GROUP_DEPTH, F.PRS_GROUP_HDR_SET] (List.range' (8 * t) 8)).when newParse fun s => s.farmReset t
      let s := s.unsetAll [F.SCH_CTRL_REFILL] [t]
      let s := s.forAll ((s.portsOf t).filter fun p => !late.contains p) State.takeSched
      (s.when late.isEmpty fun s => s.clrBit F.PTL_SWAP_PENDING_TILES 0 t).recompute

end Sys2Proof.Machine
end

