-- ==== Sys2Proof/Machine/Swap.lean ====
section
/-! DEFINITION. How a layer swap proceeds once it has been accepted (R54, R56 to R61, Tables 2.7 and 2.9). -/

namespace Sys2Proof.Machine

/-! ## FAULT and PINS, at once (Table 2.7) -/

/-- The FAULT layer device-wide: fenced units, captures and sticky bits stay. -/
def State.swapFault (s : State) (new : Layers) : State :=
  let layers := { s.layers with fault := new.fault }
  let s := { s with image := { s.image with layers := layers } }
  (s.unsetAll [F.FLT_MODE_COLLECTOR, F.TOP_CAPACITY_FLOOR] [0]).recompute

/-- The PINS layer waits for the next Hummock tick (R56); the swap does not wait for it (DESIGN CHOICE, log 111). -/
def State.swapPins (s : State) (new : Layers) : State := { s with handover := { s.handover with pins := some new.pins } }

/-! ## PARSE and SCHED, tile by tile (R57) -/

/-- A tile in service whose pipeline runs. -/
def State.awake (s : State) (t : Nat) : Bool := s.tileUp t && s.sleepOf t == 0

/-- Tiles that are awake and have not yet taken the layer being applied. -/
def State.tilesToSwitch (s : State) : List Nat :=
  (List.range 32).filter fun t => bitOf (s.get F.PTL_SWAP_PENDING_TILES 0) t && s.awake t

/-- The layers that a tile takes from now on: `new` in one type, what tiles had still to take in the other. -/
def State.sendLayers (s : State) (l : Layers) : State :=
  let old := (s.layers.parse.vxlanPort, s.layers.parse.rtpRanges)
  let tiles := List.range 32
  let held := tiles.foldl (fun m t => if (SMap.find m t).isSome then m else SMap.put m t old) s.handover.held
  let parse := { s.layers.parse with vxlanPort := l.parse.vxlanPort, rtpRanges := l.parse.rtpRanges }
  let sched := { s.layers.sched with samplePeriod := l.sched.samplePeriod }
  let layers := { s.layers with parse := parse, sched := sched }
  let s := { s with
    image := { s.image with layers := layers }
    handover := { s.handover with goal := some l, held := held } }
  let s := (s.set F.PTL_SWAP_PENDING_TILES 0 (2 ^ 32 - 1)).unsetAll [F.SMP_CTRL_PERIOD_NS] (List.range 4)
  s.forAll (tiles.filter fun t => !s.tileUp t) State.takeLayers

/-- The PARSE layer is sent to all tiles. -/
def State.swapParse (s : State) (new : Layers) : State :=
  let base := s.handover.goal.getD s.layers
  { s with handover := { s.handover with parse := List.range 32 } }.sendLayers { base with parse := new.parse }

/-- The SCHED layer is sent to all tiles. -/
def State.swapSched (s : State) (new : Layers) : State :=
  let base := s.handover.goal.getD s.layers
  s.sendLayers { base with sched := new.sched }

/-! ## BUFFER and SEARCH, quadrant by quadrant (R59 to R61) -/

/-- The entries of two maps at the keys that satisfy a test are equal. -/
def SMap.sameOn {α : Type} [DecidableEq α] (a b : SMap α) (p : Nat → Bool) : Bool :=
  List.filter (fun e => p e.1) a == List.filter (fun e => p e.1) b

/-- Where a share lies in its stack and how long it is, in MiB (R453). -/
def BufferLayer.place (b : BufferLayer) (k : Nat) : Nat × Nat := (shareBase b.share (k / 5 * 5) k, SMap.findD b.share k 0)

/-- Quadrant q's part of the BUFFER layer is the same: pools, sheltered partitions, its DRAM shares; a share that others push to another place differs (log 107). -/
def BufferLayer.same (a b : BufferLayer) (q : Nat) : Bool :=
  SMap.sameOn a.poolSize b.poolSize (fun k => k / 4 == q) && SMap.sameOn a.poolCount b.poolCount (fun k => k / 4 == q) &&
    SMap.sameOn a.shelter b.shelter (fun k => k / 16 == q) && (List.range 2).all fun d => a.place (5 * d + q) == b.place (5 * d + q)

/-- Quadrant q's part of the SEARCH layer is the same (R59). -/
def SearchLayer.same (a b : SearchLayer) (q : Nat) : Bool :=
  a.lpmRows == b.lpmRows && a.stageOrder == b.stageOrder &&
    SMap.sameOn (List.filter (fun e => e.2.replicated) a.regions) (List.filter (fun e => e.2.replicated) b.regions) (fun _ => true) &&
    SMap.sameOn a.regions b.regions fun k => k / 16 == q

/-- The quadrants that a BUFFER or SEARCH layer changes. -/
def Layers.affected (old new : Layers) (type : Nat) : List Nat :=
  (List.range 4).filter fun q => if type = 6 then !old.buffer.same new.buffer q else !old.search.same new.search q

/-- Regions of quadrant q, LPM as 16, whose first row, row count or kind changes, with their rows under a layer (R61). -/
def SearchLayer.emptied (a b : SearchLayer) (q : Nat) : List (Nat × Nat) :=
  let shape (r : RegionCfg) := (r.kind, r.first, r.rows)
  let lpm := if a.lpmRows = b.lpmRows then [] else [(0, a.lpmRows)]
  lpm ++ (((a.regions.filter fun e => e.1 / 16 == q).filter fun e => (SMap.find b.regions e.1).map shape != some (shape e.2)).map fun e => (e.2.first, e.2.rows))

/-- Quadrant q takes its part of a new BUFFER layer; its pools and partitions start empty (R61). -/
def State.takeBuffer (s : State) (new : BufferLayer) (q : Nat) : State :=
  let s := s.forAll ((s.path.bufs.map (·.1)).filter fun h => handleQuad h == q) State.freeBuf
  let old := s.layers.buffer
  let buffer := { old with
    poolSize := SMap.graft old.poolSize new.poolSize fun k => k / 4 == q
    poolCount := SMap.graft old.poolCount new.poolCount fun k => k / 4 == q
    shelter := SMap.graft old.shelter new.shelter fun k => k / 16 == q
    share := SMap.graft old.share new.share fun k => k % 5 == q }
  let layers := { s.layers with buffer := buffer }
  let s := { s with image := { s.image with layers := layers } }
  let s := s.unsetAll [F.BUF_POOL_CFG_SIZE, F.BUF_POOL_CFG_COUNT, F.BUF_POOL_STAT_FREE, F.BUF_POOL_STAT_MIN_FREE] (List.range' (4 * q) 4)
  let s := s.unsetAll [F.BUF_SHELTER_STAT_FREE, F.BUF_SHELTER_STAT_COUNT] (List.range' (16 * q) 16)
  s.unsetAll [F.DRC_SHARE_FIRST_MIB, F.DRC_SHARE_COUNT_MIB] [q, 5 + q]

/-- The telemetry rings take their shares at once; a ring whose share changes starts anew. -/
def State.takeTelem (s : State) (new : BufferLayer) : State :=
  let old := s.layers.buffer
  s.forAll ((List.range 2).filter fun d => old.place (5 * d + 4) != new.place (5 * d + 4)) fun s d =>
    let s := (s.exportStop d).withStack d fun x => { x with ring := [] }
    let buffer := { s.layers.buffer with share := SMap.graft s.layers.buffer.share new.share fun k => k == 5 * d + 4 }
    let layers := { s.layers with buffer := buffer }
    let s := { s with image := { s.image with layers := layers } }
    (s.unsetAll [F.DRC_SHARE_FIRST_MIB, F.DRC_SHARE_COUNT_MIB] [5 * d + 4]).unsetAll [F.DRC_TELEM_STAT_WRITE_INDEX, F.DRC_TELEM_STAT_WRAPPED] [d]

/-- Quadrant q takes its part of a new SEARCH layer; changed regions start empty (R61). -/
def State.takeSearch (s : State) (new : SearchLayer) (q : Nat) : State :=
  let old := s.layers.search
  let at_ := s.searchOf q
  let mine := { old with lpmRows := at_.1 }
  let gone := mine.emptied new q ++ new.emptied mine q
  let out (k : Nat) : Bool := k / 131072 == q && gone.any fun r => decide (r.1 ≤ k % 131072) && decide (k % 131072 < r.1 + r.2)
  let regions := SMap.graft old.regions new.regions fun k => k / 16 == q
  let search := { old with regions := regions }
  let layers := { s.layers with search := search }
  let rows := SMap.drop s.tcam.rows out
  let lost := s.tcam.lost.filter fun k => !out k
  let missing := s.tcam.missing.filter fun k => !out k
  let s := { s with
    image := { s.image with layers := layers }
    handover := { s.handover with search := SMap.put s.handover.search q (new.lpmRows, new.stageOrder) }
    tcam := { s.tcam with rows := rows, lost := lost, missing := missing } }
  let s := s.unsetAll [F.TCM_REGION_USED, F.TCM_REGION_KIND, F.TCM_REGION_REPL, F.TCM_REGION_FIRST_ROW, F.TCM_REGION_ROWS, F.TCM_REGION_FREE] (List.range' (16 * q) 16)
  let s := s.unsetAll [F.TCM_STATUS_LPM_ROWS, F.TCM_STATUS_LPM_FREE] [q]
  s.forAll (List.range 17) fun s x => s.tcmFree q x

/-- Quadrant q takes its part of the layer being applied. -/
def State.takeQuad (s : State) (new : Layers) (type q : Nat) : State :=
  if type = 6 then s.takeBuffer new.buffer q else s.takeSearch new.search q

/-- The layer is in force in every quadrant. -/
def State.quadsDone (s : State) (new : Layers) (type : Nat) : State :=
  if type = 6 then s
  else
    let search := { s.layers.search with lpmRows := new.search.lpmRows, stageOrder := new.search.stageOrder }
    let layers := { s.layers with search := search }
    { s with image := { s.image with layers := layers }, handover := { s.handover with search := [] } }

/-- Frames of quadrant q are in rewrite, on the wire, or kept for a reinjection under way. -/
def State.quadBusy (s : State) (q : Nat) : Bool :=
  s.path.ports.any (fun e => quadOf e.1 == q && !(e.2.rewriting.isEmpty && e.2.wire.isEmpty)) ||
    s.path.delivering.any (fun e => queueQuad e.2.1 == q) || (s.path.queues.any fun e => queueQuad e.1 == q && !e.2.isEmpty) ||
    (s.framesIn ++ s.path.staging.flatMap (·.2)).any fun f => f.handle.any fun h => handleQuad h == q

/-! ## The run of a swap (R54, R56) -/

/-- The swap is complete: serial, source, DONE, the response (R54). -/
def State.swapFinish (s : State) (j : SwapJob) : State :=
  let s := { s with
    image := { s.image with serial := j.image.serial, source := j.image.source, dir := j.image.dir }
    swap := none }
  let s := ((s.set F.PTL_STATUS_ACTIVE 0 j.slot).set F.PTL_ACTIVE_SERIAL_SERIAL 0 j.image.serial).set F.PTL_SWAP_BUSY 0 0
  ((s.evC F.PTL_SWAP_DONE 0).set F.PTL_SWAP_LAYER 0 0).mailDone 3 j.tag 0

/-- A quadrant is quiesced; accepted commands on its own regions are aborted (Table 10.5). -/
def State.quiesce (s : State) (q : Nat) : State := ((s.set F.PTL_SWAP_QUIESCING 0 1).set F.PTL_SWAP_QUADRANT 0 q).tueAbort q

/-- Apply the layers of a list in order, as far as nothing has to be waited for. -/
def State.swapGo (s : State) (j : SwapJob) : List Nat → State
  | [] => s.swapFinish j
  | type :: rest =>
    let new := j.image.layers
    let s := { s with swap := some { j with todo := type :: rest, quadrants := [] } }.set F.PTL_SWAP_LAYER 0 type
    if type = 0xC then (s.swapFault new).swapGo j rest
    else if type = 0xB then (s.swapPins new).swapGo j rest
    else if type = 3 ∨ type = 7 then
      let s := if type = 3 then s.swapParse new else s.swapSched new
      if s.tilesToSwitch.isEmpty then s.swapGo j rest else s
    else
      let qs := s.layers.affected new type
      let s := s.when (type == 6) fun s => s.takeTelem new.buffer
      let s := s.when (type == 5) fun s =>
        { s with handover := { s.handover with search := (List.range 4).foldl (fun m q => SMap.put m q (s.searchOf q)) s.handover.search } }
      let s := s.forAll (qs.filter fun q => !s.quadUp q) fun s q => s.takeQuad new type q
      match qs.filter s.quadUp with
      | [] => (s.quadsDone new type).swapGo j rest
      | q :: more => { s with swap := some { j with todo := type :: rest, quadrants := q :: more } }.quiesce q

/-- The last awake tile may have switched, been fenced or fallen asleep (R57, R58). -/
def State.swapAdvance (s : State) : State :=
  match s.swap with
  | none => s
  | some j =>
    match j.todo with
    | [] => s
    | type :: rest => if (type = 3 ∨ type = 7) ∧ s.tilesToSwitch.isEmpty = true then s.swapGo j rest else s

/-- SWAP_TILE_SWITCH: an awake tile takes the layer (R57). -/
def State.swapTileSwitch (s : State) (t : Nat) : State :=
  if s.awake t = false ∨ bitOf (s.get F.PTL_SWAP_PENDING_TILES 0) t = false then s.swapAdvance else (s.takeLayers t).swapAdvance

/-- QUIESCE_DRAINED: the quadrant takes its part and returns; the next is quiesced (R59). DESIGN CHOICE, log 130: rows of a cut that the quadrant missed while it was quiesced come to it at its next reset (R85, R298), not as it returns from quiesce. -/
def State.quiesceDrained (s : State) : State :=
  match s.swap with
  | none => s
  | some j =>
    match j.todo, j.quadrants with
    | type :: rest, q :: more =>
      if s.quiesced q = false ∨ s.quadBusy q = true then s
      else
        let s := s.takeQuad j.image.layers type q
        match more with
        | [] => ((((s.set F.PTL_SWAP_QUIESCING 0 0).set F.PTL_SWAP_QUADRANT 0 0).quadsDone j.image.layers type)).swapGo j rest
        | n :: _ => { s with swap := some { j with quadrants := more } }.quiesce n
    | _, _ => s

/-- QUIESCE_TIMEOUT: what is still queued is discarded, sheltered partitions included (R60). -/
def State.quiesceTimeout (s : State) : State :=
  match s.swap with
  | none => s
  | some j =>
    match j.quadrants with
    | [] => s
    | q :: _ =>
      if s.quiesced q = false then s
      else s.forAll ((s.path.queues.map (·.1)).filter fun gq => queueQuad gq == q) fun s gq => s.dropQueue gq cFencedUnit fun _ => true

/-! ## The commands -/

/-- QUIESCE_DRAINED (R59, R61). -/
def execQuiesceDrained (s : State) : Host.Outcome State Fault Refusal := .next (s.when s.up State.quiesceDrained)

/-- QUIESCE_TIMEOUT (R60). -/
def execQuiesceTimeout (s : State) : Host.Outcome State Fault Refusal := .next (s.when s.up State.quiesceTimeout)

/-- FRAME_TX_DONE (R280); the last frame boundary that a swap waited for moves it on (R56, R57). -/
def execFrameTxDone (x : Departure) (s : State) : Host.Outcome State Fault Refusal :=
  .next (s.when (s.up && s.isPort x.unit) fun s => (s.frameTxDone x.unit x.fault).when (s.handover.late.contains x.unit) State.swapAdvance)

/-- SWAP_TILE_SWITCH (R57). -/
def execSwapTileSwitch (t : Nat) (s : State) : Host.Outcome State Fault Refusal := .next (s.when s.up fun s => s.swapTileSwitch t)

end Sys2Proof.Machine
end

