-- ==== Sys2Proof/Machine/Faults.lean ====
section
/-! DEFINITION. Sundew: reports, fences, their consequences, and the fault log (chapter 19). -/

namespace Sys2Proof.Machine

/-! ## Units (Tables 19.1 and 19.5) -/

/-- A unit that Table 19.5 lists, with an index inside its source. -/
def fenceable (v : Variant) (src idx : Nat) : Bool :=
  if src = 0x007 then decide (idx < 512)
  else if src = 0x10 ∨ src = 0x11 then idx == 0
  else if 0x80 ≤ src ∧ src < 0xC0 then src % 16 == 0 && decide (idx < 131072)
  else if 0x100 ≤ src ∧ src < 0x300 then
    let u := src % 16
    (u == 0 && idx == 0) || (u == 2 && optical v ((src - 0x100) / 16) && decide (idx < 16)) || (u == 3 && decide (idx < 16)) ||
      (u == 4 && decide (idx < 48)) || (decide (8 ≤ u ∧ u ≤ 13) && idx == 0)
  else false

/-- A tile is fenced: its engine is no longer calibrated (R171), its ports go down, frames for and from it are discarded as FENCED_UNIT, its Causeway group closes, and a swap no longer waits for it (R58, Table 19.5). -/
def State.tileFence (s : State) (t : Nat) : State :=
  let s := s.linksDown (s.portsOf t)
  let s := s.forAll (s.portsOf t) fun s p => s.dropPort p cFencedUnit fun _ _ => true
  let f := s.farm t
  let ports := s.portsOf t ++ if t % 8 = 0 then [512 + t / 8] else []
  let s := s.forAll (ports.flatMap s.staged ++ f.heads ++ f.entries.map (·.frame)) fun s x => s.loseFrame x cFencedUnit
  let s := s.forAll ports fun s p => s.withStaged p []
  let s := (((s.withFarm t { f with heads := [], entries := [] }).takeLayers t).swapAdvance).set F.OPT_STATUS_CAL_DONE t 0
  if t % 8 = 0 then s.groupClose (t / 8) 5 else s

/-- What begins with a fence: the unit leaves its work at once (R200, R229, R329, R420). -/
def State.fenceBegins (s : State) (src idx : Nat) : State :=
  let t := (src - 0x100) / 16
  let u := src % 16
  if src = 0x007 then s.bankFence idx
  else if src < 0x80 then (s.drcOffline (src - 0x10)).set F.DRC_STATUS_FENCED (src - 0x10) 1
  else if src < 0x100 then s
  else if u = 4 then s.engineLeaves t idx
  else if 8 ≤ u then s.abandonCluster t (u - 8)
  else s

/-- A fence of a unit starts, unless one is under way. -/
def State.fenceUnit (s : State) (src idx : Nat) : State :=
  if s.isFenced src idx ∨ s.sundew.fencing.contains (src, idx) then s else (s.fenceStart src idx).fenceBegins src idx

/-- What a completed fence leaves (Table 19.5); what its beginning has done is not done again. -/
def State.fenceEffect (s : State) (src idx : Nat) : State :=
  let t := (src - 0x100) / 16
  let u := src % 16
  if src = 0x007 then s
  else if src < 0x80 then if s.on F.DRC_STATUS_FENCED (src - 0x10) then s else s.fenceBegins src idx
  else if src < 0x100 then s.rowFence ((src - 0x80) / 16) idx
  else if u = 0 then s.tileFence t
  else if u = 2 then s.opticFence t idx
  else if u = 3 then s.elytraFence t idx
  else if 8 ≤ u then s.clusterFence t (u - 8)
  else s.fenceBegins src idx

/-- A unit counts as fenced from here on. -/
def State.fencedNow (s : State) (src idx : Nat) : State :=
  if s.isFenced src idx then s else { s with sundew := { s.sundew with fenced := (src, idx) :: s.sundew.fenced } }

/-- FENCE_COMPLETE: a fence that has begun takes full effect; a tile is out of service before its ports are flushed and a swap goes on without it, and the last of a quadrant's tiles aborts the accepted commands on the quadrant's own regions (R58, R496, R498, R501, Table 10.5). -/
def State.fenceComplete (s : State) (src idx : Nat) : State :=
  if s.sundew.fencing.contains (src, idx) = false then s
  else
    let s := s.fencedNow src idx
    let q := (src - 0x100) / 128
    let s := if 0x100 ≤ src ∧ src % 16 = 0 ∧ s.quadFenced q then s.tueAbort q else s
    ((s.fenceEffect src idx).fenceDone src idx).recompute

/-! ## Reports (R485, R489 to R491) -/

/-- The report is an event that the unit's chapter names as its fault (R485). -/
def isUnitFault (src kind access : Nat) : Bool :=
  let check := bitOf kind 2
  let uncorr := bitOf kind 1
  let u := src % 16
  if src = 0x007 then uncorr
  else if src = 0x10 ∨ src = 0x11 then uncorr || check
  else if src < 0x100 then decide (0x80 ≤ src) && u == 0 && check && access == 1
  else ((u == 2 || u == 3 || u == 4) && check) || (decide (8 ≤ u ∧ u ≤ 13) && (check || uncorr))

/-- The policy of a reported unit acts (R485); a DRC is fenced whatever it says (R466). -/
def State.policyActs (s : State) (src kind address : Nat) : State :=
  let idx := unitIndex src address
  if fenceable s.variant src idx = false then s
  else if src = 0x007 then s.rowPolicy idx (address % 2048)
  else if src = 0x10 ∨ src = 0x11 then s.fenceUnit src idx
  else if s.fencePolicy src idx then
    s.fenceUnit src idx
  else if 0x100 ≤ src ∧ 8 ≤ src % 16 ∧ bitOf kind 1 then (s.react src 0).clusterReload ((src - 0x100) / 16) (src % 16 - 8)
  else s

/-- FAULT_REPORT: capture, message or local interrupt, then the unit's policy (R485, R489 to R491). -/
def State.faultReport (s : State) (src kind address master access : Nat) : State :=
  if sourceValid src = false ∨ kind % 64 = 0 then s
  else
    let s := s.report src (kind % 64) master access address
    let s := if bitOf (s.get F.FLT_MODE_COLLECTOR 0) (sourceGroup src) then s else s.cause (75 + sourceGroup src)
    if isUnitFault src kind access then s.policyActs src kind address else s

/-- FLT_FENCE_CMD: software fences a unit, or the command is refused (R497). -/
def State.fenceCmd (s : State) (v : Nat) : State :=
  let src := bits v 0 10
  let idx := bits v 16 17
  if bits v 48 16 ≠ 0x5AA5 ∨ fenceable s.variant src idx = false ∨ s.isFenced src idx = true then s.evC F.FLT_STATUS_CMD_REFUSED 0
  else
    let addr := if src = 0x007 then idx * 2048 else if src < 0x80 ∨ (0x100 ≤ src ∧ (src % 16 = 0 ∨ 8 ≤ src % 16)) then 0 else idx
    (s.report src kAccess 0x00 7 addr).fenceUnit src idx

/-- The head message leaves the FIFO (FLT_MSG_POP). -/
def State.msgPop (s : State) (v : Nat) : State :=
  if bitOf v 0 then { s with sundew := { s.sundew with msgs := s.sundew.msgs.drop 1 } } else s

/-! ## NVM writes that the module makes (R88 to R92) -/

/-- First NVM byte and size of each region (Table 3.5). -/
def nvmRegion (r : Nat) : Nat × Nat :=
  if r = 0 then (0x0000000, 0x800000) else if r = 1 then (0x0800000, 0x800000) else if r = 2 then (0x1000000, 0x100000)
  else if r = 3 then (0x1100000, 0x100000) else if r = 4 then (0x1200000, 0x100000) else if r = 5 then (0x1300000, 0x200000)
  else if r = 6 then (0x1500000, 0x10000) else if r = 7 then (0x1600000, 0x400000) else (0, 0)

/-- One completed store to a region; at rated endurance WEAR is set (R92). -/
def State.nvmCounted (s : State) (r : Nat) : State :=
  let n := SMap.findD s.nvmCount r 0 + 1
  let s := { s with nvmCount := SMap.put s.nvmCount r n }
  if 1000000000 ≤ n then s.set F.NVM_STATUS_WEAR 0 1 else s

/-! ## The fault log (R500 to R502) -/

/-- Lines of the fault log. -/
def logLines : Nat := 32768

/-- The capture of a due record, with KIND and MERGE as its source still holds them. -/
def State.asHeld (s : State) (d : LogDue) : Capture :=
  match SMap.find s.sundew.caps d.source with
  | some c => if c.time = d.cap.time ∧ c.address = d.cap.address ∧ c.seconds = d.cap.seconds then c else d.cap
  | none => d.cap

/-- The bytes of a record (Table 19.6). -/
def State.logBytes (s : State) (seq first : Nat) (d : LogDue) : List Byte :=
  let c := s.asHeld d
  let head := beBytes 0x464C5452 4 ++ beBytes seq 4 ++ beBytes (c.message d.source) 16 ++ beBytes c.merge 2 ++ beBytes d.reason 1 ++ beBytes 0 1 ++
    beBytes first 4 ++ beBytes (s.get F.TOP_RESET_CAUSE_WARM_COUNT 0) 2 ++ beBytes (s.get F.TOP_CAPACITY_CAPACITY 0) 2 ++ beBytes c.seconds 6 ++
    beBytes 0 18
  head ++ beBytes (crc32c head).toNat 4

/-- The Hummock writes one record to the next line (R500). -/
def State.logWrite (s : State) (d : LogDue) : State :=
  let seq := (s.sundew.seq + 1) % 2 ^ 32
  let first := s.sundew.bootFirst.getD seq
  let bs := s.logBytes seq first d
  let s := { s with
    nvm := Mem.writeList s.nvm ((nvmRegion 5).1 + 64 * s.sundew.line) bs
    sundew := { s.sundew with seq := seq, bootFirst := some first, line := (s.sundew.line + 1) % logLines } }
  s.nvmCounted 5

/-- FAULT_LOG_WRITE: the oldest due record, while AUTO is 1 (R501). -/
def State.faultLogWrite (s : State) : State :=
  match s.sundew.log with
  | [] => s
  | d :: rest => if s.on F.FLT_LOG_CTRL_AUTO 0 then { s with sundew := { s.sundew with log := rest } }.logWrite d else s

/-- FAULT_LOG_FLUSH: a record for every VALID capture in source order (R502). -/
def State.logFlush (s : State) (tag : Nat) : State :=
  let s := s.forAll (s.sundew.caps.filter fun e => e.2.valid) fun s e => s.logWrite { reason := 2, source := e.1, cap := e.2 }
  (s.set F.NVM_STATUS_LAST_STATUS 0 0).mailDone 13 tag 0

/-- FAULT_LOG_ERASE: every line zero, SEQ restarts at 1 (R502). -/
def State.logErase (s : State) (tag : Nat) : State :=
  let s := { s with
    nvm := SMap.drop s.nvm fun a => decide (0x1300000 ≤ a ∧ a < 0x1500000)
    sundew := { s.sundew with seq := 0, line := 0 } }
  ((s.nvmCounted 5).set F.NVM_STATUS_LAST_STATUS 0 0).mailDone 13 tag 0

/-! ## The commands -/

/-- Sundew runs: the Hummock is powered and POR_N has been released (R100). -/
def State.hummockUp (s : State) : Bool := s.pins.humPower && !s.pins.porLow

/-- FAULT_REPORT (R491). -/
def execFaultReport (source kind address master accessType : Nat) (s : State) : Host.Outcome State Fault Refusal :=
  .next (s.when s.hummockUp fun s => s.faultReport source kind address master accessType)

/-- FENCE_COMPLETE (R496). -/
def execFenceComplete (source index : Nat) (s : State) : Host.Outcome State Fault Refusal :=
  .next (s.when s.hummockUp fun s => s.fenceComplete source index)

/-- FLT_FENCE_CMD (R497). -/
def execFltFenceCmd (v : Nat) (s : State) : Host.Outcome State Fault Refusal := .next (s.when s.up fun s => s.fenceCmd v)

/-- FAULT_LOG_WRITE (R501). -/
def execFaultLogWrite (s : State) : Host.Outcome State Fault Refusal :=
  .next (s.when (s.hummockUp && !s.on F.NVM_STATUS_FAIL 0) State.faultLogWrite)

/-- FAULT_LOG_FLUSH (R502). -/
def execFaultLogFlush (tag : Nat) (s : State) : Host.Outcome State Fault Refusal :=
  .next (s.mailRun 13 tag [0] fun s => s.logFlush tag)

/-- FAULT_LOG_ERASE (R502). -/
def execFaultLogErase (tag : Nat) (s : State) : Host.Outcome State Fault Refusal :=
  .next (s.mailRun 13 tag [1] fun s => s.logErase tag)

/-- FLT_MSG_POP (R489). -/
def execFltMsgPop (v : Nat) (s : State) : Host.Outcome State Fault Refusal := .next (s.when s.up fun s => s.msgPop v)

end Sys2Proof.Machine
end

