-- ==== Sys2Proof/Machine/Time.lean ====
section
/-! DEFINITION. The timebase, its steps and rate, the beacon, captures, PPS_OUT and time of day (chapter 12). -/

namespace Sys2Proof.Machine

/-- Functions that the PINS layer assigns (Table 22.6). -/
def pinPpsIn : Nat := 1
def pinPpsOut : Nat := 2
def pinTodIn : Nat := 3
def pinTodOut : Nat := 4
def pinEvt0 : Nat := 5
def pinEvt1 : Nat := 6

/-- A function has a pin, and the pin is not high-impedance (R56). -/
def State.hasPin (s : State) (fn : Nat) : Bool := s.layers.pins.any (fun e => e.2 = fn && !s.handover.floating.contains e.1)

/-- The clocked Hummock runs (R100). -/
def State.hummock (s : State) : Bool := s.pins.humPower && !s.pins.porLow

/-- The step argument in the master's unit. -/
def State.stepArg (s : State) : Nat :=
  (s.get F.TIM_ADJ_ARG_S_SECONDS 0 * 10 ^ 9 + s.get F.TIM_ADJ_ARG_NS_NS 0) * unitNs

/-- The master begins again after 2^48 seconds (R333). -/
def masterEnd : Nat := 2 ^ 48 * 10 ^ 9 * unitNs

/-- Move the master to a value, cut to its 48 bits of seconds; the local scale goes on evenly, so what the cut takes off counts as a step. -/
def Timebase.moveMaster (t : Timebase) (new : Nat) : Timebase :=
  { t with master := new % masterEnd, stepSum := t.stepSum - ((new / masterEnd * masterEnd : Nat) : Int) }

/-- A step takes effect at the beacon, in the master and on every scale but the local one (R335, R336); edges of PPS_OUT before it are past (R337). -/
def Timebase.applyStep (t : Timebase) : Timebase :=
  match t.pendingStep with
  | none => t
  | some (op, arg) =>
    let new := if op = 1 then t.master + arg else if op = 2 then t.master - arg else arg
    let u := { t with stepSum := t.stepSum + ((new : Int) - t.master), pendingStep := none }.moveMaster new
    { u with stepAt := u.master }

/-- The second of a timebase. -/
def Timebase.second (t : Timebase) : Nat := t.master / (10 ^ 9 * unitNs)

/-- A rate takes effect at the beacon (R334). -/
def Timebase.applyRate (t : Timebase) : Timebase :=
  match t.pendingRate with
  | none => t
  | some r => { t with rate := r, pendingRate := none }

/-- PPS_OUT settings as the registers hold them: period, phase, width, enable. -/
def State.ppsRegs (s : State) : Nat × Nat × Nat × Bool :=
  (s.get F.TIM_PPS_OUT_PERIOD_NS 0, s.get F.TIM_PPS_OUT_PHASE_NS 0, s.get F.TIM_PPS_WIDTH_WIDTH_NS 0, s.on F.TIM_PPS_OUT_EN 0)

/-- PPS_OUT settings in force: a changed one applies from the next whole second (R356). -/
def State.ppsNow (s : State) : Nat × Nat × Nat × Bool := if s.time.ppsFrom.isSome then s.time.ppsOld else s.ppsRegs

/-- The timebase has moved: a changed PPS_OUT setting applies once the second in which it was written is over; a step back makes it wait for the end of the second that it leads to (R356; DESIGN CHOICE, log 113). -/
def State.ppsTurn (s : State) (back : Bool) : State :=
  match s.time.ppsFrom with
  | none => s
  | some sec =>
    let now := s.time.second
    if now = sec then s else { s with time := { s.time with ppsFrom := if back then some now else none } }

/-- The last edge of a second at or before its nanosecond ns, by settings of PPS_OUT (R356). -/
def ppsEdge (c : Nat × Nat × Nat × Bool) (ns : Nat) : Option Nat :=
  if c.2.2.2 && decide (c.2.1 ≤ ns) && decide (0 < c.1) then some (c.2.1 + (ns - c.2.1) / c.1 * c.1) else none

/-- A tick from s to t ends a second: its last edge, if no tick of that second has reached it, is still due (R356). -/
def State.ppsWrap (s t : State) : State :=
  let ns := s.nowNs % 10 ^ 9
  let e := (ppsEdge s.ppsNow (10 ^ 9 - 1)).filter fun e => s.hasPin pinPpsOut && decide (ns < e)
  t.when (t.time.second != s.time.second) fun t =>
    { t with time := { t.time with ppsLate := e.map fun e => (s.nowNs - ns + e, s.ppsNow.2.2.1) } }

/-- The step that waits leads back (R335). -/
def Timebase.stepsBack (t : Timebase) : Bool :=
  match t.pendingStep with
  | none => false
  | some (op, arg) => op != 1 && (op == 2 || decide (arg < t.master))

/-- Ticks of the pattern of 625 at which a beacon leaves: intervals of 78, the last of 79 (R338). -/
def beaconTicks : List Nat := (List.range 8).map (78 * ·)

/-- A beacon is due (R338). -/
def State.beaconDue (s : State) : Bool := s.hummock && beaconTicks.contains s.time.phase

/-- A beacon: a waiting rate and a waiting step take effect in the master and every replica, and the replicas whose PLL path runs load the master's time (R334, R335, R338, R339). A replica between beacons equals the master, for its interpolator follows the same rate (log 114). -/
def State.timeBeacon (s : State) : State :=
  let stepped := s.time.pendingStep.isSome
  let left := s.time.unaligned.filter fun t => s.get F.PWQ_TILE_SLEEP_STATE t == 2 && (SMap.findD s.clocks.tiles t default).waking.isNone
  let back := s.time.stepsBack
  let s := { s with time := { s.time.applyStep.applyRate with unaligned := left } }.ppsTurn back
  let s := s.set F.TIM_ADJ_CTRL_BUSY 0 0
  if stepped then s.evTim F.TIM_EVENT_STEPPED else s

/-- TIM_RATE write: in force from the next beacon (R334). -/
def State.timRateWrite (s : State) (value : Nat) : State :=
  let s := s.set F.TIM_RATE_RATE_ADJ 0 (bits value 0 32)
  { s with time := { s.time with pendingRate := some (s.getInt F.TIM_RATE_RATE_ADJ 0) } }.set F.TIM_ADJ_CTRL_BUSY 0 1

/-- A step operation is refused while BUSY, with nanoseconds out of range, or back beyond the timebase (R335). -/
def State.stepRefused (s : State) (op : Nat) : Bool :=
  s.on F.TIM_ADJ_CTRL_BUSY 0 || decide (999999999 < s.get F.TIM_ADJ_ARG_NS_NS 0) ||
    (decide (op = 2) && decide (s.time.master < s.stepArg))

/-- TIM_ADJ_CTRL with an operation: 1 forward, 2 back, 3 set (R335). -/
def State.timStep (s : State) (op : Nat) : State :=
  if s.stepRefused op then s.evTim F.TIM_EVENT_ADJ_REFUSED
  else { s with time := { s.time with pendingStep := some (op, s.stepArg) } }.set F.TIM_ADJ_CTRL_BUSY 0 1

/-- TIM_NOW_LO as it reads now. -/
def State.nowLo (s : State) : Nat :=
  s.nowNs % 10 ^ 9 * 2 ^ 32 + s.time.master % unitNs / 5

/-- TIM_NOW_LO read: the seconds are latched into TIM_NOW_HI (R535). -/
def State.timNowRead (s : State) : State :=
  { s.set F.TIM_NOW_HI_SECONDS 0 (s.nowNs / 10 ^ 9) with out := { s.out with readData := some s.nowLo } }

/-- The capture registers' instance of a pin (TIM_CAP_LO). -/
def capIdx : CapPin → Nat
  | .ppsIn => 0 | .evt0 => 1 | .evt1 => 2

/-- The pin function of a capture pin. -/
def capFn : CapPin → Nat
  | .ppsIn => 1 | .evt0 => 5 | .evt1 => 6

/-- The edges that TIM_CAP_CTRL selects for a pin: 0 rising, 1 falling, 2 both. -/
def State.capEdge (s : State) : CapPin → Nat
  | .ppsIn => s.get F.TIM_CAP_CTRL_PPS_IN_EDGE 0
  | .evt0 => s.get F.TIM_CAP_CTRL_EVT0_EDGE 0
  | .evt1 => s.get F.TIM_CAP_CTRL_EVT1_EDGE 0

/-- A capture's event bit and its overrun bit. -/
def capEvents : CapPin → Field × Field
  | .ppsIn => (F.TIM_EVENT_PPS_IN, F.TIM_EVENT_PPS_IN_OVERRUN)
  | .evt0 => (F.TIM_EVENT_EVT0, F.TIM_EVENT_EVT0_OVERRUN)
  | .evt1 => (F.TIM_EVENT_EVT1, F.TIM_EVENT_EVT1_OVERRUN)

/-- PIN_CAPTURE: the selected edge captures the timebase to 0.25 ns; within 100 ns of the last edge the value is open (R355). -/
def State.pinCapture (s : State) (pin : CapPin) (rising : Bool) : State :=
  s.when (s.hummock && s.hasPin (capFn pin)) fun s =>
    let close := (SMap.find s.pins.lastEdge (capIdx pin)).any (fun e => decide (s.elapsed < e + nsUnits 100))
    let s := { s with pins := { s.pins with lastEdge := SMap.put s.pins.lastEdge (capIdx pin) s.elapsed } }
    let sel := s.capEdge pin
    if sel = 2 ∨ (sel = 0 ∧ rising) ∨ (sel = 1 ∧ rising = false) then
      let r := s.draw
      let q := if close then r.1 else s.time.master / (unitNs / 4)
      let s := if close then r.2 else s
      let s := s.set F.TIM_CAP_LO_FRAC (capIdx pin) (q % 4 * 2 ^ 30)
      let s := s.set F.TIM_CAP_LO_NS (capIdx pin) (q / 4 % 10 ^ 9)
      let s := s.set F.TIM_CAP_HI_SECONDS (capIdx pin) (q / 4 / 10 ^ 9)
      let s := if s.on (capEvents pin).1 0 then s.evTim (capEvents pin).2 else s
      s.evTim (capEvents pin).1
    else s

/-- A pulse of PPS_OUT at a time, unless a step has passed over it (R337). -/
def State.ppsPulse (s : State) (time width : Nat) : State :=
  if time * unitNs < s.time.stepAt then s
  else
    let s := { s with out := { s.out with pps := (time, width) :: s.out.pps } }
    if time % 10 ^ 9 = 0 then { s with time := { s.time with todDue := some time } } else s

/-- PPS_OUT_EDGE: the edge still due of the second before, else the last of this second at or before now (R356; log 9). -/
def State.ppsOutEdge (s : State) : State :=
  s.when (s.hummock && s.hasPin pinPpsOut) fun s =>
    match s.time.ppsLate with
    | some x => { s with time := { s.time with ppsLate := none } }.ppsPulse x.1 x.2
    | none =>
      let ns := s.nowNs % 10 ^ 9
      match ppsEdge s.ppsNow ns with
      | some e => s.ppsPulse (s.nowNs - ns + e) s.ppsNow.2.2.1
      | none => s

/-- The limits of R356. -/
def ppsOk (period phase width : Nat) : Bool :=
  decide (1000 ≤ period) && decide (period ≤ 1000000000) && decide (phase < period) && decide (8 ≤ width) &&
    decide (width + 8 ≤ period)

/-- A write of TIM_PPS_OUT or TIM_PPS_WIDTH: ignored outside the limits, else in force from the next whole second (R356). -/
def State.timPpsWrite (s : State) (widthReg : Bool) (value : Nat) : State :=
  let old := s.ppsNow
  let period := if widthReg then s.get F.TIM_PPS_OUT_PERIOD_NS 0 else bits value 0 30
  let phase := if widthReg then s.get F.TIM_PPS_OUT_PHASE_NS 0 else bits value 30 30
  let width := if widthReg then bits value 0 30 else s.get F.TIM_PPS_WIDTH_WIDTH_NS 0
  if ppsOk period phase width = false then s.evTim F.TIM_EVENT_ADJ_REFUSED
  else
    let s := if widthReg then s.set F.TIM_PPS_WIDTH_WIDTH_NS 0 width
      else ((s.set F.TIM_PPS_OUT_PERIOD_NS 0 period).set F.TIM_PPS_OUT_PHASE_NS 0 phase).set F.TIM_PPS_OUT_EN 0 (bits value 60 1)
    { s with time := { s.time with ppsFrom := some s.time.second, ppsOld := old } }

/-- CRC-16 of Table 12.3: polynomial 0x1021, initial value 0xFFFF, no reflection. -/
def crc16 (bs : List Byte) : Nat :=
  bs.foldl (fun c b =>
    (List.range 8).foldl (fun c _ => if c / 32768 % 2 = 1 then (c * 2 % 65536) ^^^ 0x1021 else c * 2 % 65536)
      (c ^^^ (b.toNat * 256))) 0xFFFF

/-- The time-of-day message of an edge (Table 12.3). -/
def todMessage (ns utc flags : Nat) : List Byte :=
  let m := [0xA7#8, 0x01#8] ++ beBytes (ns / 10 ^ 9) 6 ++ beBytes (ns % 10 ^ 9) 4 ++ beBytes utc 2 ++ beBytes flags 1 ++ [0#8]
  m ++ beBytes (crc16 m) 2

/-- TOD_OUT_SEND: the message of the last whole-second edge (R357). -/
def State.todOutSend (s : State) : State :=
  match s.time.todDue with
  | none => s
  | some e =>
    s.when (s.hummock && s.hasPin pinTodOut && s.on F.TIM_TOD_OUT_EN 0) fun s =>
      { s with
        time := { s.time with todDue := none }
        out := { s.out with tod := todMessage e (s.get F.TIM_TOD_OUT_UTC_OFFSET 0) (s.get F.TIM_TOD_OUT_FLAGS 0) :: s.out.tod } }

/-- A received message's start byte, version and CRC are right (R357). -/
def todOk (m : List Byte) : Bool :=
  decide (m.length = 18) && decide (be m 0 1 = 0xA7) && decide (be m 1 1 = 1) && decide (be m 16 2 = crc16 (m.take 16))

/-- TOD_IN_RX: a right message is stored, any other discarded with TOD_IN_ERR (R357). -/
def State.todInRx (s : State) (m : List Byte) : State :=
  s.when (s.hummock && s.hasPin pinTodIn) fun s =>
    if todOk m then
      let s := s.set F.TIM_TOD_IN_0_SECONDS 0 (be m 2 6)
      let s := s.set F.TIM_TOD_IN_1_NS 0 (be m 8 4)
      let s := s.set F.TIM_TOD_IN_1_UTC_OFFSET 0 (be m 12 2)
      let s := s.set F.TIM_TOD_IN_1_FLAGS 0 (be m 14 1)
      s.evTim F.TIM_EVENT_TOD_IN
    else s.evTim F.TIM_EVENT_TOD_IN_ERR

/-! Meanings -/

/-- TIM_RATE_WRITE (R334). -/
def execTimRateWrite (value : Nat) (s : State) : Host.Outcome State Fault Refusal :=
  .next (s.when s.up fun s => s.timRateWrite value)

/-- TIM_STEP_FORWARD (R335). -/
def execTimStepForward (s : State) : Host.Outcome State Fault Refusal := .next (s.when s.up fun s => s.timStep 1)

/-- TIM_STEP_BACK (R335). -/
def execTimStepBack (s : State) : Host.Outcome State Fault Refusal := .next (s.when s.up fun s => s.timStep 2)

/-- TIM_STEP_SET (R335). -/
def execTimStepSet (s : State) : Host.Outcome State Fault Refusal := .next (s.when s.up fun s => s.timStep 3)

/-- TIM_NOW_READ (R535); before READY the read returns all ones and latches nothing (R73). -/
def execTimNowRead (s : State) : Host.Outcome State Fault Refusal :=
  .next (if s.up then s.timNowRead else { s with out := { s.out with readData := some (2 ^ 64 - 1) } })

/-- PIN_CAPTURE (R355). -/
def execPinCapture (pin : CapPin) (rising : Bool) (s : State) : Host.Outcome State Fault Refusal := .next (s.pinCapture pin rising)

/-- PPS_OUT_EDGE (R356). -/
def execPpsOutEdge (s : State) : Host.Outcome State Fault Refusal := .next s.ppsOutEdge

/-- TIM_PPS_OUT_WRITE (R356). -/
def execTimPpsOutWrite (widthReg : Bool) (value : Nat) (s : State) : Host.Outcome State Fault Refusal :=
  .next (s.when s.up fun s => s.timPpsWrite widthReg value)

/-- TOD_OUT_SEND (R357). -/
def execTodOutSend (s : State) : Host.Outcome State Fault Refusal := .next s.todOutSend

/-- TOD_IN_RX (R357). -/
def execTodInRx (message : List Byte) (s : State) : Host.Outcome State Fault Refusal := .next (s.todInRx message)

end Sys2Proof.Machine
end

