-- ==== Sys2Proof/Machine/Tick.lean ====
section
/-! DEFINITION. What one Hummock tick of 12.8 ns does, and a beacon of the timebase (R100, R333, R338). -/

namespace Sys2Proof.Machine

/-- The master advances by 12.8 ns plus RATE_ADJ (R333), also on the internal oscillator, whose ±5 % make the length of a tick no rule's (R102; DESIGN CHOICE, log 1). Past its end it begins again at 0, later than every step (R333, R356). -/
def Timebase.advance (t : Timebase) : Timebase :=
  let u := { t with phase := (t.phase + 1) % 625 }.moveMaster ((t.master : Int) + 64 * 2 ^ 32 + 5 * t.rate).toNat
  if u.master < t.master then { u with stepAt := 0 } else u

/-- The PINS layer of a swap takes effect at a tick: a pin that changes function is high-impedance until the next, and a pending capture of a function that has lost its pin is abandoned (R56). -/
def State.pinsTick (s : State) : State :=
  match s.handover.pins with
  | none => { s with handover := { s.handover with floating := [] } }
  | some new =>
    let old := s.layers.pins
    let layers := { s.layers with pins := new }
    let has (fn : Nat) : Bool := new.any fun e => e.2 == fn
    let s := { s with
      image := { s.image with layers := layers }
      handover := { s.handover with pins := none, floating := (List.range 8).filter fun i => SMap.findD old i 0 != SMap.findD new i 0 } }
    { s with pins := { s.pins with lastEdge := s.pins.lastEdge.filter fun e => has ([1, 5, 6].getD e.1 0) } }

/-- What passes with one tick: time passes, an edge of PPS_OUT falls due, credits move, departure stamps reach the ring, and the time below the floor is counted (R100, R333, R353, R356, R369, R504; log 1). The clocked Hummock runs once POR_N has been released. -/
def State.tickTime (s : State) : State :=
  if s.pins.humPower && !s.pins.porLow then
    let s := ((s.ppsWrap { s with elapsed := s.elapsed + 64, time := s.time.advance }).ppsTurn false).pinsTick
    let s := (s.when s.up fun s => s.creditTick.dramTick.hitsLand).forAll (s.path.stamps.map (·.1)) State.stampsMove
    if s.on F.TOP_CAPACITY_BELOW_FLOOR 0 then { s with sundew := { s.sundew with below := s.sundew.below + 64 } } else s
  else { s with elapsed := s.elapsed + 64 }

/-- The gate lists whose start has come go into force (R371, R380). -/
def State.gatesDue (s : State) : State :=
  s.forAll (s.gates.map (·.1)) fun s k => s.gateStart (if k < 512 then s.portGate k else streamGateRegs (k - 512))

/-- TIME_BEACON, due at its ticks; before a step the cuts and the gate lists that the old time has reached are in force, and stay so (R337, R338, R371). -/
def State.beacon (s : State) : State :=
  s.when s.beaconDue fun s => (s.when s.time.pendingStep.isSome fun s => (s.cutsDue false).gatesDue).timeBeacon

/-- TIME_BEACON (R338). -/
def execTimeBeacon (s : State) : Host.Outcome State Fault Refusal := .next s.beacon

end Sys2Proof.Machine
end

