-- ==== Sys2Proof/Machine/RegAccess.lean ====
section
/-! DEFINITION. Access to the registers of BAR0: which instance an offset names, whether its unit can serve it, what a read shows, and what a write does to each register that changes no more than the module's settings (R12 to R15, R509, R530 to R535, R566). -/

namespace Sys2Proof.Machine

/-! ## Addresses (R530) -/

/-- The instance that an offset from the first one names. -/
def instanceAt : List (Nat × Nat) → Nat → Nat → Option Nat
  | [], rel, i => if rel = 0 then some i else none
  | (n, stride) :: ds, rel, i => if rel / stride < n then instanceAt ds (rel % stride) (i * n + rel / stride) else none

/-- The instance of a register that lies at an offset. -/
def Reg.instanceOf (r : Reg) (off : Nat) : Option Nat := if off < r.base then none else instanceAt r.dims (off - r.base) 0

/-- The offset of an instance. -/
def offsetOf : List (Nat × Nat) → Nat → Nat
  | [], _ => 0
  | (_, stride) :: ds, i =>
    let inner := (ds.map (·.1)).foldl (· * ·) 1
    i / inner * stride + offsetOf ds (i % inner)

/-- The offset of an instance of a register. -/
def Reg.offset (r : Reg) (i : Nat) : Nat := r.base + offsetOf r.dims i

/-- The register and instance at an 8-byte-aligned offset, or none where the offset is reserved (R532). -/
def registerAt (off : Nat) : Option (Reg × Nat) := allRegs.findSome? fun r => (r.instanceOf off).map fun i => (r, i)

/-! ## Units that cannot serve an access (R509, R532, R533, Table 21.3) -/

/-- What an access meets. -/
inductive Reach where
  /-- Nothing answers. -/
  | silent
  /-- A read returns all ones; a write is dropped. -/
  | away
  /-- A read returns zero; a write is ignored. -/
  | absent
  | served
  deriving DecidableEq, Repr

/-- The quadrant whose region, tiles' regions or CLK_QCTRL instance holds an offset. -/
def offsetQuad (off : Nat) : Option Nat :=
  if 0x400000 ≤ off ∧ off < 0x800000 then some ((off - 0x400000) / 0x100000)
  else if 0x800000 ≤ off then some ((off - 0x800000) / 0x200000)
  else if 0x20000 ≤ off ∧ off < 0x20020 then some ((off - 0x20000) / 8)
  else none

/-- Offsets of quadrant q's region and its tiles' regions (R560). -/
def quadRegion (q off : Nat) : Bool := decide (0x400000 ≤ off) && offsetQuad off == some q

/-- Offsets of tile t's region (R560). -/
def tileRegion (t off : Nat) : Bool := decide (0x800000 + 0x40000 * t ≤ off) && decide (off < 0x840000 + 0x40000 * t)

/-- Offsets of DRC d's window (R560). -/
def drcRegion (d off : Nat) : Bool := decide (0x100000 + 0x10000 * d ≤ off) && decide (off < 0x110000 + 0x10000 * d)

/-- Offsets of a unit's own registers (R560). -/
def ResetUnit.region : ResetUnit → Nat → Bool
  | .quadrant q, off => quadRegion q off
  | .tile t, off => tileRegion t off
  | .drc d, off => drcRegion d off

/-- An offset lies in the registers of a unit that is in reset (Table 21.3). -/
def State.resetAt (s : State) (off : Nat) : Bool := s.boot.inReset.any fun x => x.1.region off

/-- Whether the unit at an offset is there: one in reset and a quadrant without its rail are away, an engine or a group that the variant lacks is absent (Table 21.3). -/
def State.unitReach (s : State) (off : Nat) : Reach :=
  if s.resetAt off then .away
  else match offsetQuad off with
  | some q =>
    if bitOf (s.get F.TOP_BOOT_RAIL_MISSING 0) q then .away
    else if 0x800000 ≤ off ∧ (off - 0x800000) % 0x40000 / 0x1000 = 8 ∧ optical s.variant ((off - 0x800000) / 0x40000) = false then .absent
    else .served
  | none => if off = 0xE0018 ∧ groupPresent s.variant 3 = false then .absent else .served

/-- How an access to an offset fares (Table 21.3); VDD_Q0 feeds the endpoint, so that without it nothing answers (R79). -/
def State.reach (s : State) (off : Nat) : Reach :=
  if s.pins.humPower = false ∨ s.pins.porLow ∨ s.get F.HUM_DEVICE_STATE_STATE 0 = 3 ∨ bitOf (s.get F.TOP_BOOT_RAIL_MISSING 0) 0 then .silent
  else if s.on F.TOP_BOOT_READY 0 = false ∨ s.pins.held then if [0, 1, 3, 4, 5].contains (off / 0x10000) then .served else .away
  else s.unitReach off

/-- The port whose instances exist only on configured ports (R163, R204, R332, R358, chapter 13). -/
def regPort (r : Reg) (i : Nat) : Option Nat :=
  let b := r.base
  if b = R.PRT_CNT.base then some (i / 64)
  else if b = R.PRT_SEC_CNT.base then some (i / 13)
  else if [R.PRT_CFG.base, R.PRT_STATUS.base, R.PRT_EVENT.base, R.PRT_LINK_HOLD.base, R.PRT_FC_TX.base, R.PRT_PFC_MAP.base,
      R.PRT_MAC_SA.base, R.PRT_SEC_CFG.base, R.PRT_SEC_SCI.base, R.PRT_SEC_PEER_SCI.base, R.PRT_SEC_LIMIT.base, R.PRT_SEC_EVENT.base,
      R.TIM_PORT_PTP.base, R.BUF_PORT_BUDGET.base, R.SCH_PORT_SHAPER.base, R.SCH_PORT_STATUS.base, R.RWE_PORT_DEFAULT.base,
      R.GAT_PORT_CTRL.base, R.GAT_PORT_CYCLE.base, R.GAT_PORT_BASE_NS.base, R.GAT_PORT_BASE_S.base, R.GAT_PORT_STATUS.base,
      R.GAT_PORT_CHANGE_NS.base, R.GAT_PORT_CHANGE_S.base, R.GAT_PORT_EVENT.base].contains b then some i
  else if b = R.PRS_PORT_CNT.base then some (i / 2)
  else if b = R.BUF_PORT_DROP.base then some (i / 4)
  else if [R.SCH_SHAPER_CIR.base, R.SCH_CBS.base, R.SCH_QMAP.base, R.SCH_CLASS_STATUS.base].contains b then some (i / 8)
  else if b = R.SCH_QUEUE_CFG.base ∨ b = R.BUF_QUEUE_CFG.base then some (i / 48)
  else none

/-- The tile and local index of a classification register; index 16 is the host port of a tile 8h (R567). -/
def classifyPort (r : Reg) (i : Nat) : Option (Nat × Nat) :=
  if r.base = R.SCH_PORT_CFG.base ∨ r.base = R.SCH_PCP_MAP.base then some (i / 17, i % 17)
  else if r.base = R.SCH_DSCP_MAP.base then some (i / 4 / 17, i / 4 % 17)
  else none

/-- The instance is one that reads and writes (R163, R204, R332, R358, R567). -/
def State.instanceUsed (s : State) (r : Reg) (i : Nat) : Bool :=
  (regPort r i).all s.isPort &&
    (classifyPort r i).all fun x => if x.2 = 16 then x.1 % 8 == 0 else s.isPort (16 * x.1 + x.2)

/-! ## What a read shows -/

/-- A timestamp as Table 12.2 lays it out, from quarter nanoseconds. -/
def stampWord (q : Nat) : Nat := q / (4 * 10 ^ 9) * 2 ^ 32 + q % (4 * 10 ^ 9)

/-- The quarter nanoseconds that a timestamp of Table 12.2 stands for. -/
def stampOf (w : Nat) : Nat := w / 2 ^ 32 * (4 * 10 ^ 9) + w % 2 ^ 32

/-- The central registers whose fields follow the state. -/
def State.showCentral (s : State) (b i : Nat) : State :=
  let cap := SMap.findD s.sundew.caps (s.get F.FLT_CAP_SEL_SOURCE 0) default
  let sel := s.get F.FLT_CAP_SEL_SOURCE 0
  let word (p : Nat → Bool) : Nat := (List.range 64).foldl (fun n k => if p (64 * i + k) then n + 2 ^ k else n) 0
  if b = R.TOP_CAPACITY.base then s.set F.TOP_CAPACITY_TCAM_FENCED 0 (min 65535 s.tcam.fenced.length)
  else if b = R.NVM_STATUS.base then s.set F.NVM_STATUS_BUSY 0 (b2n s.nvmJob.isSome)
  else if b = R.FWM_STATUS.base then
    (s.set F.FWM_STATUS_RESP_COUNT 0 s.host.resp.length).set F.FWM_STATUS_CADDIS_ASLEEP 0 (b2n s.clocks.caddisAsleep)
  else if b = R.FWM_RESP_0.base then
    match s.host.resp with
    | [] => s
    | m :: _ =>
      ((((s.set F.FWM_RESP_0_OPCODE 0 m.opcode).set F.FWM_RESP_0_STATUS 0 m.status).set F.FWM_RESP_0_RESULT 0 m.result).set
        F.FWM_RESP_0_TAG 0 m.tag).set F.FWM_RESP_0_VALID 0 1
  else if b = R.FWM_RESP_1.base then s.set F.FWM_RESP_1_DATA 0 ((s.host.resp.head?).elim 0 (·.data))
  else if b = R.FLT_STATUS.base then s.set F.FLT_STATUS_COUNT 0 s.sundew.msgs.length
  else if b = R.FLT_MSG_HI.base then s.set F.FLT_MSG_HI_MSG 0 (s.sundew.msgs.headD 0 / 2 ^ 64)
  else if b = R.FLT_MSG_LO.base then s.set F.FLT_MSG_LO_MSG 0 (s.sundew.msgs.headD 0)
  else if b = R.FLT_CAP_0.base then s.set F.FLT_CAP_0_MSG 0 (if sourceValid sel ∧ (SMap.find s.sundew.caps sel).isSome then cap.message sel / 2 ^ 64 else 0)
  else if b = R.FLT_CAP_1.base then s.set F.FLT_CAP_1_MSG 0 (if sourceValid sel ∧ (SMap.find s.sundew.caps sel).isSome then cap.message sel else 0)
  else if b = R.FLT_CAP_2.base then
    ((s.set F.FLT_CAP_2_VALID 0 (b2n cap.valid)).set F.FLT_CAP_2_IN_REACTION 0 (b2n (s.sundew.reacting.any fun r => r.1 == sel))).set
      F.FLT_CAP_2_MERGE 0 cap.merge
  else if b = R.FLT_CAP_VALID.base then s.set F.FLT_CAP_VALID_VALID i (word fun src => (SMap.find s.sundew.caps src).any (·.valid))
  else if b = R.FLT_FENCED.base then s.set F.FLT_FENCED_FENCED i (word fun src => s.sundew.fenced.any fun r => r.1 == src)
  else if b = R.FLT_LOG_STAT.base then s.set F.FLT_LOG_STAT_QUEUED 0 s.sundew.log.length
  else if b = R.DRC_DIAG_DATA.base then
    let w := (SMap.findD (s.stack i).writes (s.get F.DRC_DIAG_SEL_PC i) [])[s.get F.DRC_DIAG_SEL_ENTRY i]?
    match w, s.get F.DRC_STATUS_STATE i == 5 with
    | some w, true => (s.set F.DRC_DIAG_DATA_ADDR i (w.addr / 64)).set F.DRC_DIAG_DATA_VALID i 1
    | _, _ => s
  else if b = R.FLT_UNAVAIL.base then s.set F.FLT_UNAVAIL_MS 0 (s.sundew.below / 5000000)
  else if b = R.TIM_NOW_LO.base then (s.set F.TIM_NOW_LO_FRAC 0 s.nowLo).set F.TIM_NOW_LO_NS 0 (s.nowLo / 2 ^ 32)
  else if b = R.TUE_EPOCH.base then s.set F.TUE_EPOCH_OLDEST_LIVE 0 (min (2 ^ 32 - 1) ((s.tue.epochs.head?).elim 0 fun e => s.liveFrames e.epoch))
  else if b = R.EXM_TABLE_STAT.base then
    let n := s.emEntries i
    ((s.set F.EXM_TABLE_STAT_ENTRIES i n.1).set F.EXM_TABLE_STAT_STATIC i n.2).set F.EXM_TABLE_STAT_STAMP_CLOCK i (s.exmTable i).clock
  else if b = R.RNG_GROUP_STATUS.base then
    (s.set F.RNG_GROUP_STATUS_EAST_UP i (s.get F.PRT_STATUS_LINK_UP (128 * i))).set F.RNG_GROUP_STATUS_WEST_UP i (s.get F.PRT_STATUS_LINK_UP (128 * i + 4))
  else if b = R.ELY_SLOT_STATUS.base then
    let h := (s.slot i).active
    let p := s.slotPort i
    let s := ((s.set F.ELY_SLOT_STATUS_ACT_VALID i (b2n h.valid)).set F.ELY_SLOT_STATUS_ACT_AN i h.an).set F.ELY_SLOT_STATUS_ACT_SUITE i h.suite
    let s := (s.set F.ELY_SLOT_STATUS_STG_READY i (s.get F.ELY_SLOT_STG_CFG_READY i)).set F.ELY_SLOT_STATUS_STG_AN i (s.get F.ELY_SLOT_STG_CFG_AN i)
    (s.set F.ELY_SLOT_STATUS_IN_USE i (b2n p.isSome)).set F.ELY_SLOT_STATUS_DIR i (b2n (p.any (·.2)))
  else if b = R.ELY_SLOT_ACT_PN.base then s.set F.ELY_SLOT_ACT_PN_PN i (s.actPn i)
  else s

/-- Depth of a queue in 256-byte units, rounded up (R307). -/
def State.depthUnits (s : State) (gq : Nat) : Nat := ceilDiv (s.depth gq) 256

/-- The deep queues of a quadrant that count (R328). -/
def State.flaggedIn (s : State) (q : Nat) : Nat := (s.deepQueues.filter fun gq => queueQuad gq == q).length

/-- The registers of quadrants and tiles whose fields follow the state. -/
def State.showLocal (s : State) (b i : Nat) : State :=
  if b = R.BUF_POOL_STAT.base then s.set F.BUF_POOL_STAT_FREE i (s.regionFree (i / 4) 0 (i % 4))
  else if b = R.BUF_SHELTER_STAT.base then s.set F.BUF_SHELTER_STAT_FREE i (s.regionFree (i / 16) (1 + i / 4 % 4) (i % 4))
  else if b = R.BUF_DEEP_STAT.base then
    (s.set F.BUF_DEEP_STAT_FLAGGED i (s.flaggedIn i)).set F.BUF_DEEP_STAT_DRAM_BUFS i
      ((s.path.bufs.filter fun e => handleDram e.1 && handleQuad e.1 == i).length)
  else if b = R.BUF_HOST_QUEUE_CFG.base then s.set F.BUF_HOST_QUEUE_CFG_DEPTH i (s.depthUnits (24576 + i))
  else if b = R.BUF_QUEUE_CFG.base then (s.set F.BUF_QUEUE_CFG_DEPTH i (s.depthUnits i)).set F.BUF_QUEUE_CFG_IN_DRAM i (b2n (s.inDram i))
  else if b = R.TCM_STATUS.base then s.tcmStatus i
  else if b = R.PRT_STATUS.base then s.showPort i
  else if b = R.SCH_PORT_STATUS.base then
    let s := (s.set F.SCH_PORT_STATUS_ELIGIBLE i (s.eligible i)).set F.SCH_PORT_STATUS_SHAPER_BLOCKED i (b2n !(s.shaperOpen i 8))
    s.gateMirror (s.portGate i)
  else if b = R.SCH_CBS.base then
    let c := s.credit (i / 8) (i % 8) / (8 * 10 ^ 7)
    s.set F.SCH_CBS_CREDIT i (c % (2 ^ 31 : Int)).toNat
  else if b = R.SCH_CLASS_STATUS.base then
    ((s.set F.SCH_CLASS_STATUS_SHAPER_BLOCKED i (b2n !(s.shaperOpen (i / 8) (i % 8)))).set F.SCH_CLASS_STATUS_CBS_BLOCKED i
      (b2n (decide (s.credit (i / 8) (i % 8) < 0)))).set F.SCH_CLASS_STATUS_PAUSED i (b2n (bitOf (s.get F.PRT_STATUS_RX_PAUSED (i / 8)) (i % 8)))
  else if b = R.GAT_PORT_STATUS.base then s.gateMirror (s.portGate i)
  else if b = R.GAT_SG_STATUS.base then s.gateMirror (streamGateRegs i)
  else if b = R.RWE_STATUS.base then s.set F.RWE_STATUS_UNDER_RATE i (b2n (s.underRateNow i))
  else if b = R.TSF_STAT.base then
    (((s.set F.TSF_STAT_RECORDS i (s.tsfRecords i).length).set F.TSF_STAT_RESERVED i (s.tsfReserved i)).set F.TSF_STAT_TELEM i
      (s.tsfStamps i).length).set F.TSF_STAT_PACING i (b2n (s.pacing i))
  else if b = R.TSF_HEAD_0.base then s.set F.TSF_HEAD_0_TS_LOW i (((s.tsfRecords i).head?).elim 0 fun r => stampWord r.txPtp)
  else if b = R.TSF_HEAD_1.base then
    match (s.tsfRecords i).head? with
    | none => s
    | some r =>
      let s := ((s.set F.TSF_HEAD_1_TS_HIGH i (stampWord r.txPtp / 2 ^ 64)).set F.TSF_HEAD_1_SEQUENCE_ID i r.seqId).set F.TSF_HEAD_1_MSG_TYPE i r.msgType
      ((s.set F.TSF_HEAD_1_DOMAIN i r.domain).set F.TSF_HEAD_1_PORT i r.port).set F.TSF_HEAD_1_VALID i 1
  else s

/-- The 64 bits of an instance: every field at its place, WO and reserved bits zero (R13, R535). -/
def State.word (s : State) (r : Reg) (i : Nat) : Nat :=
  let t := (s.showCentral r.base i).showLocal r.base i
  (r.fields.filter fun f => f.access != .wo).foldl (fun n f => n + t.get f i * 2 ^ f.lsb) 0

/-- What a full-width read of an aligned offset returns, or none where nothing answers. -/
def State.readValue (s : State) (off : Nat) : Option Nat :=
  match s.reach off with
  | .silent => none
  | .away => some (2 ^ 64 - 1)
  | .absent => some 0
  | .served =>
    match registerAt off with
    | some (r, i) => some (if s.instanceUsed r i then s.word r i else 0)
    | none => some 0

/-! ## Reads (R15, R535, R566) -/

/-- The current value of a quantity whose extreme a field holds (R566). -/
def State.restartOf (s : State) (f : Field) (i : Nat) : Option Nat :=
  if f.id = F.BUF_POOL_STAT_MIN_FREE.id then some (s.regionFree (i / 4) 0 (i % 4))
  else if f.id = F.HUM_TEMP_TJ_MAX.id then some (s.get F.HUM_TEMP_TJ i)
  else if f.id = F.OPT_LASER_PWR_PWR_MIN.id then some (s.get F.OPT_LASER_PWR_PWR i)
  else if f.id = F.SMP_MAX_DEPTH.id then some (s.get F.SMP_LAST_DEPTH i)
  else if f.id = F.SMP_MAX_FRAMES.id then some (s.get F.SMP_LAST_FRAMES i)
  else if f.id = F.SMP_MAX_HOL_DELAY.id then some (s.get F.SMP_LAST_HOL_DELAY i)
  else none

/-- A read clears an RC field, or restarts it from its quantity (R15, R566). -/
def State.readClear (s : State) (r : Reg) (i : Nat) : State :=
  s.forAll (r.fields.filter fun f => f.access == .rc) fun s f => s.set f i ((s.restartOf f i).getD 0)

/-- The value that an access returns. -/
def State.returns (s : State) (v : Option Nat) : State := { s with out := { s.out with readData := v } }

/-- A read of BAR0: full width and aligned with its side effects, else the bytes alone (R509, R535). -/
def State.regRead (s : State) (off bytes : Nat) : State :=
  if bytes = 8 ∧ off % 8 = 0 then
    let t := s.returns (s.readValue off)
    if s.reach off ≠ .served then t
    else
      match registerAt off with
      | some (r, i) =>
        if s.instanceUsed r i = false then t
        else if r.base = R.TIM_NOW_LO.base then s.timNowRead
        else t.readClear r i
      | none => t
  else
    let byte (a : Nat) : Option Nat := (s.readValue (a / 8 * 8)).map fun v => v / 2 ^ (8 * (a % 8)) % 256
    s.returns ((List.range bytes).foldl (fun n k => n.bind fun n => (byte (off + k)).map fun b => n + b * 2 ^ (8 * k)) (some 0))

/-! ## Writes (R12 to R14, R535) -/

/-- One field as a write of the whole register changes it (Table 0.5). -/
def State.fieldWrite (s : State) (f : Field) (i v : Nat) : State :=
  let x := bits v f.lsb f.width
  match f.access with
  | .rw | .rwp => s.set f i x
  | .w1c => if s.get f i &&& x = 0 then s else s.set f i (andNotN (s.get f i) x)
  | .w1s => s.set f i (orN (s.get f i) x)
  | .ro | .rc | .wo => s

/-- A write acts on every field by its access code. -/
def State.plainWrite (s : State) (r : Reg) (i v : Nat) : State := s.forAll r.fields fun s f => s.fieldWrite f i v

/-- The same, but a field whose new value a test refuses keeps its old one. -/
def State.pickyWrite (s : State) (r : Reg) (i v : Nat) (bad : Field → Nat → Bool) : State :=
  s.forAll (r.fields.filter fun f => !bad f (bits v f.lsb f.width)) fun s f => s.fieldWrite f i v

/-- A field of a written value held between two bounds. -/
def clampBits (v : Nat) (f : Field) (lo hi : Nat) : Nat := putBits v f.lsb f.width (max lo (min hi (bits v f.lsb f.width)))

/-- Ring bases are 4 KiB aligned; the low 12 bits are ignored. -/
def page (v : Nat) : Nat := v / 4096 * 4096

/-- Fields for which the value 0b11 is ignored. -/
def threeIgnored (f : Field) (x : Nat) : Bool :=
  x == 3 && [F.TIM_CAP_CTRL_PPS_IN_EDGE.id, F.TIM_CAP_CTRL_EVT0_EDGE.id, F.TIM_CAP_CTRL_EVT1_EDGE.id, F.TIM_PORT_PTP_TC_MODE.id,
    F.SCH_PORT_CFG_TRUST.id].contains f.id

/-- Rates and bursts in range (R367). -/
def shaperOk (v : Nat) : Bool := decide (1 ≤ bits v 1 21) && decide (bits v 1 21 ≤ 1600000) && decide (64 ≤ bits v 22 24)

/-- A shaper register: ignored as a whole out of range, else taken at the refill after next (R368). -/
def State.shaperWrite (s : State) (r : Reg) (i p k v : Nat) : State :=
  if shaperOk v then
    let due := s.shaperDue p k
    (s.plainWrite r i v).withShaper p k fun x => { x with wrote := some s.elapsed, due := due }
  else s.evT F.SCH_EVENT_CFG_REFUSED (p / 16)

/-- An admin register of a gate unit: ignored while a change is pending (R374). -/
def State.gateAdmin (s : State) (g : GateRegs) (f : State → State) : State :=
  let s := s.gateStart g
  if (s.gate g.key).pending.isSome then s.evGate g g.locked else f s

/-- GAT_PORT_CTRL and GAT_SG_CTRL as written: the admin fields where they change, then CANCEL, then CHANGE (R373, R374). -/
def State.gateCtrlWrite (s : State) (r : Reg) (g : GateRegs) (v : Nat) : State :=
  let same := bits v 0 1 == s.get g.adminEn g.i && bits v 8 9 == s.get g.adminLen g.i
  let s := if same then s else s.gateAdmin g fun s => s.plainWrite r g.i v
  let s := if bitOf v 2 then s.gateCancel g else s
  if bitOf v 1 then s.gateChange g else s

/-- The port that owns an entry of the gate lists of a tile. -/
def State.listPort (s : State) (j : Nat) : Option Nat :=
  (s.portsOf (j / 2048)).find? fun p =>
    let b := s.get F.GAT_PORT_STATUS_LIST_BASE p
    decide (b ≤ j % 2048) && decide (j % 2048 < b + SMap.findD s.layers.time.gateListLen p 0)

/-- PRT_CFG as written: FC_MODE acts on pauses, LOOPBACK and ADMIN_UP on the link (R135, R136, R153). -/
def State.prtCfgWrite (s : State) (p v : Nat) : State :=
  let v := if 1000 < bits v 7 10 then putBits v 7 10 1000 else v
  let own := [F.PRT_CFG_ADMIN_UP.id, F.PRT_CFG_LOOPBACK.id, F.PRT_CFG_FC_MODE.id]
  let s := (s.pickyWrite R.PRT_CFG p v fun f _ => own.contains f.id).fcModeWrite p (bits v 3 2)
  (s.adminUp p (bitOf v 0)).loopback p (bits v 1 2)

/-- RNG_PROBE as written: a span not yet measured takes the new default (R403). -/
def State.probeWrite (s : State) (g v : Nat) : State :=
  let s := s.plainWrite R.RNG_PROBE g (clampBits v F.RNG_PROBE_PERIOD_MS 1 10000)
  let d := s.get F.RNG_PROBE_LINK_DEFAULT_NS g
  s.forAll ((List.range 2).filter fun k => !s.on F.RNG_SPAN_VALID (2 * g + k)) fun s k =>
    let s := s.set F.RNG_SPAN_DELAY_NS (2 * g + k) d
    if (SMap.find s.layers.ring g).any (·.member) then s.set F.BUF_PORT_BUDGET_LINK_NS (128 * g + 4 * k) d else s

/-- FLT_CAP_2 as written: VALID of the selected source (R491); a reserved source ignores writes. -/
def State.capWrite (s : State) (v : Nat) : State :=
  let src := s.get F.FLT_CAP_SEL_SOURCE 0
  match SMap.find s.sundew.caps src with
  | some c =>
    if bitOf v 0 && sourceValid src then { s with sundew := { s.sundew with caps := SMap.put s.sundew.caps src { c with valid := false } } } else s
  | none => s

/-- The bits of a mask or pin register whose sources exist; reserved sources read 0 (Table 20.5). -/
def sourceBits (i v : Nat) : Nat := if i = 0 then v else v % 2 ^ 30

/-- Host ring control as written: the sizes only while the ring is out of service (chapter 20). -/
def State.hostCtrlWrite (s : State) (i v : Nat) : State :=
  let on := s.on F.HST_RING_CTRL_ENABLE i
  s.pickyWrite R.HST_RING_CTRL i v fun f x =>
    (f.id == F.HST_RING_CTRL_LOG2_SIZE.id && (on || decide (x < 6) || decide (16 < x))) ||
      (f.id == F.HST_RING_CTRL_BUF_SIZE.id && (on || decide (x < 256) || decide (16320 < x) || x % 64 != 0))

/-- A write to a central register that no command row names; the overlay of PARAM sets RNG_PROBE alone, for RNG_SPAN resets to a number (Table 21.4, R534). -/
def State.centralWrite (s : State) (r : Reg) (i v master : Nat) : State :=
  let b := r.base
  if [R.TUE_RING_BASE.base, R.TUE_CPL_BASE.base, R.EXM_EVT_BASE.base, R.DRC_TELEM_EXPORT_ADDR.base].contains b then s.plainWrite r i (page v)
  else if b = R.HST_RING_BASE.base ∨ b = R.HST_RING_CPL_BASE.base then if s.on F.HST_RING_CTRL_OWNED i then s.plainWrite r i (page v) else s
  else if b = R.HST_RING_CTRL.base then if s.on F.HST_RING_CTRL_OWNED i then s.hostCtrlWrite i v else s
  else if b = R.HST_RING_CPL_TAIL.base ∨ b = R.HST_RING_WB.base then if s.on F.HST_RING_CTRL_OWNED i then s.plainWrite r i v else s
  else if b = R.HST_RING_EVENT.base then if i = 0 ∨ s.on F.HST_RING_CTRL_OWNED i then s.plainWrite r i v else s
  else if b = R.HST_INT_MASK.base then (s.plainWrite r i (sourceBits i v)).unmasked
  else if b = R.HST_INT_PIN.base then s.plainWrite r i (sourceBits i v)
  else if b = R.FWM_CMD.base ∨ b = R.FWM_ARG.base then if s.on F.FWM_STATUS_SLOT_BUSY 0 then s else s.plainWrite r i v
  else if b = R.FLT_CAP_2.base then s.capWrite v
  else if b = R.TIM_ADJ_ARG_NS.base ∨ b = R.TIM_ADJ_ARG_S.base then
    if s.on F.TIM_ADJ_CTRL_BUSY 0 then s.evTim F.TIM_EVENT_ADJ_REFUSED else s.plainWrite r i v
  else if b = R.TIM_CAP_CTRL.base ∨ b = R.TIM_PORT_PTP.base then s.pickyWrite r i v threeIgnored
  else if b = R.TUE_RING_CTRL.base then
    (s.pickyWrite r i v fun f x => f.id == F.TUE_RING_CTRL_LOG2_SIZE.id && (decide (x < 6) || decide (16 < x))).tueTake
  else if b = R.TUE_CPL_TAIL.base then (s.plainWrite r i v).tueTake
  else if b = R.EXM_EVT_CTRL.base then
    s.pickyWrite r i v fun f x => f.id == F.EXM_EVT_CTRL_LOG2_SIZE.id && (decide (x < 10) || decide (20 < x))
  else if b = R.EXM_PORT_LEARN.base then if s.isAnyPort i then s.plainWrite r i v else s
  else if b = R.RNG_PROBE.base then
    if master = 0x01 then s.plainWrite r i (clampBits v F.RNG_PROBE_PERIOD_MS 1 10000) else s.probeWrite i v
  else if b = R.DRC_CFG.base then
    s.pickyWrite r i (clampBits (clampBits v F.DRC_CFG_SR_IDLE_US 10 1000000) F.DRC_CFG_PD_IDLE_NS 100 4000) fun f x =>
      f.id == F.DRC_CFG_TRAIN_PERIOD_S.id && decide (1 ≤ x) && decide (x < 60)
  else s.plainWrite r i v

/-- A write to a slot register; ZEROIZE wins over SWAP in one write (R434 to R436, R444, Table 16.3). -/
def State.slotRegWrite (s : State) (r : Reg) (i v : Nat) : State :=
  let b := r.base
  if b = R.ELY_SLOT_CMD.base then
    if bitOf v 1 then s.slotZeroize i
    else
      let s := if bitOf v 2 then s.slotClearStaged i else s
      if bitOf v 0 then s.slotSwap i else s
  else if b = R.ELY_SLOT_STG_CFG.base then s.stgCfgWrite i v
  else if b = R.ELY_SLOT_STG_KEY.base then s.stgKeyWrite (i / 4) (i % 4) (v % 2 ^ 64)
  else if b = R.ELY_SLOT_STATUS.base ∨ b = R.ELY_SLOT_ACT_PN.base then s.plainWrite r i v
  else s.stagedWrite i fun s => s.plainWrite r i v

/-- The slot of a slot register. -/
def slotOfReg (r : Reg) (i : Nat) : Option Nat :=
  if r.base = R.ELY_SLOT_STG_KEY.base then some (i / 4)
  else if 0x200000 ≤ r.base ∧ r.base < 0x300000 then some i
  else none

/-- The bits of a SMP_WATCH value whose queue IDs are in use: those of configured ports and of the host port (R31; log 107). -/
def State.watchable (s : State) (q k v : Nat) : Nat :=
  (List.range 64).foldl (fun n b =>
    let x := 64 * k + b
    if bitOf v b && (if x < 6144 then s.isPort (128 * q + x / 48) else decide (x < 6160)) then n + 2 ^ b else n) 0

/-- A write to a register of a gate unit that takes no value: nothing happens but the record of a refused claim (R381). -/
def State.gateReadOnly (s : State) (r : Reg) (i master : Nat) : Option State :=
  let b := r.base
  if [R.GAT_PORT_STATUS.base, R.GAT_PORT_CHANGE_NS.base, R.GAT_PORT_CHANGE_S.base].contains b then some (s.portGateWrite i master id)
  else if [R.GAT_SG_STATUS.base, R.GAT_SG_CHANGE_NS.base, R.GAT_SG_CHANGE_S.base].contains b then some (s.streamGateWrite i master id)
  else if b = R.GAT_SG_OPER_LIST.base then some (s.streamGateWrite (i / 32) master id)
  else none

/-- A write to a register of a quadrant or a tile. -/
def State.localWrite (s : State) (r : Reg) (i v master : Nat) : State :=
  let b := r.base
  if b = R.PWQ_PORT_SLEEP.base then if s.isPort i then s.plainWrite r i v else s
  else if b = R.BUF_PROFILE_ADM.base then s.pickyWrite r i v fun f x => f.id == F.BUF_PROFILE_ADM_ALPHA_EXP.id && decide (12 ≤ x)
  else if b = R.BUF_PROFILE_AGE.base then s.plainWrite r i (clampBits v F.BUF_PROFILE_AGE_AGE_LIMIT 0 12582912)
  else if b = R.BUF_SEXTON_CTRL.base then s.plainWrite r i (clampBits v F.BUF_SEXTON_CTRL_INTERVAL_MS 1 10000)
  else if b = R.BUF_FREE.base then s.bufFree i (v % 2 ^ 32) master
  else if b = R.BUF_QUEUE_CFG.base then s.queueCfgWrite i v
  else if b = R.TCM_CTRL.base then s.plainWrite r i (clampBits v F.TCM_CTRL_SCRUB_MS 10 10000)
  else if b = R.TCM_PORT_L3.base then s.portL3Write (if i % 129 = 128 then 512 + i / 129 else 128 * (i / 129) + i % 129) v master
  else if b = R.SMP_CTRL.base then (s.plainWrite r i v).ringEnable i
  else if b = R.SMP_WATCH.base then s.plainWrite r i (s.watchable (i / 97) (i % 97) v)
  else if b = R.PRT_CFG.base then s.prtCfgWrite i v
  else if b = R.PRT_FC_TX.base then s.fcTxWrite i v
  else if b = R.PRT_SEC_CFG.base then s.secCfgWrite i v master
  else if b = R.SCH_PORT_CFG.base then
    let s := if bits v 0 2 = 3 then s.evT F.SCH_EVENT_CFG_REFUSED (i / 17) else s
    s.pickyWrite r i v threeIgnored
  else if b = R.SCH_PORT_SHAPER.base then s.shaperWrite r i i 8 v
  else if b = R.SCH_SHAPER_CIR.base then s.shaperWrite r i (i / 8) (i % 8) v
  else if b = R.SCH_CBS.base then
    let x := bits v 0 32
    if 1 ≤ x ∧ x ≤ (s.port (i / 8)).elim 0 (·.gbps) * 10 ^ 6 then s.plainWrite r i v else s.evT F.SCH_EVENT_CFG_REFUSED (i / 128)
  else if b = R.SCH_QMAP.base then s.qmapWrite (i / 8) (i % 8) v
  else if b = R.SCH_QUEUE_CFG.base then
    let s := if bits v 6 10 = 0 then s.evT F.SCH_EVENT_CFG_REFUSED (i / 768) else s
    s.pickyWrite r i v fun f x => f.id == F.SCH_QUEUE_CFG_WEIGHT.id && x == 0
  else if b = R.RWE_PORT_DEFAULT.base then s.portDefaultWrite i v
  else if b = R.TSF_POP.base then s.tsfPop i v
  else if b = R.GAT_PORT_CTRL.base then s.portGateWrite i master fun s => s.gateCtrlWrite r (s.portGate i) v
  else if [R.GAT_PORT_CYCLE.base, R.GAT_PORT_BASE_NS.base, R.GAT_PORT_BASE_S.base].contains b then
    s.portGateWrite i master fun s => s.gateAdmin (s.portGate i) fun s => s.plainWrite r i v
  else if b = R.GAT_PORT_EVENT.base then s.portGateWrite i master fun s => s.plainWrite r i v
  else if b = R.GAT_SG_CTRL.base then s.streamGateWrite i master fun s => s.gateCtrlWrite r (streamGateRegs i) v
  else if [R.GAT_SG_CYCLE.base, R.GAT_SG_BASE_NS.base, R.GAT_SG_BASE_S.base].contains b then
    s.streamGateWrite i master fun s => s.gateAdmin (streamGateRegs i) fun s => s.plainWrite r i v
  else if b = R.GAT_SG_EVENT.base then s.streamGateWrite i master fun s => s.plainWrite r i v
  else if b = R.GAT_SG_ADMIN_LIST.base then s.streamGateWrite (i / 32) master fun s => s.gateAdmin (streamGateRegs (i / 32)) fun s => s.plainWrite r i (putBits v 5 3 0)
  else if b = R.GAT_ADMIN_LIST.base then
    match s.listPort i with
    | some p => s.portGateWrite p master fun s => s.gateAdmin (s.portGate p) fun s => s.plainWrite r i v
    | none => s
  else (s.gateReadOnly r i master).getD (s.plainWrite r i v)

/-- A write to a register with a command row of its own in a central block, as that command (TOP_RESET_CTRL, EXIT, CLK_QCTRL, the doorbell, the mailbox pop and the host ring tails stand beside their commands). -/
def State.rowWrite (s : State) (r : Reg) (i v : Nat) : Option State :=
  let b := r.base
  if b = R.TOP_FENCE.base then some (s.topFence v)
  else if b = R.FLT_MSG_POP.base then some (s.msgPop v)
  else if b = R.FLT_FENCE_CMD.base then some (s.fenceCmd v)
  else if b = R.TIM_RATE.base then some (s.timRateWrite v)
  else if b = R.TIM_ADJ_CTRL.base then some (if v % 4 = 0 ∧ s.on F.TIM_ADJ_CTRL_BUSY 0 = false then s else s.timStep (v % 4))
  else if b = R.TIM_PPS_OUT.base then some (s.timPpsWrite false v)
  else if b = R.TIM_PPS_WIDTH.base then some (s.timPpsWrite true v)
  else if b = R.TUE_RING_TAIL.base then some (s.tueTail i v [])
  else if b = R.TUE_ORDER_STRICT.base then some (s.orderStrict i v)
  else if b = R.EXM_SWEEP.base then some (s.exmSweepWrite i v)
  else if b = R.EXM_PORT_TABLES.base then some (s.portTablesWrite i v)
  else if b = R.RNG_GROUP_CTX.base then some (s.groupCtxWrite i v)
  else if b = R.DRC_TELEM_EXPORT_CTRL.base then some (s.exportWrite i v)
  else none

/-- A write of 64 bits to an instance by a master. -/
def State.instanceWrite (s : State) (r : Reg) (i v master : Nat) : State :=
  let v := v % 2 ^ 64
  if s.instanceUsed r i = false then s
  else
    match s.rowWrite r i v with
    | some t => t
    | none =>
      match slotOfReg r i with
      | some n => s.slotWrite n master fun s => s.slotRegWrite r i v
      | none => if r.base < 0x400000 then s.centralWrite r i v master else s.localWrite r i v master

end Sys2Proof.Machine
end

