-- ==== Sys2Proof/Machine/Nvm.lean ====
section
/-! DEFINITION. The non-volatile store: NVM_STORE, NVM_READ, the PARAM capture and the PARAM overlay (R88 to R99). -/

namespace Sys2Proof.Machine

/-! ## Results (Table 3.6) -/

def nvmOk : Nat := 0
def nvmRange : Nat := 1
def nvmReadonly : Nat := 2
def nvmInUse : Nat := 3
def nvmFull : Nat := 4
def nvmVerify : Nat := 5
def nvmDma : Nat := 6
def nvmUncorr : Nat := 7

/-- An NVM command is over: LAST_STATUS, and its response. -/
def State.nvmEnd (s : State) (op tag result : Nat) : State :=
  ({ s with nvmJob := none }.set F.NVM_STATUS_LAST_STATUS 0 result).mailDone op tag result

/-- Alignment and bounds of R94. -/
def nvmInRange (region offset length : Nat) : Bool :=
  decide (region < 8) && offset % 64 == 0 && length % 64 == 0 && length != 0 && decide (offset + length ≤ (nvmRegion region).2)

/-! ## Lines (R90, R94) -/

/-- Data cut into lines at rising addresses. -/
def linesAt (addr : Nat) (bs : List Byte) : List (Nat × List Byte) :=
  (List.range (ceilDiv bs.length 64)).map fun k => (addr + 64 * k, slice bs (64 * k) 64)

/-- Write lines to the NVM. -/
def State.nvmWrite (s : State) (lines : List (Nat × List Byte)) : State :=
  { s with nvm := lines.foldl (fun m l => Mem.writeList m l.1 l.2) s.nvm }

/-- The command in progress stops after some lines; what has been written stays (R90). -/
def State.nvmCut (s : State) (n : Nat) : State :=
  match s.nvmJob with
  | some (.store _ _ _ lines) => { s.nvmWrite (lines.take n) with nvmJob := none }
  | _ => { s with nvmJob := none }

/-- Reads of the NVM: a line that cannot be corrected is reported and a corrected read counted (R93). -/
def State.nvmMet (s : State) (r : NvmReads) : State :=
  let s := s.count F.NVM_STATUS_CORRECTED 0 r.corrected
  s.forAll r.uncorrectable fun s k => (s.evC F.NVM_STATUS_UNCORR 0).report 0x003 kUncorr 0x01 1 (64 * k)

/-- The NVM as those reads see it: what a line that cannot be corrected gives is a free value (R93; log 17). -/
def State.nvmSeen (s : State) (r : NvmReads) : State :=
  (s.nvmMet r).forAll r.uncorrectable fun s k =>
    let d := s.draw
    { d.2 with nvm := Mem.writeList d.2.nvm (64 * k) (beBytes d.1 64) }

/-- The reads are over: the NVM as it was before them. -/
def State.nvmBack (s before : State) : State := { s with nvm := before.nvm }

/-- Copy NVM lines to host memory. -/
def State.nvmToHost (s : State) (region offset length hostAddr : Nat) : State :=
  s.hostWrite hostAddr (Mem.readList s.nvm ((nvmRegion region).1 + offset) length)

/-- Host-memory access stops while a command moves data: it ends with NVM_DMA after some lines (R508, Table 20.8). -/
def State.nvmHostStop (s : State) (n : Nat) : State :=
  match s.nvmJob with
  | some (.store tag _ true lines) => (s.nvmWrite (lines.take n)).nvmEnd 4 tag nvmDma
  | some (.read tag region offset length hostAddr) => (s.nvmToHost region offset (min (64 * n) length) hostAddr).nvmEnd 5 tag nvmDma
  | _ => s

/-! ## The PARAM copies (R97) -/

/-- One valid copy: SEQ, SERIAL and records. -/
structure ParamCopy where
  seq : Nat
  serial : Nat
  records : List (Nat × Nat)
  deriving DecidableEq, Repr

/-- NVM address of a copy, 0 lower and 1 upper. -/
def paramAddr (copy : Nat) : Nat := (nvmRegion 4).1 + 0x80000 * copy

/-- Most records in a copy. -/
def paramMost : Nat := 32764

/-- A copy as the NVM holds it; none where it is not valid. -/
def State.paramCopy (s : State) (copy : Nat) : Option ParamCopy :=
  let a := paramAddr copy
  let h := Mem.readList s.nvm a 64
  let count := be h 4 4
  if be h 0 4 ≠ 0x5052414D ∨ paramMost < count then none
  else
    let body := Mem.readList s.nvm (a + 64) (16 * count)
    if be h 0x18 4 ≠ (crc32c body).toNat then none
    else
      some { seq := be h 8 8, serial := be h 0x10 8, records := (List.range count).map fun k =>
        let r := be body (16 * k) 16
        (bits r 80 24, bits r 0 64) }

/-- The copy that boot applies: the only valid one, or that with the higher SEQ (R98). DESIGN CHOICE, log 62: of two valid copies with equal SEQ the lower one is applied, and the next capture overwrites it. -/
def State.paramChosen (s : State) : Option (Nat × ParamCopy) :=
  match s.paramCopy 0, s.paramCopy 1 with
  | none, none => none
  | some a, none => some (0, a)
  | none, some b => some (1, b)
  | some a, some b => if a.seq < b.seq then some (1, b) else some (0, a)

/-- The copy that a capture writes, and its SEQ (R97). -/
def State.paramNext (s : State) : Nat × Nat :=
  match s.paramCopy 0, s.paramCopy 1 with
  | none, none => (0, 1)
  | some a, none => (1, a.seq + 1)
  | none, some b => (0, b.seq + 1)
  | some a, some b => if b.seq < a.seq then (1, a.seq + 1) else (0, b.seq + 1)

/-- A stored field that is RWP and differs from its reset value. -/
def State.differs (s : State) (f : Field) (i : Nat) : Bool := f.access == .rwp && s.get f i != s.resetOf f i

/-- The records of a capture in order of offset: every register instance with an RWP field that differs (R97). -/
def State.paramRecords (s : State) : SMap Nat :=
  s.regs.foldl (fun m e =>
    let i := e.1 / 1024
    match allRegs.find? fun r => r.fields.any fun f => f.id % 1024 == e.1 % 1024 && s.differs f i with
    | some r => if s.instanceUsed r i then SMap.put m (r.offset i) (s.word r i) else m
    | none => m) []

/-- One record (Table 3.8). -/
def recordBytes (e : Nat × Nat) : List Byte := beBytes (e.1 % 2 ^ 24 * 2 ^ 80 + e.2 % 2 ^ 64) 16

/-- The lines of a capture: records, then the header last (R97). -/
def State.captureLines (s : State) (records : SMap Nat) : List (Nat × List Byte) :=
  let x := s.paramNext
  let body := records.flatMap recordBytes
  let header := beBytes 0x5052414D 4 ++ beBytes records.length 4 ++ beBytes x.2 8 ++ beBytes s.image.serial 8 ++
    beBytes (crc32c body).toNat 4 ++ beBytes 0 36
  linesAt (paramAddr x.1 + 64) (body ++ List.replicate (64 * ceilDiv body.length 64 - body.length) 0) ++ [(paramAddr x.1, header)]

/-! ## The overlay (R98, R99) -/

/-- The value that a record writes: RWP fields from the record, others as they are, write-one and write-only fields zero. -/
def State.overlayWord (s : State) (r : Reg) (i v : Nat) : Nat :=
  r.fields.foldl (fun n f =>
    let x := match f.access with
      | .rwp => bits v f.lsb f.width
      | .rw => s.get f i
      | .ro | .rc | .w1c | .w1s | .wo => 0
    n + x * 2 ^ f.lsb) 0

/-- The instance belongs to a unit that the running image uses: a configured port or a host port, a table, a group that is a member (R98; log 107). -/
def State.unitUsed (s : State) (r : Reg) (i : Nat) : Bool :=
  let b := r.base
  s.instanceUsed r i &&
    (if b = R.PWQ_PORT_SLEEP.base then s.isPort i
    else if b = R.EXM_PORT_LEARN.base ∨ b = R.EXM_PORT_TABLES.base then s.isAnyPort i
    else if b = R.TCM_PORT_L3.base then i % 129 == 128 || s.isPort (128 * (i / 129) + i % 129)
    else if b = R.TIM_PORT_PTP.base then s.isPort i
    else if b = R.EXM_SWEEP.base then (SMap.find s.layers.tables i).isSome
    else if b = R.RNG_GROUP_CTX.base ∨ b = R.RNG_PROBE.base then (SMap.find s.layers.ring i).any (·.member)
    else true)

/-- One record: the state it leaves, and whether it is skipped. A claim that R47 refuses is recorded under Caddis's master (R98, R563). -/
def State.overlayOne (s : State) (e : Nat × Nat) : State × Bool :=
  match registerAt e.1 with
  | none => (s, true)
  | some (r, i) =>
    if r.fields.all (fun f => f.access != .rwp) || !s.unitUsed r i || (decide (s.unitReach e.1 = .absent)) then (s, true)
    else
      let v := s.overlayWord r i e.2
      (s.instanceWrite r i v 0x01, ((s.unset F.PTL_CLAIM_ERR_VALID 0).instanceWrite r i v 0x01).on F.PTL_CLAIM_ERR_VALID 0)

/-- Records applied in stored order; the skipped ones are counted (R98). -/
def State.overlay (s : State) (l : List (Nat × Nat)) : State :=
  s.forAll l fun s e =>
    let r := s.overlayOne e
    if r.2 then r.1.count F.NVM_STATUS_PARAM_SKIPPED 0 1 else r.1

/-- Records of a unit's registers reapplied by its reset; PARAM_SKIPPED tells of the last boot alone (R99). -/
def State.reoverlay (s : State) (unit : Nat → Bool) : State :=
  s.forAll (s.boot.param.filter fun e => unit e.1) fun s e => (s.overlayOne e).1

/-! ## The commands -/

/-- NVM_STORE: refused, a PARAM capture, or a store of host data (R94, R96, R97). -/
def State.nvmStore (s : State) (tag region offset length : Nat) (data : List Byte) : State :=
  if region = 5 ∨ region = 6 then s.nvmEnd 4 tag nvmReadonly
  else if region = 4 ∧ length = 0 ∧ offset % 64 = 0 ∧ offset ≤ (nvmRegion 4).2 then
    let records := s.paramRecords
    if paramMost < records.length then s.nvmEnd 4 tag nvmFull
    else { s with nvmJob := some (.store tag 4 false (s.captureLines records)) }
  else if nvmInRange region offset length = false then s.nvmEnd 4 tag nvmRange
  else if region ≤ 1 ∧ s.on F.PTL_SWAP_BUSY 0 = true then s.nvmEnd 4 tag nvmInUse
  else
    let addr := (nvmRegion region).1 + offset
    let got := if s.pins.hostAllowed then data.take length else []
    if got.length < length then (s.nvmWrite (linesAt addr (got.take (got.length / 64 * 64)))).nvmEnd 4 tag nvmDma
    else { s with nvmJob := some (.store tag region true (linesAt addr got)) }

/-- A store is over: verified and counted, or a line read back wrong or not at all (R93, R94, Table 3.6). What that line then holds is a free value. -/
def State.nvmStoreDone (s : State) (badLine : Option Nat) (reads : NvmReads) : State :=
  match s.nvmJob with
  | some (.store tag region _ lines) =>
    let s := s.nvmMet reads
    let lost := lines.findIdx? fun l => reads.uncorrectable.contains (l.1 / 64)
    let first := match badLine.filter (fun k => decide (k < lines.length)), lost with
      | some a, some b => some (min a b, if a < b then nvmVerify else nvmUncorr)
      | some a, none => some (a, nvmVerify)
      | none, some b => some (b, nvmUncorr)
      | none, none => none
    match first.bind fun x => lines[x.1]?.map fun l => (x, l) with
    | none => ((s.nvmWrite lines).nvmCounted region).nvmEnd 4 tag nvmOk
    | some ((k, code), l) =>
      let d := s.draw
      (d.2.nvmWrite (lines.take k ++ [(l.1, beBytes d.1 64)])).nvmEnd 4 tag code
  | _ => s

/-- NVM_READ (R95, R96). -/
def State.nvmRead (s : State) (tag region offset length hostAddr : Nat) : State :=
  if nvmInRange region offset length = false then s.nvmEnd 5 tag nvmRange
  else if s.pins.hostAllowed = false then s.nvmEnd 5 tag nvmDma
  else { s with nvmJob := some (.read tag region offset length hostAddr) }

/-- A read is over: copied, or stopped at an uncorrectable line (R93, R95). -/
def State.nvmReadDone (s : State) (uncorrectable : Option Nat) (corrected : Nat) : State :=
  match s.nvmJob with
  | some (.read tag region offset length hostAddr) =>
    match uncorrectable.filter fun k => decide (64 * k < length) with
    | none => ((s.nvmMet { corrected := corrected }).nvmToHost region offset length hostAddr).nvmEnd 5 tag nvmOk
    | some k =>
      let reads : NvmReads := { uncorrectable := [((nvmRegion region).1 + offset) / 64 + k], corrected := corrected }
      ((s.nvmMet reads).nvmToHost region offset (64 * k) hostAddr).nvmEnd 5 tag nvmUncorr
  | _ => s

/-- NVM_STORE (R94). -/
def execNvmStore (tag region offset length hostAddr : Nat) (data : List Byte) (s : State) : Host.Outcome State Fault Refusal :=
  .next (s.mailRun 4 tag [region, offset, length, hostAddr] fun s => s.nvmStore tag region offset length data)

/-- NVM_STORE_DONE (R94). -/
def execNvmStoreDone (x : ReadBack) (s : State) : Host.Outcome State Fault Refusal :=
  .next (s.when s.caddisUp fun s => s.nvmStoreDone x.badLine x.reads)

/-- NVM_READ (R95). -/
def execNvmRead (tag region offset length hostAddr : Nat) (s : State) : Host.Outcome State Fault Refusal :=
  .next (s.mailRun 5 tag [region, offset, length, hostAddr] fun s => s.nvmRead tag region offset length hostAddr)

/-- NVM_READ_DONE (R95). -/
def execNvmReadDone (uncorrectable : Option Nat) (corrected : Nat) (s : State) : Host.Outcome State Fault Refusal :=
  .next (s.when s.caddisUp fun s => s.nvmReadDone uncorrectable corrected)

end Sys2Proof.Machine
end

