-- ==== Sys2Proof/Machine/Image.lean ====
section
/-! DEFINITION. Validation of a Peat image (R38 to R49, R561, Tables 2.1 to 2.6). -/

namespace Sys2Proof.Machine

/-! ## Result codes (Table 2.6) and layer types (Table 2.3) -/

def peatOk : Nat := 0
def peatBadMagic : Nat := 1
def peatWrongPart : Nat := 2
def peatLayerCrc : Nat := 3
def peatDigest : Nat := 4
def peatVersion : Nat := 5
def peatConflict : Nat := 6

def tFabric : Nat := 0x1
def tClock : Nat := 0x2
def tParse : Nat := 0x3
def tTables : Nat := 0x4
def tSearch : Nat := 0x5
def tBuffer : Nat := 0x6
def tSched : Nat := 0x7
def tTime : Nat := 0x8
def tSecure : Nat := 0x9
def tRing : Nat := 0xA
def tPins : Nat := 0xB
def tFault : Nat := 0xC
def tRewrite : Nat := 0xD
def tHost : Nat := 0xE

/-- Layers that every image holds (Table 2.3). -/
def mandatoryLayers : List Nat := [tFabric, tClock, tParse, tTables, tSearch, tBuffer, tSched, tTime, tPins, tFault, tRewrite, tHost]

/-! ## Small tests over lists -/

/-- No two of the numbers are equal. -/
def noRepeat : List Nat → Bool
  | [] => true
  | x :: xs => !xs.contains x && noRepeat xs

/-- No two ranges (first, count) share a number. -/
def disjoint : List (Nat × Nat) → Bool
  | [] => true
  | x :: xs => xs.all (fun y => decide (x.1 + x.2 ≤ y.1 ∨ y.1 + y.2 ≤ x.1)) && disjoint xs

/-- The numbers stay within bounds. -/
def within (lo hi n : Nat) : Bool := decide (lo ≤ n) && decide (n ≤ hi)

/-! ## The fields of the layers (R44, Table 2.4) -/

/-- One port: place, rate, FEC and MTU (R25 to R27, Table 2.4). -/
def portOk (v : Variant) (c : PortCfg) : Bool :=
  [1, 2, 4, 8].contains c.width && decide (c.lane < 512) && c.lane % 16 % c.width == 0 && within 1 5 c.rate &&
    (!optical v (c.lane / 16) || within 4 5 c.rate) &&
    (if 3 ≤ c.rate then c.fec == 2 else if c.rate = 2 then decide (c.fec ≤ 1) else c.fec == 0) && within 64 9216 c.mtu

/-- FABRIC: every port in range and no lane claimed twice (R27). -/
def fabricOk (v : Variant) (l : Layers) : Bool := l.fabric.all (portOk v) && disjoint (l.fabric.map fun c => (c.lane, c.width))

/-- CLOCK: points of Table 4.2, none booted below its floor (R561). -/
def clockOk (l : Layers) : Bool :=
  (List.range 4).all fun q =>
    let b := SMap.findD l.clock.boot q 2
    let f := SMap.findD l.clock.floor q 2
    decide (f ≤ 2) && decide (b ≤ f)

/-- HDR_SET of a group (R185). -/
def hdrOk (h : Nat) : Bool :=
  decide (bits h 0 3 ≤ 4) && decide (bits h 6 4 ≤ 8) && !(bitOf h 12 && !bitOf h 10 && !bitOf h 11) && decide (h < 2 ^ 15)

/-- Ports that a tile's farm serves, the host port of a tile 8h among them (R24, R29). -/
def Layers.farmPorts (l : Layers) (t : Nat) : List Nat :=
  ((l.fabric.filter fun c => c.lane / 16 == t).map (·.lane)) ++ if t % 8 = 0 then [512 + t / 8] else []

/-- Engines that a tile needs (R45). -/
def Layers.farmNeed (l : Layers) (t : Nat) : Nat :=
  let ps := l.farmPorts t
  let depths := ps.map fun p => (SMap.find l.parse.groups (8 * t + SMap.findD l.parse.group p 0)).elim 0 (·.depth)
  2 * (8 + ceilDiv (depths.foldl max 0) 32)

/-- PARSE: every port has a group whose fields are in range, and every farm holds its deepest group (R44, R45, R185). -/
def parseOk (l : Layers) : Bool :=
  l.parse.group.all (fun e => decide (e.2 ≤ 7)) &&
    l.parse.groups.all (fun e => within 64 512 e.2.depth && e.2.depth % 32 == 0 && hdrOk e.2.hdrs) &&
    within 1 65535 l.parse.vxlanPort && decide (l.parse.rtpRanges.length ≤ 16) &&
    l.parse.rtpRanges.all (fun r => decide (r.1 ≤ r.2) && decide (r.2 ≤ 65535)) && l.parse.spares.all (fun e => decide (e.2 ≤ 4)) &&
    (List.range 32).all fun t =>
      (l.farmPorts t).all (fun p => (SMap.find l.parse.groups (8 * t + SMap.findD l.parse.group p 0)).isSome) &&
        ((l.farmPorts t).isEmpty || decide (l.farmNeed t ≤ 48 - SMap.findD l.parse.spares t 0))

/-- TABLES (R205, R206, R226). -/
def tablesOk (l : Layers) : Bool :=
  let one (c : TableCfg) : Bool :=
    within 1 256 c.bankCount && decide (c.bankFirst + c.bankCount ≤ 256) && within 1 3600000 c.sweepMs &&
      !(c.wide && (c.kind == .fdb || c.kind == .merge || c.kind == .meter)) &&
      [c.h0Poly, c.h0Seed, c.h1Poly, c.h1Seed].all fun x => decide (x < 2 ^ 32)
  l.tables.all (fun e => decide (e.1 < 16) && one e.2) && disjoint (l.tables.map fun e => (e.2.bankFirst, e.2.bankCount)) &&
    sweepOk ((l.tables.filter fun e => e.2.ageing).map fun e => (e.2.buckets, e.2.sweepMs))

/-- SEARCH (R235, R241); a region may hold no row. -/
def searchOk (l : Layers) : Bool :=
  let q (k : Nat) := l.search.regions.filter fun e => e.1 / 16 == k
  l.search.lpmRows % 1024 == 0 && decide (l.search.lpmRows ≤ 131072) &&
    l.search.regions.all (fun e =>
      decide (e.1 < 64) && e.2.kind != .lpm && decide (l.search.lpmRows ≤ e.2.first) && e.2.first % 512 == 0 && e.2.rows % 512 == 0 &&
        decide (e.2.first + e.2.rows ≤ 131072) &&
        (!e.2.replicated || (List.range 4).all fun k => SMap.find l.search.regions (16 * k + e.1 % 16) == some e.2)) &&
    (List.range 4).all (fun k => disjoint (((q k).filter fun e => e.2.rows != 0).map fun e => (e.2.first, e.2.rows))) &&
    l.search.stageOrder.length == 5 && [Stage.acl, .sg, .host, .lpm, .fdb].all fun x => l.search.stageOrder.contains x

/-- Largest MTU of a quadrant's ports, the host port among them (R300). -/
def Layers.mostMtu (l : Layers) (q : Nat) : Nat := ((l.fabric.filter fun c => c.lane / 128 == q).map (·.mtu)).foldl max 9216

/-- BUFFER (R300, R309, R453, Table 2.4): the shares of a stack lie one after the other, so that only their sum can be wrong. -/
def bufferOk (l : Layers) : Bool :=
  let size (k : Nat) := SMap.findD l.buffer.poolSize k ([320, 1600, 4160, 9728].getD (k % 4) 0)
  let count (k : Nat) := SMap.findD l.buffer.poolCount k 0
  (List.range 4).all (fun q =>
    let ks := List.range' (4 * q) 4
    ks.all (fun k => size k % 64 == 0 && within 256 10240 (size k) && decide (count k ≤ 1048575) &&
      decide (((List.range 4).map fun j => SMap.findD l.buffer.shelter (16 * q + 4 * j + k % 4) 0).sum ≤ count k)) &&
      decide (size (4 * q) < size (4 * q + 1)) && decide (size (4 * q + 1) < size (4 * q + 2)) && decide (size (4 * q + 2) < size (4 * q + 3)) &&
      decide (l.mostMtu q + 32 ≤ size (4 * q + 3)) && decide ((ks.map fun k => size k * count k).sum ≤ 83886080)) &&
    (List.range 2).all fun d => decide (((List.range 5).map fun k => SMap.findD l.buffer.share (5 * d + k) 0).sum ≤ 24576)

/-- SCHED (R361, R385). -/
def schedOk (l : Layers) : Bool :=
  l.sched.queueClass.all (fun e => decide (e.2 ≤ 7)) && l.sched.refill.all (fun e => within 64 4096 e.2) &&
    (List.range 4).all (fun q =>
      let p := SMap.findD l.sched.samplePeriod q 0
      within 1000 1000000000 p && 1000000000 % p == 0) &&
    l.fabric.all fun c => (List.range 8).all fun k => (List.range 32).any fun n => SMap.findD l.sched.queueClass (48 * c.lane + n) 0 == k

/-- TIME: a unit has one owner, owners exist, lists have units, sums keep within the tile (R46, R370, Table 2.4). -/
def timeOk (l : Layers) : Bool :=
  let port (p t : Nat) : Bool := (l.port p).isSome && p / 16 == t
  noRepeat (l.time.portUnit.map (·.1)) && noRepeat (l.time.streamUnit.map (·.1)) &&
    l.time.portUnit.all (fun e => decide (e.1 < 512) && port e.2 (e.1 / 16)) &&
    l.time.streamUnit.all (fun e => decide (e.1 < 512) && e.2 / 16 == e.1 / 16) &&
    l.time.gateListLen.all (fun e => decide (e.2 ≤ 256) && (e.2 == 0 || l.time.portUnit.any fun u => u.2 == e.1)) &&
    l.time.tsfShare.all (fun e => decide (e.2 ≤ 64) && (l.port e.1).isSome) && l.time.watermark.all (fun e => within 1 64 e.2) &&
    (List.range 32).all fun t =>
      decide (((l.time.gateListLen.filter fun e => e.1 / 16 == t).map (·.2)).sum ≤ 2048) &&
        decide (((l.time.tsfShare.filter fun e => e.1 / 16 == t).map (·.2)).sum ≤ 64)

/-- SECURE: partitions of 8,192 slots, each of one tile. -/
def secureOk (l : Layers) : Bool :=
  l.secure.all (fun p => decide (p.tile < 32) && decide (p.first + p.count ≤ 8192)) && disjoint (l.secure.map fun p => (p.first, p.count))

/-- RING: the ports of a member group are 4-lane ports at 200 Gbit/s per lane (R174). -/
def ringOk (l : Layers) : Bool :=
  l.ring.all fun e =>
    decide (e.1 < 4) && decide (e.2.ringId ≤ 15) && decide (e.2.nodeId ≤ 65535) && within 0x0600 0xFFFF e.2.ethertype &&
      (!e.2.member || (ringPorts e.1).all fun p => (l.port p).any fun c => c.width == 4 && c.rate == 5)

/-- PINS: one function of the package chapter for each pin. -/
def pinsOk (l : Layers) : Bool := noRepeat (l.pins.map (·.1)) && l.pins.all fun e => decide (e.1 < 8) && decide (e.2 ≤ 6)

/-- FAULT: only units of Table 19.5 may have fence policy (R495). -/
def faultOk (v : Variant) (l : Layers) : Bool :=
  decide (l.fault.mode < 256) && l.fault.fence.all (fun e => fenceable v e.1 e.2) && decide (l.fault.floor ≤ 100)

/-- The same recipes, whatever their order. -/
def sameRecipes (a b : List Nat) : Bool := a.all (fun x => b.contains x) && b.all fun x => a.contains x

/-- REWRITE (R423): each share begins where those of lower tiles end. -/
def rewriteOk (l : Layers) : Bool :=
  let count (t : Nat) := (SMap.findD l.rewrite.split t (0, 0)).2
  (List.range 32).all (fun t =>
    (l.recipesOf t).contains 0 && (l.recipesOf t).all (fun id => (recipeInfo id).isSome) &&
      (List.range 6).all (fun k => sameRecipes (SMap.findD l.rewrite.recipes (6 * t + k) []) (l.recipesOf t)) &&
      (count t == 0 || (SMap.findD l.rewrite.split t (0, 0)).1 == ((List.range t).map count).sum)) &&
    decide (((List.range 32).map count).sum ≤ 262144) &&
    l.rewrite.regions.all (fun r => decide (r.cluster < 192) && decide (256 ≤ r.first) && decide (r.first + r.count ≤ 8192)) &&
    (List.range 192).all fun k => disjoint ((l.rewrite.regions.filter fun r => r.cluster == k).map fun r => (r.first, r.count))

/-- HOST (R511). -/
def hostOk (l : Layers) : Bool :=
  noRepeat (l.host.owner.map (·.1)) && l.host.owner.all (fun e => decide (e.1 < 64) && decide (e.2 < 4)) &&
    (List.range 4).all (fun h => (l.host.owner.any fun e => decide (e.1 < 32) && e.2 == h) && l.host.owner.any fun e => decide (32 ≤ e.1) && e.2 == h) &&
    l.host.queues.all (fun e => e.2.isEmpty || e.2.all fun n => SMap.find l.host.owner e.1 == some (n / 16)) &&
    noRepeat (l.host.queues.flatMap (·.2)) && (List.range 64).all (fun n => l.host.queues.any fun e => decide (e.1 < 32) && e.2.contains n) &&
    l.host.msix.all fun e => decide (e.1 < 128) && decide (e.2 < 128)

/-- The first layer, in type order, that a field or claim makes invalid (R44, R46, R48). -/
def badLayer (v : Variant) (l : Layers) : Option Nat :=
  ([(tFabric, fabricOk v l), (tClock, clockOk l), (tParse, parseOk l), (tTables, tablesOk l), (tSearch, searchOk l), (tBuffer, bufferOk l),
    (tSched, schedOk l), (tTime, timeOk l), (tSecure, secureOk l), (tRing, ringOk l), (tPins, pinsOk l), (tFault, faultOk v l),
    (tRewrite, rewriteOk l), (tHost, hostOk l)].find? fun x => !x.2).map (·.1)

/-! ## The image (R38 to R42, R48) -/

/-- NVM address of a slot, 0 A and 1 B. -/
def slotAddr (slot : Nat) : Nat := (nvmRegion slot).1

/-- The 14 directory entries of a header (Table 2.2). -/
def dirOf (h : List Byte) : List DirEntry :=
  (List.range 14).map fun k =>
    let o := 0x58 + 12 * k
    { type := be h o 1, lver := be h (o + 1) 1, offset := be h (o + 2) 2, length := be h (o + 4) 4, crc := be h (o + 8) 4 }

/-- An unused entry that is not zero. -/
def DirEntry.used (e : DirEntry) : Bool := e.type != 0 || e.lver != 0 || e.offset != 0 || e.length != 0 || e.crc != 0

/-- Bytes of a layer. -/
def layerBytes (img : List Byte) (e : DirEntry) : List Byte := slice img (256 * e.offset) e.length

/-- An entry in use stands in order, lies inside the image, overlaps none before it, and its CRC is right (R41, R42). -/
def entryBad (img : List Byte) (before : List DirEntry) (e : DirEntry) : Bool :=
  !within 1 14 e.type || before.any (fun x => decide (e.type ≤ x.type)) || e.offset == 0 || e.length == 0 ||
    decide (img.length < 256 * e.offset + e.length) ||
    before.any (fun x => !disjoint [(256 * x.offset, x.length), (256 * e.offset, e.length)]) ||
    (crc32c (layerBytes img e)).toNat != e.crc

/-- The type of the first bad entry in use. -/
def firstBad (img : List Byte) (before : List DirEntry) : List DirEntry → Option Nat
  | [] => none
  | e :: es => if entryBad img before e then some e.type else firstBad img (before ++ [e]) es

/-- What validation reports: a code, the layer type that LAYER_CRC and RESOURCE_CONFLICT carry, the image. -/
structure Verdict where
  code : Nat
  layer : Option Nat := none
  image : Option Image := none
  deriving DecidableEq, Repr

/-- Without SECURE no key slot is partitioned, without RING no group is a member (R43). -/
def Layers.optional (l : Layers) (types : List Nat) : Layers :=
  { l with
    secure := if types.contains tSecure then l.secure else []
    ring := if types.contains tRing then l.ring else [] }

/-- Validation of the bytes of an image in the order of R48. -/
def validateBytes (v : Variant) (slot : Nat) (img : List Byte) : Verdict :=
  let n := be img 0x0B 1
  let dir := dirOf img
  let inUse := dir.take n
  if be img 8 2 ≠ 0x1024 ∨ be img 0x0A 1 ≠ (if v = .o then 0x4F else 0x48) then { code := peatWrongPart }
  else if be img 4 1 ≠ 1 ∨ 2 < be img 5 1 ∨ bitOf (be img 0x1C 4) 0 = true ∨ inUse.any (fun e => e.lver != 1) = true then { code := peatVersion }
  else
    match (dir.drop n).find? DirEntry.used with
    | some e => { code := peatLayerCrc, layer := some e.type }
    | none =>
      match firstBad img [] inUse with
      | some t => { code := peatLayerCrc, layer := some t }
      | none =>
        match mandatoryLayers.find? fun t => !inUse.any fun e => e.type == t with
        | some t => { code := peatLayerCrc, layer := some t }
        | none =>
          if slice img 0x28 48 ≠ Config.sha384 (splice img 0x28 (List.replicate 48 0)) then { code := peatDigest }
          else
            let l := (Config.decodeLayers (inUse.map fun e => (e.type, layerBytes img e))).optional (inUse.map (·.type))
            if v = .h ∧ (SMap.find l.ring 3).any (·.member) = true then { code := peatWrongPart }
            else
              match badLayer v l with
              | some t => { code := peatConflict, layer := some t }
              | none =>
                { code := peatOk, image := some { serial := be img 0x10 8, source := if slot = 0 then .slotA else .slotB, dir := inUse, layers := l } }

/-- Validation of a slot: the header's framing first, then the image it frames (R48). -/
def State.validate (s : State) (slot : Nat) : Verdict :=
  let h := Mem.readList s.nvm (slotAddr slot) 256
  let len := be h 0x0C 4
  if be h 0 4 ≠ 0x50454154 ∨ be h 6 2 ≠ 0x0100 ∨ len < 256 ∨ 8388608 < len ∨ within 12 14 (be h 0x0B 1) = false ∨ be h 0x10 8 = 0 then
    { code := peatBadMagic }
  else validateBytes s.variant slot (Mem.readList s.nvm (slotAddr slot) len)

/-- PTL_STATUS takes a result; FAIL_LAYER that of the last code which names a layer. -/
def State.verdict (s : State) (slot : Nat) (v : Verdict) : State :=
  let s := (s.set (if slot = 0 then F.PTL_STATUS_RESULT_A else F.PTL_STATUS_RESULT_B) 0 v.code).set F.PTL_STATUS_LAST_RESULT 0 v.code
  match v.layer with
  | some t => s.set F.PTL_STATUS_FAIL_LAYER 0 t
  | none => s

end Sys2Proof.Machine
end

