-- ==== Sys2Proof/Machine/Clocks.lean ====
section
/-! DEFINITION. REFCLK and holdover, the quadrants' operating points, temperatures and rails (R100 to R106, R123 to R126, R542, R549). -/

namespace Sys2Proof.Machine

/-! ## REFCLK (R102, R103) -/

/-- A report of the Hummock whose ADDRESS no rule states (R102, R103, R549). -/
def State.hummockLimit (s : State) : State :=
  let d := s.draw
  d.2.report 0x001 kLimit 0x04 0 (d.1 % 2 ^ 48)

/-- REFCLK is lost: the internal oscillator takes over and running PLLs enter holdover. -/
def State.refclkLoss (s : State) : State :=
  let s := { s with pins := { s.pins with refclk := false } }
  let s := if s.up then s.set F.CLK_STATUS_HOLDOVER 0 1 else s
  (s.evC F.CLK_STATUS_REFCLK_LOSS 0).hummockLimit

/-- Holdover has lasted 100 ms: every lane is held off. -/
def State.holdoverExpiry (s : State) : State :=
  let s := { s with clocks := { s.clocks with heldOff := true } }
  ((s.linksDown s.allPorts).evC F.CLK_STATUS_HOLDOVER_EXPIRED 0).hummockLimit

/-- Every clock has relocked: lanes held off retrain. -/
def State.clockRelock (s : State) : State :=
  { s with clocks := { s.clocks with heldOff := false } }.set F.CLK_STATUS_HOLDOVER 0 0

/-! ## Operating points (R104 to R106, R126) -/

/-- Drive a quadrant's VID code. -/
def State.drive (s : State) (q code : Nat) : State := { s with pins := { s.pins with vid := SMap.put s.pins.vid q code } }

/-- The quadrant's change under way is over. -/
def State.settled (s : State) (q : Nat) : State :=
  { s with clocks := { s.clocks with raising := SMap.del s.clocks.raising q } }.set F.CLK_QCTRL_CHANGING q 0

/-- Move a quadrant to a point: lowering switches the divider, then the code; raising sets the code and waits VID_SETTLE (R105). -/
def State.moveTo (s : State) (q point : Nat) : State :=
  let now := s.get F.CLK_QCTRL_ACTUAL q
  if now < point then ((s.settled q).set F.CLK_QCTRL_ACTUAL q point).drive q point
  else if point < now then
    ({ s with clocks := { s.clocks with raising := SMap.put s.clocks.raising q point } }.set F.CLK_QCTRL_CHANGING q 1).drive q point
  else (s.settled q).drive q point

/-- The point that the device state or POINT requires (R118). -/
def State.required (s : State) (q : Nat) : Nat :=
  if s.get F.HUM_DEVICE_STATE_STATE 0 = 0 then s.get F.CLK_QCTRL_POINT q else s.get F.CLK_QCTRL_FLOOR q

/-- Move a quadrant to the point required of it; one lowered under R126 is not raised. -/
def State.follow (s : State) (q : Nat) : State :=
  let p := s.required q
  if bitOf (s.get F.CLK_STATUS_GRADIENT_ACTIVE 0) q && decide (p < s.get F.CLK_QCTRL_ACTUAL q) then s else s.moveTo q p

/-- A quadrant is not at the point required of it, or a raise under way takes it elsewhere, and it may move there (R118, R126). -/
def State.unsettled (s : State) (q : Nat) : Bool :=
  (s.get F.CLK_QCTRL_ACTUAL q != s.required q || (SMap.find s.clocks.raising q).any fun p => p != s.required q) &&
    !(bitOf (s.get F.CLK_STATUS_GRADIENT_ACTIVE 0) q && decide (s.required q < s.get F.CLK_QCTRL_ACTUAL q))

/-- Take the quadrants of a state change to their points in ascending order, a raise one at a time; with none left the command is answered (Table 4.6). -/
def State.changePoints (s : State) (tag : Nat) : List Nat → State
  | [] => { s with clocks := { s.clocks with change := none } }.mailDone 12 tag 0
  | q :: qs =>
    if s.unsettled q = false then s.changePoints tag qs
    else
      let t := s.follow q
      if t.on F.CLK_QCTRL_CHANGING q then t else t.changePoints tag qs

/-- A state change goes on: after the tiles it has woken, the points of the quadrants present (Table 4.6). -/
def State.changeStep (s : State) : State :=
  match s.clocks.change with
  | none => s
  | some (tag, wait) =>
    let wait := wait.filter fun t => s.sleepOf t != 0
    let s := { s with clocks := { s.clocks with change := some (tag, wait) } }
    if wait.isEmpty then s.changePoints tag ((List.range 4).filter s.quadThere) else s

/-- VID_SETTLE is over: the divider switches (R105). -/
def State.vidSettled (s : State) (q : Nat) : State :=
  match SMap.find s.clocks.raising q with
  | none => s
  | some p => ((s.set F.CLK_QCTRL_ACTUAL q p).settled q).changeStep

/-- Boot has come to step 4, from which on the VID codes change (R542). -/
def State.vidFree (s : State) : Bool := s.up || decide (4 ≤ s.get F.TOP_BOOT_STEP 0)

/-- CLK_QCTRL as written (R106). -/
def State.qctrlWrite (s : State) (q v : Nat) : State :=
  if s.on F.CLK_QCTRL_CHANGING q then s.evC F.CLK_STATUS_DVFS_REFUSED 0
  else
    let s := s.set F.CLK_QCTRL_VID_SETTLE q (max 10 (min 1000 (bits v 8 10)))
    let point := bits v 0 2
    if point = 3 then s
    else if s.get F.CLK_QCTRL_FLOOR q < point then s.evC F.CLK_STATUS_DVFS_REFUSED 0
    else
      let s := s.set F.CLK_QCTRL_POINT q point
      if s.get F.HUM_DEVICE_STATE_STATE 0 = 0 ∧ s.vidFree = true then s.follow q else s

/-! ## Temperature and rails (R101, R125, R126, R549) -/

/-- Neighbouring pairs in the order of CLK_STATUS. -/
def quadPairs : List (Nat × Nat) := [(0, 1), (2, 3), (0, 2), (1, 3)]

/-- Quadrant temperature of a sample in 0.125 °C: the highest of its four sensors (R101). -/
def quadReading (l : List Int) (q : Nat) : Int := ((l.drop (4 * q)).take 4).foldl max (l.getD (4 * q) 0)

/-- TJ and its maximum, and the throttle level (R101, R256). -/
def State.sampleTemp (s : State) (q : Nat) (t : Int) : State :=
  let s := s.set F.HUM_TEMP_TJ q (t % 2048).toNat
  let s := if s.getInt F.HUM_TEMP_TJ_MAX q < s.getInt F.HUM_TEMP_TJ q then s.set F.HUM_TEMP_TJ_MAX q (s.get F.HUM_TEMP_TJ q) else s
  s.throttle q t

/-- How much hotter a quadrant is than its hottest-gap neighbour. -/
def worstGap (l : List Int) (q : Nat) : Int :=
  (quadPairs.filterMap fun p => if p.1 = q then some (quadReading l q - quadReading l p.2)
    else if p.2 = q then some (quadReading l q - quadReading l p.1) else none).foldl max 0

/-- The gradient action on one quadrant (R126). DESIGN CHOICE (log 126): R126 speaks of one pair; a quadrant hotter than two neighbours is lowered once, and restored when the larger of its gaps is 20 °C or less. -/
def State.gradient (s : State) (l : List Int) (q : Nat) : State :=
  let on := bitOf (s.get F.CLK_STATUS_GRADIENT_ACTIVE 0) q
  let gap := worstGap l q
  if 200 < gap ∧ on = false then
    (s.setBit F.CLK_STATUS_GRADIENT_ACTIVE 0 q).moveTo q (min (s.get F.CLK_QCTRL_FLOOR q) (s.get F.CLK_QCTRL_ACTUAL q + 1))
  else if gap ≤ 160 ∧ on then (s.clrBit F.CLK_STATUS_GRADIENT_ACTIVE 0 q).follow q
  else s

/-- A sample of the sixteen sensors, four for each quadrant (R101, R126). -/
def State.thermalSample (s : State) (l : List Int) : State :=
  let s := s.forAll (List.range 4) fun s q => s.sampleTemp q (quadReading l q)
  let s := s.forAll (quadPairs.zip (List.range 4)) fun s x =>
    let d := quadReading l x.1.1 - quadReading l x.1.2
    if 200 < d ∨ d < -200 then s.eventBit F.CLK_STATUS_THERM_GRADIENT 0 x.2 0 else s
  s.when s.up fun s => s.forAll (List.range 4) fun s q => s.gradient l q

/-- Some quadrant or stack reads 115 °C or more. -/
def State.tooHot (s : State) : Bool :=
  (List.range 4).any (fun q => decide (920 ≤ s.getInt F.HUM_TEMP_TJ q)) || (List.range 2).any fun d => decide (115 ≤ s.getInt F.DRC_STATUS_TEMP d)

/-- THERM_TRIP_N is asserted until a cold reset (R549). -/
def State.thermTrip (s : State) : State := { s with pins := { s.pins with thermTrip := true } }.hummockLimit

/-! ## The commands -/

/-- REFCLK_LOSS (R102). -/
def execRefclkLoss (s : State) : Host.Outcome State Fault Refusal := .next (s.when (s.hummockUp && s.pins.refclk) State.refclkLoss)

/-- HOLDOVER_EXPIRY (R103); REFCLK back in time wins (R127). -/
def execHoldoverExpiry (s : State) : Host.Outcome State Fault Refusal :=
  .next (s.when (s.hummockUp && s.on F.CLK_STATUS_HOLDOVER 0 && !s.pins.refclk && !s.clocks.heldOff) State.holdoverExpiry)

/-- CLOCK_RELOCK (R103). -/
def execClockRelock (s : State) : Host.Outcome State Fault Refusal :=
  .next (s.when (s.hummockUp && s.on F.CLK_STATUS_HOLDOVER 0 && s.pins.refclk) State.clockRelock)

/-- THERMAL_SAMPLE: sixteen readings in 0.125 °C (R101). -/
def execThermalSample (l : List Int) (s : State) : Host.Outcome State Fault Refusal :=
  .next (s.when (s.hummockUp && l.length == 16) fun s => (s.thermalSample l).changeStep)

/-- RAIL_SKEW (R125). -/
def execRailSkew (pair : Nat) (s : State) : Host.Outcome State Fault Refusal :=
  .next (s.when (s.hummockUp && decide (pair < 4)) fun s => (s.eventBit F.CLK_STATUS_RAIL_SKEW 0 pair 0).report 0x001 kLimit 0x04 0 pair)

/-- THERM_TRIP (R549). -/
def execThermTrip (s : State) : Host.Outcome State Fault Refusal :=
  .next (s.when (s.hummockUp && s.tooHot && !s.pins.thermTrip) State.thermTrip)

/-- CLK_QCTRL_WRITE (R106). -/
def execClkQctrlWrite (q v : Nat) (s : State) : Host.Outcome State Fault Refusal :=
  .next (s.when (s.quadThere q && decide (q < 4)) fun s => (s.qctrlWrite q v).changeStep)

/-- VID_SETTLE_EXPIRY (R105). -/
def execVidSettleExpiry (q : Nat) (s : State) : Host.Outcome State Fault Refusal :=
  .next (s.when (s.quadThere q) fun s => s.vidSettled q)

end Sys2Proof.Machine
end

