-- ==== Sys2Proof/Machine/Sleep.lean ====
section
/-! DEFINITION. Tile sleep, wake sources, Glow-worm, Caddis sleep and the device states but hibernate (R107 to R119, R122, R144, Table 4.6). -/

namespace Sys2Proof.Machine

/-! ## Idle and eligible tiles (R108, R110, R111, R119) -/

/-- The ports that a tile's pipeline serves, the host port of a tile 8h among them (R24, R29). -/
def State.portsServed (s : State) (t : Nat) : List Nat := s.portsOf t ++ if t % 8 = 0 then [512 + t / 8] else []

/-- A tile is idle (R108). -/
def State.tileIdle (s : State) (t : Nat) : Bool :=
  let ps := s.portsServed t
  let f := s.farm t
  (ps.all fun p => (queuesOf p).all fun gq => (s.queue gq).isEmpty) &&
    (s.path.staging.all fun e => !ps.contains e.1 || e.2.isEmpty) && f.heads.isEmpty && f.entries.isEmpty &&
    (ps.all fun p => (s.live p).rewriting.isEmpty) && (s.tsfRecords t).isEmpty

/-- Time until the segment in force ends. -/
def GateList.untilChange (l : GateList) (now : Nat) : Nat :=
  let pos := l.position now
  ((l.segments.map (·.1)).filter fun x => pos < x).foldl (fun m x => min m (x - pos)) (l.cycle - pos)

/-- Nanoseconds to the next change of a gate, none where none comes. -/
def Gate.nextChange (g : Gate) (now : Nat) : Option Nat :=
  let start := (g.pending.filter fun l => decide (now < l.start)).map fun l => l.start - now
  let seg := (g.inForce now).map fun l => l.untilChange now
  match start, seg with
  | some a, some b => some (min a b)
  | some a, none => some a
  | none, b => b

/-- A gate of the tile changes within a number of nanoseconds. -/
def State.gateWithin (s : State) (t ns : Nat) : Bool :=
  (s.portsOf t ++ List.range' (512 + 16 * t) 16).any fun k => ((s.gate k).nextChange s.nowNs).any fun d => decide (d ≤ ns)

/-- A link hold of the tile expires within a number of nanoseconds (R111). -/
def State.holdWithin (s : State) (t ns : Nat) : Bool :=
  (s.portsOf t).any fun p => s.on F.PRT_STATUS_HOLD p && decide ((s.live p).holdUntil ≤ s.elapsed + nsUnits ns)

/-- A timer event of the tile, a gate's change or a hold's expiry, is at most so many nanoseconds away (R111). -/
def State.timerWithin (s : State) (t ns : Nat) : Bool := s.gateWithin t ns || s.holdWithin t ns

/-- A port of the tile belongs to a Causeway group that is a ring member (R110). -/
def State.ringTile (s : State) (t : Nat) : Bool := (s.portsOf t).any fun p => (s.ringGroup p).isSome

/-- Ports that a payload of an exact-match table names: an FDB destination and learning port, the RPF port of a group, the input port of a MODE 0 stream or of a merge binding (Table 8.2, R210). -/
def payloadPorts (c : TableCfg) (b : Nat) : List Nat :=
  match c.kind, c.wide with
  | .fdb, _ => (if bits b 50 2 = 0 then [bits b 34 16] else []) ++ if bitOf b 33 then [bits b 23 10] else []
  | .sg, true => if bitOf b 59 then [bits b 60 10] else []
  | .sg, false => if bitOf b 11 then [bits b 12 10] else []
  | .streamId, true => if bits b 222 2 = 0 then [bits b 212 10] else []
  | .streamId, false => if bits b 110 2 = 0 then [bits b 100 10] else []
  | .merge, _ => [bits b 86 10]
  | .hostRoute, _ => []
  | .meter, _ => []

/-- Ports that the IN_PORT of an ACL or stream-filter key lets match, none where its mask is empty (Table 9.1; DEDUCED, log 65). -/
def keyPorts (r : TcamRow) : List Nat :=
  let at_ := if r.wide then 307 else 147
  let m := bits r.mask at_ 10
  if m = 0 then [] else (List.range 516).filter fun p => (p ^^^ bits r.value at_ 10) &&& m == 0

/-- Ports that a TCAM row names: the port of an ACL action, the input port of an ACL or stream-filter key (Tables 9.1 and 9.2). -/
def rowPorts (kind : RegionKind) (r : TcamRow) : List Nat :=
  match kind with
  | .lpm => []
  | .stream => keyPorts r
  | .acl => keyPorts r ++ if bits r.action 61 3 = 5 then [bits r.action 41 20] else []

/-- Ports that an object names in its own bits (R243, Tables 9.4 and 11.2). -/
def objectPorts (kind v : Nat) : List Nat :=
  if kind = 0 then (if bits v 62 2 = 0 then [bits v 52 10] else [])
  else if kind = 2 then (Config.lagObject v).2.take (Config.lagObject v).1
  else if kind = 4 then [bits v 54 10]
  else []

/-- Ports that the entry of a change names, as it stands and as the change leaves it. -/
def State.changePorts (s : State) (x : CutChange) : List Nat :=
  if x.opcode ≤ oEmRead then
    (SMap.find s.layers.tables x.space).elim [] fun c =>
      payloadPorts c x.body ++ ((s.emFind x.space c (keyOf c x.body)).bind (s.emAt c.wide)).elim [] fun e => payloadPorts c e.payload
  else if x.opcode = oObjWrite then objectPorts x.space x.body ++ objectPorts x.space (s.obj x.space x.index)
  else
    let k := s.regionKind x.quad x.space
    (if x.opcode = oTcDelete then [] else rowPorts k (tcEntry x.body)) ++
      (s.changeRows x).flatMap fun r => (s.row r.1 r.2).elim [] (rowPorts k)

/-- A timed cut is armed on an entry that names a port of the tile (R110). -/
def State.cutArmedOn (s : State) (t : Nat) : Bool :=
  s.tue.cuts.any fun c => c.2.state == 2 && c.2.changes.any fun x => (s.changePorts x).any fun p => decide (tileOf p = t)

/-- The conditions of R110 and TORPOR_OK hold. -/
def State.torporAllowed (s : State) (t : Nat) : Bool :=
  !s.ringTile t && !s.cutArmedOn t &&
    (s.portsOf t).all fun p => s.on F.PWQ_PORT_SLEEP_TORPOR_OK p && ((s.gate p).inForce s.nowNs).isNone

/-! ## Entries and wakes (R107 to R113, R119) -/

def State.tileSleep (s : State) (t : Nat) : TileSleep := SMap.findD s.clocks.tiles t default

/-- Change the sleep of a tile. -/
def State.withSleep (s : State) (t : Nat) (x : TileSleep) : State := { s with clocks := { s.clocks with tiles := SMap.put s.clocks.tiles t x } }

/-- In standby the other ports of a dozing ring tile go dark (R119). -/
def State.darkenRing (s : State) (t : Nat) : State := s.linksDown ((s.portsOf t).filter s.lanesOff)

/-- DOZE_IDLE has passed (R107, R111). -/
def State.dozeEntry (s : State) (t : Nat) : State :=
  if s.sleepOf t = 0 ∧ (s.tileSleep t).waking = none ∧ s.tileIdle t = true ∧ s.on F.PWQ_TILE_SLEEP_DOZE_IDLE t = true ∧
      (s.portsOf t).all (fun p => !s.on F.PWQ_PORT_SLEEP_NO_DOZE p) = true ∧ s.timerWithin t 2000 = false then
    ((s.set F.PWQ_TILE_SLEEP_STATE t 1).darkenRing t).swapAdvance
  else s

/-- In standby DOZE_IDLE is enough, but not for a tile that has woken during it (R119). -/
def State.standbyEntry (s : State) (t : Nat) : Bool := s.get F.HUM_DEVICE_STATE_STATE 0 == 2 && !s.clocks.woken.contains t

/-- TORPOR_IDLE has passed, or DOZE_IDLE in standby (R107, R110, R119). -/
def State.torporEntry (s : State) (t : Nat) : State :=
  if s.sleepOf t ≤ 1 ∧ (s.tileSleep t).waking = none ∧ s.tileIdle t = true ∧ s.torporAllowed t = true ∧
      (s.on F.PWQ_TILE_SLEEP_TORPOR_IDLE t || s.standbyEntry t) = true then
    (s.set F.PWQ_TILE_SLEEP_STATE t 3).swapAdvance
  else s

/-- The entry completes: SerDes, lanes and lasers are off, the links are down and the replica of the timebase stops (R107, R339). It is here, and not as the entry begins, that R133 takes the links down (DESIGN CHOICE, log 65). -/
def State.torporEntered (s : State) (t : Nat) : State :=
  if s.sleepOf t = 3 ∧ (s.tileSleep t).waking = none then
    let s := (s.set F.PWQ_TILE_SLEEP_STATE t 2).linksDown (s.portsOf t)
    { s with time := { s.time with unaligned := t :: s.time.unaligned.filter (· != t) } }
  else s

/-- A source wakes the tile from its state (Table 4.4, R112); a dozing ring tile's dark ports may be roused too (R119). -/
def State.sourceWakes (s : State) (t src : Nat) : Bool :=
  let st := s.sleepOf t
  let dozeOnly := src == 1 || src == 6 || (src == 7 && s.layers.time.tsfShare.any fun e => e.1 / 16 == t && e.2 != 0)
  let glow := src == 3 || src == 4
  if st = 1 then dozeOnly || src == 2 || src == 5 || src == 8 || (glow && (s.portsOf t).any s.lanesOff)
  else if st = 2 then src == 2 || src == 5 || src == 8 || glow
  else if st = 3 then dozeOnly || src == 2 || src == 5 || src == 8 || glow
  else false

/-- Wake sources arrive together: one wake, recorded by its lowest code (R113). A wake that reverses an entry to torpor counts as leaving torpor (R144; DESIGN CHOICE, log 66). -/
def State.wake (s : State) (t : Nat) (sources : List Nat) : State :=
  match sources.filter (s.sourceWakes t) with
  | [] => s
  | x :: xs =>
    if (s.tileSleep t).waking.isSome then s
    else
      let low := xs.foldl min x
      (s.withSleep t { waking := some low, fromTorpor := decide (2 ≤ s.sleepOf t) }).set F.PWQ_TILE_SLEEP_LAST_WAKE t low

/-- The wake completes, from torpor once the replica has aligned at a beacon: layers are taken, ports that are down start a hold and may rouse their partners (R57, R116, R144, R339, R385). -/
def State.tileAwake (s : State) (t : Nat) : State :=
  let x := s.tileSleep t
  if x.waking = none ∨ (x.fromTorpor ∧ s.pins.refclk = false) ∨ s.time.unaligned.contains t = true then s
  else
    let slept := s.quadAsleep (t / 8)
    let woken := if s.get F.HUM_DEVICE_STATE_STATE 0 = 2 ∧ s.clocks.woken.contains t = false then t :: s.clocks.woken else s.clocks.woken
    let s := { s with clocks := { s.clocks with tiles := SMap.del s.clocks.tiles t, woken := woken } }
    let s := s.set F.PWQ_TILE_SLEEP_STATE t 0
    let s := if slept then { s with path := { s.path with gaps := SMap.put s.path.gaps (t / 8) s.nowNs } } else s
    let s := s.takeLayers t
    let down := if x.fromTorpor then (s.portsOf t).filter fun p => !s.on F.PRT_STATUS_LINK_UP p else []
    let s := s.forAll down State.startHold
    let rouse := down.filter fun p => s.on F.PWQ_PORT_SLEEP_ROUSE_TX p && s.on F.PRT_CFG_ADMIN_UP p && !s.clocks.rouse.contains p
    { s with clocks := { s.clocks with rouse := s.clocks.rouse ++ rouse } }.changeStep

/-- A Glow-worm detector reports on a lane of a configured port that is not held down; VDD_SRD feeds it (R28, R69, R115, R135). -/
def State.glowworm (s : State) (lane src : Nat) : State :=
  match s.portOfLane lane with
  | none => s
  | some c => if s.railMissing 4 = false ∧ s.on F.PRT_CFG_ADMIN_UP c.lane ∧ (src = 3 ∨ s.on F.PWQ_PORT_SLEEP_DARK_WAKE c.lane) then s.wake (lane / 16) [src] else s

/-- One period that a lane's detector has seen, on or off with its length in ns: the count of on-periods, and whether the rouse pattern is recognised (R115). -/
def rousePeriod (n : Nat) (x : Bool × Nat) : Nat × Bool :=
  if x.2 < 800 ∨ 1200 < x.2 then (0, false)
  else if x.1 then (n + 1, false)
  else if n = 16 then (0, true)
  else (n, false)

/-- Periods in order: the count left, and whether the pattern has been recognised among them. -/
def rouseDetect (n : Nat) (l : List (Bool × Nat)) : Nat × Bool :=
  l.foldl (fun r x => ((rousePeriod r.1 x).1, r.2 || (rousePeriod r.1 x).2)) (n, false)

/-- Light after dark is recognised: at least 100 µs of dark, then light for 10 µs without a break (R115). -/
def darkToLight (x : LightEdge) : Bool := decide (100000 ≤ x.darkNs) && decide (10000 ≤ x.lightNs)

/-- The detector of a lane has power: VDD_SRD is there, and the lane's port is not held down (R28, R69, R135). -/
def State.glowPowered (s : State) (lane : Nat) : Bool := !s.railMissing 4 && (s.portOfLane lane).any fun c => s.on F.PRT_CFG_ADMIN_UP c.lane

/-- A lane's rouse detector, if it has power, sees periods of light and dark; whether it recognises the pattern. -/
def State.rouseSeen (s : State) (x : RousePattern) : Bool × State :=
  let r := if s.glowPowered x.lane = false then (0, false) else rouseDetect (SMap.findD s.clocks.glow x.lane 0) x.periods
  (r.2, { s with clocks := { s.clocks with glow := if r.1 = 0 then SMap.del s.clocks.glow x.lane else SMap.put s.clocks.glow x.lane r.1 } })

/-- The rouse pattern leaves once, from a port whose link is still down and that has light (R69, R77, R116, R135, R170). -/
def State.rouseTx (s : State) (p : Nat) : State :=
  if s.clocks.rouse.contains p = false then s
  else
    let s := { s with clocks := { s.clocks with rouse := s.clocks.rouse.erase p } }
    if s.on F.PRT_STATUS_LINK_UP p || s.portDark p || ((s.port p).elim [] PortCfg.lanes).all (fun l => !s.laneLight l) then s else { s with out := { s.out with rouse := p :: s.out.rouse } }

/-! ## Caddis (R117) -/

/-- A firmware timer is due within 1 ms: the period of a stack's training (R117, R463). -/
def State.timerSoon (s : State) : Bool :=
  (List.range 2).any fun d => s.trained d && s.on F.DRC_CFG_TRAIN_PERIOD_S d &&
    decide ((s.stack d).since + nsUnits (10 ^ 9 * s.get F.DRC_CFG_TRAIN_PERIOD_S d) ≤ s.elapsed + nsUnits 1000000)

/-- No mailbox command is pending and no firmware timer is due within 1 ms (R117). -/
def State.caddisIdle (s : State) : Bool := s.mailOwed == 0 && !s.on F.FWM_STATUS_SLOT_BUSY 0 && !s.timerSoon

/-! ## SLEEP_POLICY (R118, R119, R122, Table 4.6) -/

/-- The device takes a state that runs: sleeping tiles are woken when standby ends, then points follow. -/
def State.policy (s : State) (tag target : Nat) : State :=
  let leaving := s.get F.HUM_DEVICE_STATE_STATE 0 == 2 && target != 2
  let asleep := if leaving then (List.range 32).filter fun t => s.sleepOf t != 0 && s.quadThere (t / 8) && !s.isFenced (srcTile t 0) 0 else []
  let s := s.set F.HUM_DEVICE_STATE_STATE 0 target
  let s := { s with clocks := { s.clocks with caddisAsleep := false, woken := [] } }
  let s := s.forAll asleep fun s t => s.wake t [8]
  let s := if target = 2 then s.forAll (List.range 32) State.darkenRing else s
  { s with clocks := { s.clocks with change := some (tag, asleep) } }.changeStep

/-! ## The commands -/

/-- TILE_DOZE_ENTRY (R112). -/
def execTileDozeEntry (t : Nat) (s : State) : Host.Outcome State Fault Refusal :=
  .next (s.when (s.tileUp t && decide (t < 32)) fun s => s.dozeEntry t)

/-- TILE_TORPOR_ENTRY (R112). -/
def execTileTorporEntry (t : Nat) (s : State) : Host.Outcome State Fault Refusal :=
  .next (s.when (s.tileUp t && decide (t < 32)) fun s => s.torporEntry t)

/-- TORPOR_ENTERED (R112). -/
def execTorporEntered (t : Nat) (s : State) : Host.Outcome State Fault Refusal :=
  .next (s.when (s.quadUp (t / 8) && decide (t < 32)) fun s => s.torporEntered t)

/-- TILE_WAKE (R113). -/
def execTileWake (t : Nat) (sources : List Nat) (s : State) : Host.Outcome State Fault Refusal :=
  .next (s.when (s.quadUp (t / 8) && decide (t < 32)) fun s => s.wake t sources)

/-- TILE_AWAKE (R144, R339). -/
def execTileAwake (t : Nat) (s : State) : Host.Outcome State Fault Refusal :=
  .next (s.when (s.quadUp (t / 8) && decide (t < 32)) fun s => s.tileAwake t)

/-- TIMER_PREWAKE (R111). -/
def execTimerPrewake (t : Nat) (s : State) : Host.Outcome State Fault Refusal :=
  .next (s.when (s.quadUp (t / 8) && decide (t < 32) && s.sleepOf t == 1 && s.timerWithin t 1000) fun s => s.wake t [6])

/-- ROUSE_DETECT (R115). -/
def execRouseDetect (x : RousePattern) (s : State) : Host.Outcome State Fault Refusal :=
  .next (s.when (s.quadUp (x.lane / 128) && decide (x.lane < 512)) fun s =>
    let r := s.rouseSeen x
    r.2.when r.1 fun s => s.glowworm x.lane 3)

/-- DARK_TO_LIGHT (R115). -/
def execDarkToLight (x : LightEdge) (s : State) : Host.Outcome State Fault Refusal :=
  .next (s.when (s.quadUp (x.lane / 128) && decide (x.lane < 512) && darkToLight x) fun s => s.glowworm x.lane 4)

/-- ROUSE_TX (R116). -/
def execRouseTx (p : Nat) (s : State) : Host.Outcome State Fault Refusal := .next (s.when s.up fun s => s.rouseTx p)

/-- CADDIS_SLEEP (R117). -/
def execCaddisSleep (s : State) : Host.Outcome State Fault Refusal :=
  .next (s.when (s.up && s.caddisIdle) fun s => { s with clocks := { s.clocks with caddisAsleep := true } })

/-- CADDIS_WAKE (R117). -/
def execCaddisWake (s : State) : Host.Outcome State Fault Refusal :=
  .next (s.when s.hummockUp State.caddisRestart)

/-- SLEEP_POLICY full (R118). -/
def execSleepPolicyFull (tag : Nat) (s : State) : Host.Outcome State Fault Refusal := .next (s.mailRun 12 tag [0] fun s => s.policy tag 0)

/-- SLEEP_POLICY lean (R118). -/
def execSleepPolicyLean (tag : Nat) (s : State) : Host.Outcome State Fault Refusal := .next (s.mailRun 12 tag [1] fun s => s.policy tag 1)

/-- SLEEP_POLICY standby (R119). -/
def execSleepPolicyStandby (tag : Nat) (s : State) : Host.Outcome State Fault Refusal := .next (s.mailRun 12 tag [2] fun s => s.policy tag 2)

end Sys2Proof.Machine
end

