-- ==== Sys2Proof/Machine/Boot.lean ====
section
/-! DEFINITION. Power, boot, the resets, patches and hibernate (R65 to R87, R98 to R100, R120, R121, R426, R427, R446, R542, R560, R565, R568). -/

namespace Sys2Proof.Machine

/-! ## What a reset keeps in the registers (Table 3.4, R100, R333, R534, R560) -/

/-- A field that a warm or shallower reset keeps: sticky bits, captures, the Hummock's state. -/
def keptField (r : Reg) (f : Field) : Bool :=
  let b := r.base
  decide (0x10000 ≤ b ∧ b < 0x20000) ||
    (b == R.CLK_STATUS.base && f.id != F.CLK_STATUS_GRADIENT_ACTIVE.id) ||
    [R.NVM_STATUS.base, R.NVM_WCOUNT.base, R.TOP_RESET_CAUSE.base, R.PTL_CLAIM_ERR.base, R.FLT_STATUS.base, R.FLT_LOG_STAT.base,
      R.BUF_FOREIGN_FREE.base, R.BUF_SEXTON_LAST.base, R.TIM_RATE.base].contains b ||
    (decide (0x80000 ≤ b ∧ b < 0x90000) && f.access == .ro) ||
    [F.TOP_CAPACITY_CAPACITY.id, F.TOP_CAPACITY_BELOW_FLOOR.id, F.TOP_BOOT_RAIL_MISSING.id, F.CSW_STATUS_STATE.id, F.CSW_STATUS_CLOSE_CAUSE.id, F.CSW_STATUS_CHANGES.id,
      F.DRC_EVENT_RETRAIN_DUE.id, F.TOP_FENCE_COUNT.id].contains f.id ||
    (f.access == .w1c && !([R.PTL_SWAP.base, R.HST_INT_CAUSE.base, R.DRC_TELEM_EXPORT_CTRL.base, R.ELY_SLOT_STATUS.base].contains b))

/-- Numbers of the fields that a warm reset keeps. -/
def keptFields : List Nat := allRegs.flatMap fun r => (r.fields.filter (keptField r)).map (·.id)

/-- Status of a tile that its own reset does not touch: its sleep and its laser inputs; its engine stays calibrated only while it is not reset (R114, R171, Table 3.4). -/
def unitFields : List Nat :=
  [F.PWQ_TILE_SLEEP_STATE, F.PWQ_TILE_SLEEP_LAST_WAKE, F.OPT_STATUS_CALIBRATING, F.OPT_STATUS_LASER_OK,
    F.OPT_LASER_PWR_PWR, F.OPT_LASER_PWR_PWR_MIN].map (·.id)

/-- BAR0 offset of a stored field. -/
def keyOffset (k : Nat) : Nat :=
  (allRegs.find? fun r => r.fields.any fun f => f.id % 1024 == k % 1024).elim 0 fun r => r.offset (k / 1024)

/-- Stored fields keep their values only where a test says so. -/
def State.keepRegs (s : State) (keep : Nat → Bool) : State := { s with regs := SMap.drop s.regs fun k => !keep k }

/-- Registers of a unit return to their reset values (R560). -/
def State.wipeUnit (s : State) (region : Nat → Bool) : State :=
  s.keepRegs fun k => keptFields.contains (k % 1024) || unitFields.contains (k % 1024) || !region (keyOffset k)

/-! ## What a reset clears elsewhere -/

/-- An NVM command that a reset or a loss of power cuts off: how many lines it had written is a free value (R90). -/
def State.nvmAbort (s : State) : State :=
  match s.nvmJob with
  | some (.store _ _ _ lines) =>
    let d := s.draw
    d.2.nvmCut (d.1 % (lines.length + 1))
  | _ => s.nvmCut 0

/-- The frame path, empty. -/
def State.wipePath (s : State) : State :=
  { s with path := { State.reset.path with ids := s.path.ids, dequeues := s.path.dequeues } }

/-- A tile or a DRC, which returns to service by a reset of its own alone (R496, Table 19.5). -/
def ownReset (src : Nat) : Bool := src == 0x10 || src == 0x11 || (decide (0x100 ≤ src) && src % 16 == 0)

/-- A field of a stack whose freeze goes on: what is held for diagnosis (R466, R468). -/
def State.frozenField (s : State) (k : Nat) : Bool :=
  [F.DRC_STATUS_STATE, F.DRC_FREEZE_0_CAUSE, F.DRC_FREEZE_0_PC, F.DRC_FREEZE_0_CMD, F.DRC_FREEZE_1_ADDR, F.DRC_FREEZE_1_NS].any fun f => f.id % 1024 == k % 1024 && s.get F.DRC_STATUS_STATE (k / 1024) == 5

/-- Everything beside the registers that a warm reset clears; the Hummock, the timebase and the PCI Express configuration stay (Table 3.4, R84, R100, R446, R523), and so do a freeze and the fence of a tile or a DRC, under way or complete (R468, R496). -/
def State.wipeWarm (s : State) : State :=
  let s := s.nvmAbort.wipePath
  { s with
    swap := none
    handover := State.reset.handover
    boot := { s.boot with patch := none, param := [], inReset := [] }
    sundew := { s.sundew with
      reacting := s.sundew.reacting.filter fun r => ownReset r.1 && s.sundew.fencing.contains r
      fencing := s.sundew.fencing.filter fun r => ownReset r.1
      fenced := s.sundew.fenced.filter fun r => ownReset r.1 }
    host := { s.host with rings := [], msixPending := [], taken := [], resp := [], lastTx := [] }
    clocks := { State.reset.clocks with heldOff := s.clocks.heldOff }
    optics := { s.optics with cal := [], opening := [] }
    time := { s.time with unaligned := [], ppsFrom := none, ppsOld := State.reset.time.ppsOld, ppsLate := none, todDue := none }
    exm := State.reset.exm
    tcam := State.reset.tcam
    tables := State.reset.tables
    gates := []
    keys := []
    drams := s.drams.filter fun e => s.get F.DRC_STATUS_STATE e.1 == 5
    tue := State.reset.tue
    probes := [] }.keepRegs fun k => keptFields.contains (k % 1024) || s.frozenField k

/-- The whole module after a cold reset or a loss of power: what remains is the NVM, what the Hummock reads from it, the lands and the model's own records (Table 3.4, R80, R500, R542). -/
def State.wipeCold (s : State) : State :=
  let s := s.nvmAbort
  let r := State.reset
  { r with
    variant := s.variant
    elapsed := s.elapsed
    freeCtr := s.freeCtr
    nvm := s.nvm
    nvmCount := s.nvmCount
    pins := { s.pins with porLow := true, thermTrip := false, hostAllowed := !s.pins.perstLow, lastEdge := [] }
    sundew := { r.sundew with seq := s.sundew.seq, line := s.sundew.line }
    out := s.out
    pending := s.pending }

/-! ## Patches (R74, R75, R426, R427) -/

def patchOk : Nat := 0
def patchEmpty : Nat := 1
def patchSig : Nat := 2
def patchPart : Nat := 3
def patchVersion : Nat := 4
def patchAuth : Nat := 5
def patchNofit : Nat := 6

/-- The checks of R74 on one slot, 0 A and 1 B: a code, and of a good patch its version and plaintext. The GCM key is the family's, the nonce IV, the additional data bytes 0x00 to 0x13, and the tag TAG (R426, R427). -/
def State.patchCheck (s : State) (slot : Nat) : Nat × Option (Nat × List Byte) :=
  let a := (nvmRegion (2 + slot)).1
  let h := Mem.readList s.nvm a 0x100
  let n := be h 0x10 4
  if be h 0 4 ≠ 0x4A515043 then (patchEmpty, none)
  else if within 8 1048320 n = false then (patchSig, none)
  else
    let body := Mem.readList s.nvm (a + 0x100) n
    if Config.patchSigOk (slice h 0x40 96 ++ h.take 0x40 ++ body) = false then (patchSig, none)
    else if be h 6 2 ≠ 0x1024 then (patchPart, none)
    else if be h 8 4 ≠ s.get F.TOP_ID_ROM_VERSION 0 then (patchVersion, none)
    else
      match Config.gcmOpen Config.patchKey (slice h 0x14 12) (h.take 0x14) (body ++ slice h 0x20 16) with
      | none => (patchAuth, none)
      | some p => (patchOk, some (be h 0x0C 4, fit n p))

/-- Every word of a patch lies within the patch region of every cluster (R427). -/
def Layers.patchFits (l : Layers) (p : List Byte) : Bool :=
  let most := ((sectionsOf p).map fun x => if x.kind = 1 then x.addr + x.entries.length else 0).foldl max 0
  (List.range 192).all fun c => (l.patchRegion c).any fun r => decide (most ≤ r.2)

/-- One section as RWE_RECIPE shows it: jump words and step counts of recipes. -/
def State.installSection (s : State) (t : Nat) (x : PatchSection) : State :=
  s.forAll x.entries fun s e =>
    let i := 256 * t + be e 0 1
    if x.kind = 2 then
      let base := (s.layers.patchRegion (6 * t)).elim 0 (·.1)
      (s.set F.RWE_RECIPE_PATCHED i 1).set F.RWE_RECIPE_ENTRY i (base + be e 2 2)
    else if x.kind = 3 then ((s.set F.RWE_RECIPE_LOADED i 1).set F.RWE_RECIPE_STEPS i (be e 1 1)).set F.RWE_RECIPE_GROW i (be e 2 1)
    else s

/-- The verified patch is installed in a tile (R75). -/
def State.installPatch (s : State) (t : Nat) : State :=
  match s.boot.patch with
  | none => s
  | some (_, _, p) => (s.forAll (sectionsOf p) fun s x => s.installSection t x).set F.RWE_STATUS_PATCHED t 1

/-- Step 3: the first slot that verifies is loaded (R74). With no patch the code is that of the last slot that holds one. -/
def State.patchStep (s : State) : State :=
  let a := s.patchCheck 0
  let b := s.patchCheck 1
  match a.2, b.2 with
  | some p, _ => { s with boot := { s.boot with patch := some (0, p) } }.set F.TOP_BOOT_PATCH_RESULT 0 patchOk
  | none, some p => { s with boot := { s.boot with patch := some (1, p) } }.set F.TOP_BOOT_PATCH_RESULT 0 patchOk
  | none, none => s.set F.TOP_BOOT_PATCH_RESULT 0 (if b.1 = patchEmpty then a.1 else b.1)

/-- A patch that does not fit the running image is not installed (PATCH_NOFIT). -/
def State.patchFitStep (s : State) : State :=
  match s.boot.patch with
  | none => s
  | some (_, _, p) =>
    if s.layers.patchFits p then s else { s with boot := { s.boot with patch := none } }.set F.TOP_BOOT_PATCH_RESULT 0 patchNofit

/-! ## The image at boot (R50, R51, R72) -/

/-- An image becomes the running image. -/
def State.runImage (s : State) (i : Image) : State :=
  let s := { s with image := i }
  let s := (s.set F.PTL_STATUS_ACTIVE 0 (match i.source with | .slotA => 0 | .slotB => 1 | .bare => 2)).set F.PTL_ACTIVE_SERIAL_SERIAL 0 i.serial
  s.forAll ((List.range 4).filter fun q => !bitOf (s.get F.TOP_BOOT_RAIL_MISSING 0) q) fun s q => s.drive q (s.get F.CLK_QCTRL_ACTUAL q)

/-- The slots in order, then the bare image, which always validates (R51, R72). -/
def State.trySlots (s : State) : List Nat → State
  | [] => (s.set F.PTL_STATUS_LAST_RESULT 0 peatOk).runImage bareImage
  | slot :: rest =>
    let v := s.validate slot
    let s := s.verdict slot v
    match v.image with
    | some i => s.runImage i
    | none => s.trySlots rest

/-- Step 4: a named slot first, then A, then B, each once (R72); no slot where step 2 has failed. -/
def State.imageStep (s : State) (named : Option Nat) : State :=
  (s.trySlots (if s.on F.NVM_STATUS_FAIL 0 then [] else (named.toList ++ [0, 1]).eraseDups)).recompute

/-! ## The other steps (Table 3.2) -/

/-- Halt at a step with a code (R79). -/
def State.halt (s : State) (step code : Nat) : State :=
  ((s.set F.TOP_BOOT_STEP 0 step).set F.TOP_BOOT_HALT 0 1).set F.TOP_BOOT_HALT_CODE 0 code

/-- A bank that fails its test is replaced by a spare, or with none left is out of service (Table 3.2, R231). -/
def State.bootBank (s : State) (bank : Nat) : State :=
  match (List.range 8).find? fun i => !s.on F.EXM_BANK_MAP_IN_USE i with
  | some i => (s.set F.EXM_BANK_MAP_IN_USE i 1).set F.EXM_BANK_MAP_BANK i bank
  | none =>
    ({ s with exm := { s.exm with out := bank :: s.exm.out } }.set F.TOP_CAPACITY_BANKS_OUT 0 (satAdd (s.get F.TOP_CAPACITY_BANKS_OUT 0) 1 15)).evC
      F.EXM_EVENT_SPARES_OUT 0

/-- Step 5 for one stack: without VDD_HBM or with failed training fenced, and out of service still where its fence, complete or under way, outlasts the reset (R496), without a share in self-refresh, else trained (R69, R76). The temperature of that training is a free value. -/
def State.trainStack (s : State) (d : Nat) (bad : Bool) : State :=
  if s.sundew.fencing.contains (drcSrc d, 0) then (s.set F.DRC_STATUS_FENCED d 1).drcOffline d
  else if s.railMissing 6 || s.isFenced (drcSrc d) 0 || (s.hasShare d && bad) then
    ((s.set F.DRC_STATUS_FENCED d 1).drcOffline d).fencedNow (drcSrc d) 0
  else if s.hasShare d = false then s.set F.DRC_STATUS_STATE d 3
  else
    let r := s.draw
    (r.2.withStack d fun x => { x with trainedAt := some ((r.1 % 256 : Nat) - 128), since := s.elapsed }).set F.DRC_STATUS_STATE d 2

/-- Step 6 for one engine: its laser inputs as found with the power that they measure, calibration where every fibre that lights a configured lane is lit and VDD_OPT is there (R69, R77, R169; log 70). -/
def State.opticsStep (s : State) (b : BootFindings) (e : Nat) : State :=
  let s := s.set F.OPT_STATUS_LASER_OK e 0
  let s := s.forAll ((List.range 2).filter fun f => b.lit.contains (2 * e + f)) fun s f => s.laserLit e f
  if s.on F.OPT_STATUS_LASER_OK e = false ∨ s.engineDark e = true then s
  else s.calibrated e ((b.badLanes.filter fun l => l / 16 == e).map (· % 16))

/-- Step 6 fenced lanes before PARAM gave NARROW_OK: the port narrows where it may after all (R137, Table 3.2). -/
def State.narrowStep (s : State) (p : Nat) : State :=
  match s.port p with
  | none => s
  | some c =>
    let out := c.lanes.filter fun l => bitOf (s.get F.OPT_STATUS_LANE_FENCED (p / 16)) (l % 16)
    let elytra := c.lanes.any fun l => s.isFenced (srcTile (p / 16) 3) (l % 16)
    if (s.live p).held && !elytra && !out.isEmpty && decide (2 ≤ c.width) && s.on F.PRT_CFG_NARROW_OK p && out.all (fun l => decide (p + c.width / 2 ≤ l)) then
      ((s.withLive p fun x => { x with held := false }).set F.PRT_STATUS_NARROWED p 1).evPrt F.PRT_EVENT_NARROWED p
    else s

/-- Units of a tile that failed their tests are fenced, and the tile itself where step 1 or step 7 failed, or its fence outlasts the reset (R496, Table 3.2). DEDUCED, log 35: the boot is no change of the PARSE layer (R198), so a parser engine that fails its test is replaced by a spare as one that is fenced later (R200). -/
def State.tileTests (s : State) (b : BootFindings) (t : Nat) : State :=
  let s := s.forAll (b.badParsers.filter fun x => x / 48 == t) fun s x => (s.engineLeaves t (x % 48)).fencedNow (srcTile t 4) (x % 48)
  let s := s.forAll (b.badClusters.filter fun x => x / 6 == t) fun s x => (s.clusterFence t (x % 6)).fencedNow (clusterSrc t (x % 6)) 0
  let s := s.forAll (b.badElytra.filter fun x => x / 16 == t) fun s x => (s.elytraFence t (x % 16)).fencedNow (srcTile t 3) (x % 16)
  if b.badTiles.contains t || s.isFenced (srcTile t 0) 0 then (s.tileFence t).fencedNow (srcTile t 0) 0 else s

/-- Step 7 for one tile: patch and findings. -/
def State.tileStep (s : State) (b : BootFindings) (t : Nat) : State := (s.installPatch t).tileTests b t

/-- The records that the overlay applies: HUM block records only at the boot after a cold reset (R98). -/
def State.overlayRecords (s : State) (l : List (Nat × Nat)) : List (Nat × Nat) :=
  if s.boot.cold then l else l.filter fun e => !(decide (0x10000 ≤ e.1) && decide (e.1 < 0x20000))

/-- Step 8: the PARAM overlay (R98). -/
def State.overlayStep (s : State) : State :=
  let s := ((s.set F.NVM_STATUS_PARAM_VALID 0 0).set F.NVM_STATUS_PARAM_SKIPPED 0 0).set F.NVM_STATUS_PARAM_SERIAL 0 0
  match (if s.on F.NVM_STATUS_FAIL 0 then none else s.paramChosen) with
  | none => s.set F.NVM_STATUS_PARAM_COPY 0 0
  | some (k, c) =>
    let s := ((s.set F.NVM_STATUS_PARAM_VALID 0 1).set F.NVM_STATUS_PARAM_COPY 0 k).set F.NVM_STATUS_PARAM_SERIAL 0 (b2n (c.serial != s.image.serial))
    ({ s with boot := { s.boot with param := c.records } }).overlay (s.overlayRecords c.records)

/-- The next boot follows no cold reset (R98). -/
def State.warmer (s : State) : State := { s with boot := { s.boot with cold := false } }

/-- Boot is complete: ports without a link start a hold, the device state's points are taken, forwarding is enabled (R71, R118, R568). -/
def State.bootDone (s : State) (ms : Nat) : State :=
  let on := s.set F.TOP_BOOT_READY 0 1
  let s := s.warmer
  let s := s.forAll (s.allPorts.filter fun p => on.quadUp (p / 128)) State.startHold
  let s := s.forAll ((List.range 4).filter on.quadUp) State.follow
  (((s.set F.TOP_BOOT_READY 0 1).set F.TOP_BOOT_STEP 0 9).set F.TOP_BOOT_BOOT_MS 0 (min 65535 ms)).recompute

/-- Step 2 reads the write counters: WEAR of a region at its rated endurance (R92, Table 3.2). -/
def State.wearStep (s : State) : State :=
  if (List.range 8).any fun r => decide (1000000000 ≤ SMap.findD s.nvmCount r 0) then s.set F.NVM_STATUS_WEAR 0 1 else s

/-- Boot steps 1 to 8 (R69, R71); Caddis answers a command that waits before READY (R73). -/
def State.boot8 (s : State) (b : BootFindings) (named : Option Nat) : State :=
  if bitOf (s.get F.TOP_BOOT_RAIL_MISSING 0) 0 then s.halt 0 3
  else if b.romOk = false then s.halt 1 1
  else if b.sramOk = false then s.halt 1 2
  else
    let s := s.when (s.on F.FWM_STATUS_SLOT_BUSY 0) State.mailCopy
    let s := ((s.set F.NVM_STATUS_FAIL 0 (b2n !b.nvmOk)).set F.TOP_ENTROPY_HEALTH_OK 0 1).wearStep
    let start := s
    let s := s.when b.nvmOk fun s => s.nvmSeen b.reads
    let s := s.when b.nvmOk State.patchStep
    let s := (s.imageStep named).patchFitStep
    let s := s.forAll b.badBanks.eraseDups State.bootBank
    let s := s.forAll (List.range 2) fun s d => s.trainStack d (b.badStacks.contains d)
    let s := s.forAll ((List.range 32).filter (optical s.variant)) fun s e => s.opticsStep b e
    let s := s.forAll (List.range 32) fun s t => s.tileStep b t
    let s := s.overlayStep.forAll s.allPorts State.narrowStep
    (s.nvmBack start).bootDone b.bootMs

/-! ## Cold and warm resets (R66, R70, R80, R82, R83, Table 3.4) -/

/-- Every group's bypass starts to close (R70). -/
def State.closeAll (s : State) (cause : Nat) : State := s.forAll (List.range 4) fun s g => s.groupClose g cause

/-- Bypasses that were closing are closed long before a boot ends (R70). -/
def State.closedAll (s : State) : State := s.forAll (List.range 4) State.bypassClosed

/-- A warm reset begins: its cause and count, bypasses, and all that it clears; every tile is in reset (R70, R80, R498). -/
def State.warmBegin (s : State) (cause : Option Nat) : State :=
  let s := (s.set F.TOP_BOOT_READY 0 0).recompute
  let s := match cause with
    | some c => s.set F.TOP_RESET_CAUSE_CAUSE 0 c
    | none => s
  (((s.count F.TOP_RESET_CAUSE_WARM_COUNT 0 1).closeAll 1).wipeWarm).warmer

/-- A warm reset from its request to READY. -/
def State.warmReset (s : State) (cause : Nat) (named : Option Nat) (b : BootFindings) : State :=
  ((s.warmBegin (some cause)).closedAll).boot8 b named

/-- POR_N is released: rails are sampled and boot starts, unless RESET_N or the TAP hold the module (R66, R69, R82). -/
def State.porRelease (s : State) (b : BootFindings) : State :=
  let s := { s with pins := { s.pins with porLow := false } }.set F.TOP_BOOT_RAIL_MISSING 0 b.railMissing
  if s.pins.held then s else s.boot8 b none

/-- RESET_N falls (R82); in hibernate nothing but the pin changes, for R121 names three ways out only. -/
def State.resetLow (s : State) : State :=
  let was := s.pins.held
  let t := { s with pins := { s.pins with resetLow := true } }
  if s.hummockUp && !was && s.get F.HUM_DEVICE_STATE_STATE 0 != 3 then t.warmBegin (some 1) else t

/-- RESET_N rises (R82). -/
def State.resetHigh (s : State) (b : BootFindings) : State :=
  let s := { s with pins := { s.pins with resetLow := false } }
  if s.hummockUp && !s.pins.held && s.get F.HUM_DEVICE_STATE_STATE 0 != 3 then s.closedAll.boot8 b none else s

/-! ## Quadrant, tile and DRC resets (R81, R83 to R86, R533, R560, R565)

A reset row puts its unit into reset: its frames are discarded, its state is cleared, and until it returns no access reaches its registers. The next tick ends the reset: PARAM, the bring-up and what it finds (DESIGN CHOICE, log 131). -/

/-- A unit goes into reset; a shallower reset that this one covers is abandoned (R83). -/
def State.enterReset (s : State) (u : ResetUnit) (b : BootFindings) : State :=
  let covered (x : ResetUnit) : Bool := match u, x with
    | .quadrant q, .tile t => t / 8 == q
    | _, _ => false
  { s with boot := { s.boot with inReset := s.boot.inReset.filter (fun x => !covered x.1) ++ [(u, b)] } }

/-- Frames of a tile are discarded as FENCED_UNIT, and its links go down (Table 3.4). -/
def State.tileFlush (s : State) (t : Nat) : State :=
  let s := s.forAll (s.portsOf t) fun s p => (s.dropPort p cFencedUnit fun _ _ => true).linkDown p
  let f := s.farm t
  let left := (s.portsServed t).flatMap fun p => SMap.findD s.path.staging p []
  s.forAll (f.heads ++ f.entries.map (·.frame) ++ left) fun s x => s.loseFrame x cFencedUnit

/-- The parts of the state outside the registers that belong to a tile are as after power-on, but for a fence of the tile that the reset does not lift; keys of its partitions are cleared (R446, R496). -/
def State.tileClear (s : State) (t : Nat) (lifts : Bool) : State :=
  let own (p : Nat) : Bool := p < 512 && p / 16 == t
  let served (p : Nat) : Bool := tileOf p == t
  let slot (n : Nat) : Bool := s.layers.secure.any fun x => x.tile == t && decide (x.first ≤ n) && decide (n < x.first + x.count)
  let s := { s with
    path := { s.path with
      staging := SMap.drop s.path.staging served
      farms := SMap.del s.path.farms t
      queues := SMap.drop s.path.queues fun gq => decide (gq < 24576) && own (gq / 48)
      tags := SMap.drop s.path.tags fun gq => decide (gq < 24576) && own (gq / 48)
      shapers := SMap.drop s.path.shapers fun k => own (k / 9)
      credits := SMap.drop s.path.credits fun k => own (k / 8)
      ports := SMap.drop s.path.ports own
      cluster := SMap.del s.path.cluster t
      tsf := SMap.del s.path.tsf t
      stamps := SMap.del s.path.stamps t
      waited := SMap.del s.path.waited t }
    clocks := { s.clocks with rouse := s.clocks.rouse.filter fun p => !own p }
    sundew := { s.sundew with
      reacting := s.sundew.reacting.filter fun r => !(decide (0x100 ≤ r.1) && (r.1 - 0x100) / 16 == t && (lifts || r.1 % 16 != 0))
      fencing := s.sundew.fencing.filter fun r => !(decide (0x100 ≤ r.1) && (r.1 - 0x100) / 16 == t && (lifts || r.1 % 16 != 0))
      fenced := s.sundew.fenced.filter fun r => !(decide (0x100 ≤ r.1) && (r.1 - 0x100) / 16 == t && (lifts || r.1 % 16 != 0)) }
    gates := SMap.drop s.gates fun k => if k < 512 then k / 16 == t else (k - 512) / 16 == t }
  let old := (s.keys.map (·.1)).filter slot
  let s := s.keepRegs fun k => !((slotOfReg' (k % 1024) (k / 1024)).any slot)
  { s with keys := s.keys.filter fun e => !old.contains e.1 }
where
  /-- The slot whose register holds a stored field. -/
  slotOfReg' (fid i : Nat) : Option Nat :=
    (allRegs.find? fun r => r.fields.any fun f => f.id % 1024 == fid).bind fun r => slotOfReg r i

/-- The replica of a tile has to align at a beacon (R81, R339). -/
def State.unaligns (s : State) (t : Nat) : State := { s with time := { s.time with unaligned := t :: s.time.unaligned.filter (· != t) } }

/-- Tile t returns: the running image's layers, the patch, PARAM, what its bring-up finds, and holds for its ports; its replica of the time aligns at the next beacon (R58, R75, R81, R99, R339, R568). -/
def State.tileReturn (s : State) (t : Nat) (b : BootFindings) : State :=
  let s := ((s.unaligns t).opticsReturn t).tileStep b t
  s.forAll (s.portsOf t) State.startHold

/-- Tile t enters reset (Table 3.4, R498). -/
def State.tileReset (s : State) (t : Nat) (b : BootFindings) : State :=
  let s := (s.enterReset (.tile t) b).recompute.tileFlush t
  let s := if t % 8 = 0 then (s.groupClose (t / 8) 1).bypassClosed (t / 8) else s
  (((s.takeLayers t).tileClear t true).wipeUnit (tileRegion t)).unaligns t

/-- The reset of a tile ends (R99). -/
def State.tileBack (s : State) (t : Nat) (b : BootFindings) : State := ((s.reoverlay (tileRegion t)).tileReturn t b).recompute

/-- The lowest-numbered quadrant in service but q. -/
def State.otherQuad (s : State) (q : Nat) : Option Nat := (List.range 4).find? fun k => k != q && s.quadUp k

/-- TUE refills the LPM and replicated regions of quadrant q from another quadrant; local regions are empty (R85). -/
def State.tcamRefill (s : State) (q : Nat) : State :=
  let mine (k : Nat) : Bool := k / 131072 == q
  let spaces := (List.range 17).filter fun x => s.regionQuads q x != [q]
  let shared (n : Nat) : Bool := spaces.any fun x => (s.regionRows q x).any fun r => decide (r.1 ≤ n ∧ n < r.1 + r.2)
  let copies := (s.otherQuad q).elim [] fun k => (s.tcam.rows.filter fun e => e.1 / 131072 == k && shared (e.1 % 131072)).map fun e => (e.1 % 131072, e.2)
  { s with tcam :=
    { rows := copies.foldl (fun m e => SMap.put m (rowKey q e.1) e.2) (SMap.drop s.tcam.rows mine)
      suspect := s.tcam.suspect.filter fun k => !mine k
      fenced := s.tcam.fenced.filter fun k => !mine k
      lost := s.tcam.lost.filter fun k => !mine k
      missing := s.tcam.missing.filter fun k => !mine k } }

/-- The free counts of a quadrant's regions follow its rows. -/
def State.tcamFrees (s : State) (q : Nat) : State := s.forAll (List.range 17) fun s x => s.tcmFree q x

/-- Frames queued for a quadrant, also those that still cross to it, are discarded as FENCED_UNIT; its pools start full, and ports whose frames they held look at their pause counters (R158, Table 3.4). -/
def State.quadFlush (s : State) (q : Nat) : State :=
  let s := s.forAll (List.range' (8 * q) 8) State.tileFlush
  let s := s.dropPort (512 + q) cFencedUnit fun _ _ => true
  let s := s.forAll (s.path.crossing.filter fun c => c.quadrant == q) fun s c => s.loseFrame c.frame cFencedUnit
  let held := ((s.path.bufs.filter fun e => handleQuad e.1 == q).map fun e => (e.2.frame.port, e.2.frame.cls)).eraseDups
  let s := s.forAll (s.path.delivering.filter fun e => queueQuad e.2.1 == q) fun s e => s.dropOut cFencedUnit (512 + q) (queueLocal e.2.1)
  let s := { s with path := { s.path with
      delivering := s.path.delivering.filter fun e => queueQuad e.2.1 != q
      crossing := s.path.crossing.filter fun c => c.quadrant != q
      dequeued := s.path.dequeued.filter fun gq => queueQuad gq != q
      bufs := SMap.drop s.path.bufs fun h => handleQuad h == q
      gaps := SMap.del s.path.gaps q } }
  s.forAll held fun s x => s.pauseCheck x.1 x.2

/-- BUF_DEEP_STAT.OFFLINE of a quadrant: a stack that it owns a share of is out of service (R329). -/
def State.deepStat (s : State) (q : Nat) : State :=
  s.set F.BUF_DEEP_STAT_OFFLINE q
    (b2n ((List.range 2).any fun k => bitOf (s.get F.TOP_CAPACITY_DEEP_OFFLINE 0) k && s.on F.DRC_SHARE_COUNT_MIB (5 * k + q)))

/-- Quadrant q enters reset; accepted commands on its own regions are aborted (Table 3.4, Table 10.5, R498, R565). -/
def State.quadReset (s : State) (q : Nat) (b : BootFindings) : State :=
  let tiles := List.range' (8 * q) 8
  let s := ((s.tueAbort q).enterReset (.quadrant q) b).recompute
  let s := ((s.quadFlush q).groupClose q 1).bypassClosed q
  let s := s.forAll tiles fun s t => (s.takeLayers t).tileClear t false
  let s := { s with
    tables := { s.tables with windows := SMap.drop s.tables.windows fun k => k % 4 == q }
    sundew := { s.sundew with
      reacting := s.sundew.reacting.filter fun r => r.1 != srcQuad q 0
      fencing := s.sundew.fencing.filter fun r => r.1 != srcQuad q 0
      fenced := s.sundew.fenced.filter fun r => r.1 != srcQuad q 0 } }
  (s.wipeUnit (quadRegion q)).forAll tiles State.unaligns

/-- The reset of a quadrant ends: its TCAM is refilled, a stack that is offline shows, PARAM and its tiles return (R85, R99, R329). -/
def State.quadBack (s : State) (q : Nat) (b : BootFindings) : State :=
  let s := (((s.tcamRefill q).tcamFrees q).deepStat q).reoverlay (quadRegion q)
  (s.forAll (List.range' (8 * q) 8) fun s t => s.tileReturn t b).recompute

/-- A stack's deep buffer serves again; OFFLINE clears in the quadrants with no other stack offline (R86, R329). -/
def State.drcOnline (s : State) (d : Nat) : State :=
  (s.clrBit F.TOP_CAPACITY_DEEP_OFFLINE 0 d).forAll (List.range 4) State.deepStat

/-- DRC d enters reset: its deep buffer is offline, what it held is discarded, STATE is resetting (Tables 3.4 and 17.3, R86, R468). -/
def State.drcReset (s : State) (d : Nat) (b : BootFindings) : State :=
  let s := (s.enterReset (.drc d) b).drcOffline d
  let src := drcSrc d
  let s := { s with
    drams := SMap.del s.drams d
    sundew := { s.sundew with
      reacting := s.sundew.reacting.filter fun r => r.1 != src
      fencing := s.sundew.fencing.filter fun r => r.1 != src
      fenced := s.sundew.fenced.filter fun r => r.1 != src } }
  (s.wipeUnit (drcRegion d)).set F.DRC_STATUS_STATE d 6

/-- The reset of a DRC ends: it is retrained, OFFLINE clears, spills resume (R86, R99, R329, R468). -/
def State.drcBack (s : State) (d : Nat) (b : BootFindings) : State :=
  (((s.set F.DRC_STATUS_STATE d 0).reoverlay (drcRegion d)).drcOnline d).trainStack d (b.badStacks.contains d)

/-- A unit returns from reset. -/
def State.unitBack (s : State) (x : ResetUnit × BootFindings) : State :=
  match x with
  | (.quadrant q, b) => s.quadBack q b
  | (.tile t, b) => s.tileBack t b
  | (.drc d, b) => s.drcBack d b

/-- Every unit that is in reset returns, the first one first (log 131). -/
def State.unitsBack (s : State) : State :=
  ({ s with boot := { s.boot with inReset := [] } }).forAll s.boot.inReset State.unitBack

/-- TOP_RESET_CTRL as written; a reset that lies within one that is in progress is ignored, a warm reset ends every other (R83, R84, R87). -/
def State.resetCtrl (s : State) (v : Nat) (b : BootFindings) : State :=
  let kind := bits v 0 3
  let target := bits v 8 5
  if bits v 48 16 ≠ 0xA55A ∨ s.pins.held = true then s
  else if kind = 1 then s.warmReset 2 none b
  else if s.up = false then s
  else if (kind = 2 ∧ target < 4) ∨ kind = 3 then
    if s.on F.PTL_SWAP_BUSY 0 then s.evC F.TOP_RESET_CAUSE_REFUSED 0
    else if kind = 2 then (if s.quadUp target then s.quadReset target b else s)
    else if s.tileReach target then s.tileReset target b
    else s
  else if kind = 4 ∧ target < 2 ∧ s.inReset (.drc target) = false then s.drcReset target b
  else s

/-! ## Hibernate (R120, R121) -/

/-- Entry: the response, then the steps of R120. DESIGN CHOICE, log 61: an NVM store under way is cut after a free number of its lines and answers nothing, as at a reset. -/
def State.hibernate (s : State) (tag : Nat) : State :=
  let s := (((s.mailDone 12 tag 0).nvmAbort.wipePath).closeAll 2).clearSlots fun _ => true
  let s := s.forAll (List.range 2) fun s d => s.when (s.get F.DRC_STATUS_STATE d != 5) fun s => s.set F.DRC_STATUS_STATE d 3
  let s := s.forAll s.allPorts fun s p => s.set F.PRT_STATUS_LINK_UP p 0
  let s := { s with
    pins := { s.pins with hostAllowed := false }
    boot := { s.boot with inReset := [] }
    host := { s.host with rings := [], msixTable := [] }
    keys := []
    clocks := { s.clocks with raising := [], tiles := [], rouse := [], woken := [], change := none }
    tue := State.reset.tue }
  s.set F.HUM_DEVICE_STATE_STATE 0 3

/-- A lane that ends hibernate: enabled in HUM_HIB_WAKE, of a port that is not held down; a light after dark needs DARK_WAKE too (R121, R135). -/
def State.hibLane (s : State) (lane : Nat) (rouse : Bool) : Bool :=
  lane / 16 == s.get F.HUM_HIB_WAKE_TILE 0 && bitOf (s.get F.HUM_HIB_WAKE_LANE_MASK 0) (lane % 16) &&
    !s.railMissing 4 && (s.portOfLane lane).any fun p => s.on F.PRT_CFG_ADMIN_UP p.lane && (rouse || s.on F.PWQ_PORT_SLEEP_DARK_WAKE p.lane)

/-- What a source of R121 does to the detectors, and its code where it ends hibernate (R115, R121). -/
def State.exitCode (s : State) (c : HibExit) : Option Nat × State :=
  match c with
  | .smbus => (some 1, s)
  | .rouse x =>
    let r := s.rouseSeen x
    (if r.1 && s.hibLane x.lane true then some 2 else none, r.2)
  | .light x => (if darkToLight x && s.hibLane x.lane false then some 2 else none, s)
  | .ppsIn => (if s.on F.HUM_HIB_WAKE_PPS_WAKE 0 then some 3 else none, s)

/-- Hibernate ends with a boot as after a warm reset; TOP_RESET_CAUSE keeps (R121). -/
def State.hibernateEnd (s : State) (code : Nat) (b : BootFindings) : State :=
  let s := (s.set F.HUM_DEVICE_STATE_LAST_EXIT 0 code).set F.HUM_DEVICE_STATE_STATE 0 0
  (((s.wipeWarm).closedAll).warmer).recompute.boot8 b none

/-- A source ends hibernate; with REFCLK away no clock locks and the first source waits for it (R103). One that comes while RESET_N or the TAP hold the module is dropped (DESIGN CHOICE, log 58). -/
def State.hibernateExit (s : State) (c : HibExit) (b : BootFindings) : State :=
  if s.get F.HUM_DEVICE_STATE_STATE 0 ≠ 3 ∨ s.pins.held = true then s
  else
    match s.exitCode c with
    | (none, s) => s
    | (some code, s) =>
      if s.pins.refclk then s.hibernateEnd code b
      else if s.clocks.hibWake.isSome then s
      else { s with clocks := { s.clocks with hibWake := some (code, b) } }

/-- REFCLK is back: an exit from hibernate that waited for it goes on (R102, R103). -/
def State.refclkReturn (s : State) : State :=
  let s := { s with pins := { s.pins with refclk := true } }
  match s.clocks.hibWake with
  | none => s
  | some (code, b) =>
    let s := { s with clocks := { s.clocks with hibWake := none } }
    if s.hummockUp = true ∧ s.get F.HUM_DEVICE_STATE_STATE 0 = 3 ∧ s.pins.held = false then s.hibernateEnd code b else s

/-! ## A tick -/

/-- A tick of the Hummock: units in reset return, and time passes (R100; log 1, log 131). -/
def State.tick (s : State) : State := (s.when s.up State.unitsBack).tickTime

/-! ## The commands -/

/-- REFCLK_RETURN (R102, R103). -/
def execRefclkReturn (s : State) : Host.Outcome State Fault Refusal := .next s.refclkReturn

/-- VDD_HUM_IN_RANGE: the keepers act (R100, R542). -/
def execVddHumInRange (s : State) : Host.Outcome State Fault Refusal :=
  .next (if s.pins.humPower then s else { s with pins := { s.pins with humPower := true, vid := [], thermTrip := false } })

/-- SUPPLY_LOSS: the NVM lines written so far stay, all else is lost (R68, R90). -/
def execSupplyLoss (linesWritten : Nat) (s : State) : Host.Outcome State Fault Refusal :=
  .next
    (let t := (s.nvmCut linesWritten).wipeCold
     { t with pins := { t.pins with humPower := false, vid := [] } })

/-- POR_ASSERT (R80). -/
def execPorAssert (s : State) : Host.Outcome State Fault Refusal := .next (if s.pins.porLow then s else s.wipeCold)

/-- POR_RELEASE (R66, R71). -/
def execPorRelease (b : BootFindings) (s : State) : Host.Outcome State Fault Refusal :=
  .next (s.when (s.pins.humPower && s.pins.porLow) fun s => s.porRelease b)

/-- RESET_N_ASSERT (R82). -/
def execResetNAssert (s : State) : Host.Outcome State Fault Refusal := .next (if s.pins.resetLow then s else s.resetLow)

/-- RESET_N_RELEASE (R82). -/
def execResetNRelease (b : BootFindings) (s : State) : Host.Outcome State Fault Refusal :=
  .next (if s.pins.resetLow then s.resetHigh b else s)

/-- The write of TOP_RESET_CTRL can be made: the Hummock runs, and neither is the device in hibernate. -/
def State.ctrlReachable (s : State) : Bool := s.hummockUp && s.get F.HUM_DEVICE_STATE_STATE 0 != 3

/-- WARM_RESET_CMD (R80, R87). -/
def execWarmResetCmd (v : Nat) (b : BootFindings) (s : State) : Host.Outcome State Fault Refusal :=
  .next (s.when (s.ctrlReachable && bits v 0 3 == 1) fun s => s.resetCtrl v b)

/-- QUADRANT_RESET (R81, R87). -/
def execQuadrantReset (v : Nat) (b : BootFindings) (s : State) : Host.Outcome State Fault Refusal :=
  .next (s.when (s.ctrlReachable && bits v 0 3 == 2) fun s => s.resetCtrl v b)

/-- TILE_RESET (R81, R87). -/
def execTileReset (v : Nat) (b : BootFindings) (s : State) : Host.Outcome State Fault Refusal :=
  .next (s.when (s.ctrlReachable && bits v 0 3 == 3) fun s => s.resetCtrl v b)

/-- DRC_RESET (R86, R87). -/
def execDrcReset (v : Nat) (b : BootFindings) (s : State) : Host.Outcome State Fault Refusal :=
  .next (s.when (s.ctrlReachable && bits v 0 3 == 4) fun s => s.resetCtrl v b)

/-- SLEEP_POLICY hibernate (R120). -/
def execSleepPolicyHibernate (tag : Nat) (s : State) : Host.Outcome State Fault Refusal := .next (s.mailRun 12 tag [3] fun s => s.hibernate tag)

/-- HIBERNATE_EXIT (R121). -/
def execHibernateExit (c : HibExit) (b : BootFindings) (s : State) : Host.Outcome State Fault Refusal :=
  .next (s.when s.hummockUp fun s => s.hibernateExit c b)

end Sys2Proof.Machine
end

