-- ==== Sys2Proof/Machine/Peat.lean ====
section
/-! DEFINITION. The mailbox commands PEAT_LOAD and PEAT_SWAP_LAYER (R49, R52 to R56, R62). -/

namespace Sys2Proof.Machine

/-- What reads of one slot meet. -/
def readsOfSlot (r : NvmReads) (slot : Nat) : NvmReads :=
  { r with uncorrectable := r.uncorrectable.filter fun k => decide (slotAddr slot ≤ 64 * k) && decide (64 * k < slotAddr slot + 8388608) }

/-- PEAT_LOAD: on PEAT_OK a warm reset that loads the slot, in place of a response; else the result (R52, R523). -/
def State.peatLoad (s : State) (tag slot : Nat) (b : BootFindings) : State :=
  let t := s.nvmSeen (readsOfSlot b.reads slot)
  let v := t.validate slot
  let s := (t.nvmBack s).verdict slot v
  if v.code = peatOk then s.warmReset 3 (some slot) { b with reads := { b.reads with corrected := 0 } } else s.mailDone 2 tag v.code

/-! ## Swaps -/

/-- Types of the live class and of the quadrant-quiesced class (Table 2.3), in the order of R56. -/
def swapOrder : List Nat := [0xC, 0xB, 3, 7, 6, 5]

/-- Types named by a mask. -/
def maskTypes (mask : Nat) : List Nat := (List.range 64).filter (bitOf mask)

/-- LENGTH and CRC of a layer in a directory; none where the image does not hold it. -/
def dirEntry (d : List DirEntry) (type : Nat) : Option (Nat × Nat) := (d.find? fun e => e.type == type).map fun e => (e.length, e.crc)

/-- Every type outside the mask is as in the running image (R53). -/
def sameOutside (running new : List DirEntry) (mask : Nat) : Bool :=
  ((List.range' 1 14).filter fun t => !bitOf mask t).all fun t => dirEntry running t == dirEntry new t

/-- An armed timed cut names a row in a region that the SEARCH swap would empty (R62). -/
def State.cutHolds (s : State) (new : SearchLayer) : Bool :=
  let rows := (s.tue.cuts.filter fun c => c.2.state == 2).flatMap fun c => c.2.changes.flatMap s.changeRows
  (List.range 4).any fun q =>
    (s.layers.search.emptied new q).any fun r => rows.any fun x => x.1 == q && decide (r.1 ≤ x.2) && decide (x.2 < r.1 + r.2)

/-- A validated image may be swapped in with this mask (R53, R62). -/
def State.swapAllowed (s : State) (i : Image) (mask : Nat) : Bool :=
  (maskTypes mask).all (fun t => swapOrder.contains t) && sameOutside s.image.dir i.dir mask && !(bitOf mask 5 && s.cutHolds i.layers.search)

/-- Layers of a mask whose content changes, in the order of R56. -/
def State.swapList (s : State) (i : Image) (mask : Nat) : List Nat :=
  swapOrder.filter fun t => bitOf mask t && dirEntry s.image.dir t != dirEntry i.dir t

/-- PEAT_SWAP_LAYER: refused with RESOURCE_CONFLICT, or begun (R53 to R56). -/
def State.peatSwap (s : State) (tag slot mask timeoutMs : Nat) (reads : NvmReads) : State :=
  let t := s.nvmSeen (readsOfSlot reads slot)
  let v := t.validate slot
  let s := (t.nvmBack s).verdict slot v
  match v.image with
  | none => s.mailDone 3 tag peatConflict
  | some i =>
    if s.swapAllowed i mask = false then s.mailDone 3 tag peatConflict
    else
      let j : SwapJob := { tag := tag, slot := slot, timeoutMs := if timeoutMs = 0 then 10 else timeoutMs, image := i, mask := maskTypes mask, todo := [], quadrants := [] }
      (s.set F.PTL_SWAP_BUSY 0 1).swapGo j (s.swapList i mask)

/-! ## The commands -/

/-- PEAT_LOAD (R52). -/
def execPeatLoad (tag slot : Nat) (b : BootFindings) (s : State) : Host.Outcome State Fault Refusal :=
  .next (s.mailRun 2 tag [slot] fun s => s.peatLoad tag slot b)

/-- PEAT_SWAP_LAYER (R53). -/
def execPeatSwapLayer (tag : Nat) (x : SlotRead) (mask timeoutMs : Nat) (s : State) : Host.Outcome State Fault Refusal :=
  .next (s.mailRun 3 tag [x.slot, mask, timeoutMs] fun s => s.peatSwap tag x.slot mask timeoutMs x.reads)

end Sys2Proof.Machine
end

