-- ==== Sys2Proof/Machine/HostIf.lean ====
section
/-! DEFINITION. The host interface: loss and return of host memory, DMA rings, moderation, the firmware mailbox (chapter 20). Receive ring r is ring r here, transmit ring r is ring 32 + r. -/

namespace Sys2Proof.Machine

/-! ## Rings (R510 to R512, R520) -/

/-- What a ring holds beside its registers. -/
def State.hring (s : State) (i : Nat) : HostRing := SMap.findD s.host.rings i default

/-- Change it. -/
def State.withRing (s : State) (i : Nat) (f : HostRing → HostRing) : State :=
  { s with host := { s.host with rings := SMap.modify s.host.rings i default f } }

/-- Entries of the descriptor ring, and of the completion ring. -/
def State.hsize (s : State) (i : Nat) : Nat := 2 ^ s.get F.HST_RING_CTRL_LOG2_SIZE i

/-- Descriptors posted (R512). -/
def State.hposted (s : State) (i : Nat) : Nat :=
  let n := s.hsize i
  (s.get F.HST_RING_TAIL_TAIL i % n + n - s.get F.HST_RING_HEAD_HEAD i % n) % n

/-- A completion record is free (R512). -/
def State.hroom (s : State) (i : Nat) : Bool :=
  let n := s.hsize i
  (s.get F.HST_RING_HEAD_CPL_HEAD i % n + 1) % n != s.get F.HST_RING_CPL_TAIL_CPL_TAIL i % n

/-- The ring is in service: enabled, of an owner whose quadrant runs, host memory within reach (R508). -/
def State.hserves (s : State) (i : Nat) : Bool :=
  decide (i < 64) && s.on F.HST_RING_CTRL_ENABLE i && s.on F.HST_RING_CTRL_OWNED i && s.quadUp (s.get F.HST_RING_CTRL_OWNER i) &&
    s.pins.hostAllowed && !s.pins.perstLow

/-- The ring can consume a descriptor. -/
def State.hready (s : State) (i : Nat) : Bool := s.hserves i && decide (0 < s.hposted i) && !(s.hring i).posted.isEmpty && s.hroom i

/-- Records written since the cause last set reach ITR_COUNT (R520). -/
def State.moderate (s : State) (i : Nat) : State :=
  if max 1 (s.get F.HST_RING_CTRL_ITR_COUNT i) ≤ (s.hring i).unsignalled then (s.withRing i fun x => { x with unsignalled := 0 }).cause i else s

/-- A descriptor is consumed: its record, then the heads, the write-back, the moderation (R510, R512, R520). -/
def State.complete (s : State) (i bytes rec : Nat) : State :=
  let n := s.hsize i
  let c := s.get F.HST_RING_HEAD_CPL_HEAD i % n
  let s := s.hostWrite (page (s.get F.HST_RING_CPL_BASE_ADDR i) + bytes * c) (leBytes rec bytes)
  let s := (s.set F.HST_RING_HEAD_CPL_HEAD i ((c + 1) % n)).set F.HST_RING_HEAD_HEAD i ((s.get F.HST_RING_HEAD_HEAD i + 1) % n)
  let wb := s.get F.HST_RING_WB_ADDR i
  let s := if wb = 0 then s else s.hostWrite (wb / 8 * 8) (leBytes (s.get F.HST_RING_HEAD_HEAD i + 2 ^ 16 * s.get F.HST_RING_HEAD_CPL_HEAD i) 8)
  let now := s.elapsed
  (s.withRing i fun x => { x with
    posted := x.posted.drop 1
    oldest := if x.unsignalled = 0 then now else x.oldest
    unsignalled := x.unsignalled + 1 }).moderate i

/-- HST_RING_TAIL as written; the descriptors it covers are read (R510, R512). -/
def State.hstTail (s : State) (i v : Nat) (descriptors : List Nat) : State :=
  if s.on F.HST_RING_CTRL_OWNED i = false ∨ 64 ≤ i then s
  else
    let had := (s.hring i).posted
    let s := s.set F.HST_RING_TAIL_TAIL i v
    let n := s.hposted i
    s.withRing i fun x => { x with posted := (had ++ descriptors ++ List.replicate n 0).take n }

/-- A counter of a host port. -/
def State.hostCount (s : State) (h n k : Nat) : State := s.count F.HST_PORT_CNT_COUNT (7 * h + n) k

/-! ## Loss of host memory (R508, R518) -/

/-- The frame that a receive ring is writing is cut off (R508, R518). -/
def State.rxAbort (s : State) (i : Nat) : State :=
  match SMap.find s.path.delivering i with
  | none => s
  | some (gq, e, _) =>
    let s := { s with path := { s.path with delivering := SMap.del s.path.delivering i } }
    (s.hostCount (queueQuad gq) 6 1).gone e.buf true e.closer

/-- Host memory goes out of reach (R508). -/
def State.hostStop (s : State) (n : Nat) : State :=
  if s.pins.hostAllowed = false then s
  else
    let s := { s with pins := { s.pins with hostAllowed := false } }
    let s := s.forAll (List.range 32) State.rxAbort
    let s := s.forAll (List.range 4) fun s h => s.dropPort (512 + h) cLinkFlush fun _ _ => true
    ((s.nvmHostStop n).exportStop 0).exportStop 1

/-- PERST_N: the ring registers too return to reset, and the endpoint with its MSI-X table; the ring events are kept over it (R508; log 123). -/
def State.perst (s : State) (n : Nat) : State :=
  let s := s.hostStop n
  let s := { s with pins := { s.pins with perstLow := true }, host := { s.host with rings := [], msixTable := [] } }
  s.unsetAll [F.HST_RING_BASE_ADDR, F.HST_RING_CTRL_ENABLE, F.HST_RING_CTRL_LOG2_SIZE, F.HST_RING_CTRL_BUF_SIZE, F.HST_RING_CTRL_ITR_COUNT,
    F.HST_RING_CTRL_ITR_US, F.HST_RING_TAIL_TAIL, F.HST_RING_HEAD_HEAD, F.HST_RING_HEAD_CPL_HEAD, F.HST_RING_CPL_BASE_ADDR,
    F.HST_RING_CPL_TAIL_CPL_TAIL, F.HST_RING_WB_ADDR] (List.range 64)

/-- Host memory may be reached again: held TUE records and waiting messages go out; in hibernate the endpoint is off. -/
def State.hostResume (s : State) : State :=
  let s := { s with pins := { s.pins with perstLow := false } }
  if s.hummockUp = false ∨ s.get F.HUM_DEVICE_STATE_STATE 0 = 3 then s
  else (({ s with pins := { s.pins with hostAllowed := true } }.cplFlush).tueTake).unmasked

/-! ## Transmit (R312, R513 to R515, Tables 20.2 and 20.3) -/

/-- A field of a transmit descriptor lies outside its range (Tables 12.2 and 20.2), or a reserved bit is set. -/
def txFieldBad (d : Nat) : Bool :=
  decide (bits d 64 14 < 18) || decide (9216 < bits d 64 14) || decide (1 < bits d 78 2) || bitOf d 83 || bits d 126 2 != 0 || bits d 144 32 != 0 ||
    decide (515 < bits d 84 10) || decide (47 < bits d 94 6) || (decide (512 ≤ bits d 84 10) && decide (15 < bits d 94 6)) ||
    decide (10 ^ 9 ≤ bits d 178 30) || (bits d 78 2 == 1 && bits d 32 32 != 0)

/-- The decision that a DIRECT descriptor gives names nothing (R515). -/
def State.txDirectBad (s : State) (d : Nat) : Bool :=
  let dest := bits d 84 10
  if 512 ≤ dest then decide (15 < bits d 94 6)
  else !s.isPort dest || !s.on F.RWE_RECIPE_LOADED (256 * (dest / 16) + bits d 100 8) || decide (s.get F.RWE_PARAM_SHARE_COUNT (dest / 16) ≤ bits d 108 18)

/-- The buffer of a FORM 1 descriptor may be reinjected by a host port (R312, R515). -/
def State.handleOk (s : State) (h d : Nat) : Bool :=
  let k := bits d 0 32
  (s.buf k).any (·.hostOwned) && handleQuad k == h && quadOf (bits d 84 10) == h

/-- STATUS of a descriptor (Table 20.3). -/
def State.txStatus (s : State) (h d : Nat) : Nat :=
  if txFieldBad d || (bitOf d 80 && s.txDirectBad d) || (bits d 78 2 == 1 && !bitOf d 80) then 1
  else if bits d 78 2 = 1 ∧ s.handleOk h d = false then 2
  else 0

/-- Transmit rings of a host port that can consume a descriptor. -/
def State.txReady (s : State) (h : Nat) : List Nat := (List.range' 32 32).filter fun i => s.hready i && s.get F.HST_RING_CTRL_OWNER i == h

/-- The ring whose turn it is (R515). -/
def State.txTurn (s : State) (h : Nat) : Option Nat :=
  let l := s.txReady h
  let last := SMap.findD s.host.lastTx h 63
  (l.find? fun i => decide (last < i)).orElse fun _ => l.head?

/-- Bytes of a host port's staging: as for one lane (R197; log 29). -/
def hostStaging : Nat := 25000

/-- The frame of a descriptor that is accepted: LEN − 4 bytes from the host, or of the buffer; bytes that the buffer does not hold are free values. -/
def State.txBytes (s : State) (d : Nat) (data : List Byte) : List Byte × State :=
  let n := bits d 64 14 - 4
  if bits d 78 2 = 0 then ((data ++ List.replicate n 0).take n, s)
  else
    let held := ((s.buf (bits d 0 32)).elim [] fun b => b.frame.bytes).take n
    let k := s.freeCtr
    (held ++ (List.range (n - held.length)).map fun j => BitVec.ofNat 8 (Config.free (k + j)), { s with freeCtr := k + (n - held.length) })

/-- An accepted frame enters staging on its host port (R35, R196, R514). -/
def State.inject (s : State) (h d : Nat) (data : List Byte) : State :=
  let r := s.txBytes d data
  let s := r.2
  let v := s.parse (512 + h) r.1
  let form1 := bits d 78 2 == 1
  let s := if form1 then s.onBuf (bits d 0 32) fun b => { b with hostOwned := false, closerGone := false } else s
  let f := s.newFrame
    { (default : Frame) with
      port := 512 + h, bytes := r.1, rxQ := s.localQ, rxPtp := none, vec := v.1, trunc := v.2.2, endAt := s.elapsed
      tsMode := bits d 81 2, refTime := stampOf (bits d 176 80)
      direct := if bitOf d 80 then some { dest := bits d 84 10, queue := bits d 94 6, recipe := bits d 100 8, param := bits d 108 18 } else none
      handle := if form1 then some (bits d 0 32) else none }
  let s := f.2.withStaged (512 + h) (s.staged (512 + h) ++ [f.1])
  (s.hostCount h 2 1).hostCount h 3 (bits d 64 14)

/-- A host-memory access of a ring fails: the ring stops (R518). Which KIND and access it reports is a free value. -/
def State.dmaFail (s : State) (i : Nat) : State :=
  let h := s.get F.HST_RING_CTRL_OWNER i
  let s := ((s.set F.HST_RING_CTRL_ENABLE i 0).evC F.HST_RING_EVENT_DMA_ERR i).hostCount h 5 1
  let k := s.draw
  let a := k.2.draw
  a.2.report 0x005 (k.1 % 64) 0x03 (a.1 % 8) i

/-- A transmit descriptor whose read failed (R518, Table 20.3). -/
def State.txFail (s : State) (i : Nat) : State :=
  let d := (s.hring i).posted.headD 0
  let s := { s with host := { s.host with lastTx := SMap.put s.host.lastTx (s.get F.HST_RING_CTRL_OWNER i) i } }
  (s.complete i 16 (bits d 128 16 + 3 * 2 ^ 16)).dmaFail i

/-- TX_DESCRIPTOR: the ring whose turn it is consumes its descriptor: refused, failed, or its frame into staging (R513 to R515). -/
def State.txDescriptor (s : State) (i : Nat) (data : Option (List Byte)) : State :=
  let h := s.get F.HST_RING_CTRL_OWNER i
  if s.hready i = false ∨ s.txTurn h ≠ some i then s
  else
    let d := (s.hring i).posted.headD 0
    let st := s.txStatus h d
    let tag := bits d 128 16
    if st ≠ 0 then
      let s := { s with host := { s.host with lastTx := SMap.put s.host.lastTx h i } }
      ((s.evC F.HST_RING_EVENT_BAD_DESC i).hostCount h 4 1).complete i 16 (tag + st * 2 ^ 16)
    else if hostStaging < s.stagedBytes (512 + h) + bits d 64 14 then s
    else
      match data, bits d 78 2 with
      | none, 0 => s.txFail i
      | _, _ =>
        let s := { s with host := { s.host with lastTx := SMap.put s.host.lastTx h i } }
        (s.inject h d (data.getD [])).complete i 16 tag

/-! ## Receive (R312, R516, Table 20.4) -/

/-- Local checks at dequeue from a host queue (R147, R195, R318, R321, R399). -/
def State.hostHeadCheck (s : State) (gq : Nat) (b : Buf) : Option Nat :=
  if s.marked b.frame = 1 then some 0
  else if s.marked b.frame = 2 then some cLenMismatch
  else if s.isAged gq b then some cAged
  else if s.budgetSpent b.frame (queuePort gq) then some cBudgetSpent
  else none

/-- The highest-numbered host queue of a ring that holds a frame. -/
def State.rxQueue (s : State) (i : Nat) : Option Nat :=
  ((SMap.findD s.layers.host.queues i []).foldl (fun (m : Option Nat) n =>
    if (s.queue (24576 + n)).isEmpty then m else some (m.elim n fun x => max x n)) none).map (24576 + ·)

/-- A head is discarded at dequeue; one with a wrong FCS counts in RX_ABORTED, for a host port has no TX_ERR_DISCARD (R36, R147; log 98). -/
def State.hostHeadLost (s : State) (gq code : Nat) (e : QEntry) : State :=
  let s := s.popHead gq
  let s := if code = 0 then s.hostCount (queueQuad gq) 6 1 else s.dropOut code (queuePort gq) (queueLocal gq)
  s.gone e.buf true e.closer

/-- A ring takes its next frame, once the last byte is stored; heads that fail a check are discarded. -/
def State.rxTake (s : State) (i : Nat) : Nat → State
  | 0 => s
  | fuel + 1 =>
    match s.rxQueue i with
    | none => s
    | some gq =>
      match (s.queue gq).head? with
      | none => s
      | some e =>
        match s.buf e.buf with
        | none => s
        | some b =>
          if s.elapsed < b.frame.endAt then s
          else
            match s.hostHeadCheck gq b with
            | some code => State.rxTake (s.hostHeadLost gq code e) i fuel
            | none =>
              let s := s.popHead gq
              { s with path := { s.path with delivering := SMap.put s.path.delivering i (gq, e, 0) } }

/-- A receive record (Table 20.4). -/
def rxRecord (bytes : Nat) (sop eop : Bool) (f : Frame) (gq reason : Nat) (held : Option Nat) : Nat :=
  bytes + b2n sop * 2 ^ 14 + b2n eop * 2 ^ 15 + (if eop then f.bytes.length % 2 ^ 14 * 2 ^ 16 else 0) + f.port * 2 ^ 30 + (gq - 24576) * 2 ^ 40 +
    reason * 2 ^ 46 + b2n f.rxPtp.isSome * 2 ^ 50 + b2n held.isSome * 2 ^ 51 + held.getD 0 * 2 ^ 64 + (f.rxPtp.elim 0 stampWord) % 2 ^ 80 * 2 ^ 128

/-- The departure stamp of a marked frame of a host queue: it goes to the ring of the queue's quadrant at once, since a host port has no tile, and TIME is the end of the write (R386; DESIGN CHOICE, log 42). -/
def State.hostStamp (s : State) (gq : Nat) (e : QEntry) (fault : DramFault) : State :=
  match e.stamp && s.telemOn (queueQuad gq), s.buf e.buf with
  | true, some b => s.stampToRing (queueQuad gq) (telemRecord 1 gq s.nowNs (s.age b.frame) 0 0, fault)
  | _, _ => s

/-- A frame has been written whole: stamped where it is marked, counted, its buffer gone or kept for the host (R312, R315, R386). -/
def State.rxDone (s : State) (i gq : Nat) (e : QEntry) (n : Nat) (hold : Bool) (fault : DramFault) : State :=
  let s := s.hostStamp gq e fault
  let s := { s with path := { s.path with delivering := SMap.del s.path.delivering i } }
  let s := (s.hostCount (queueQuad gq) 0 1).hostCount (queueQuad gq) 1 n
  let s := if hold then s.onBuf e.buf fun b => { b with hostOwned := true } else s
  s.gone e.buf true e.closer

/-- Write the frame of a ring into posted buffers, one record each, as far as buffers and records reach (R516). -/
def State.rxWrite (s : State) (i : Nat) (fault : DramFault) : Nat → State
  | 0 => s
  | fuel + 1 =>
    match SMap.find s.path.delivering i with
    | none => s
    | some (gq, e, done) =>
      match s.buf e.buf with
      | none => s
      | some b =>
        if s.hready i = false then s
        else
          let f := b.frame
          let k := min (s.get F.HST_RING_CTRL_BUF_SIZE i) (f.bytes.length - done)
          let last := decide (f.bytes.length ≤ done + k)
          let hold := s.on F.BUF_HOST_QUEUE_CFG_HOLD_BUF (gq - 24576)
          let addr := bits ((s.hring i).posted.headD 0) 0 64 / 64 * 64
          let s := s.hostWrite addr (slice f.bytes done k)
          let s := s.complete i 32 (rxRecord k (done == 0) last f gq e.reason (if last && hold then some e.buf else none))
          if last then s.rxDone i gq e f.bytes.length hold fault
          else State.rxWrite { s with path := { s.path with delivering := SMap.put s.path.delivering i (gq, e, done + k) } } i fault fuel

/-- RX_DELIVERY: a ring takes a frame if it writes none, and writes (R516). -/
def State.rxDelivery (s : State) (i : Nat) (fault : DramFault) : State :=
  if s.hready i = false ∨ 32 ≤ i then s
  else
    let n := ((SMap.findD s.layers.host.queues i []).map fun n => (s.queue (24576 + n)).length).sum + 1
    let s := if (SMap.find s.path.delivering i).isSome then s else s.rxTake i n
    s.rxWrite i fault 9216

/-- DMA_ERROR: the frame being written is cut off, the descriptor being read completes with TX_DMA_ERR (R518). -/
def State.dmaError (s : State) (i : Nat) : State :=
  if s.hserves i = false then s
  else if i < 32 then
    let n := ((SMap.findD s.layers.host.queues i []).map fun n => (s.queue (24576 + n)).length).sum + 1
    let s := if s.hready i && (SMap.find s.path.delivering i).isNone then s.rxTake i n else s
    (s.rxAbort i).dmaFail i
  else if s.hready i then s.txFail i
  else s.dmaFail i

/-- ITR_TIMER_EXPIRY: the command says that ITR_US have passed since the oldest unsignalled record (R520; log 9). -/
def State.itrExpiry (s : State) (i : Nat) : State :=
  if (s.hring i).unsignalled = 0 ∨ s.on F.HST_RING_CTRL_ITR_US i = false then s
  else (s.withRing i fun x => { x with unsignalled := 0 }).cause i

/-! ## The mailbox (R73, R117, R522 to R524, Table 20.7) -/

/-- FWM_DOORBELL as written; it restarts a Caddis that sleeps (R117, R522; log 66). -/
def State.doorbell (s : State) (v : Nat) : State :=
  if bitOf v 0 = false then s
  else if s.on F.FWM_STATUS_SLOT_BUSY 0 then s.evC F.HST_RING_EVENT_DOORBELL_LOST 0
  else s.caddisRestart.set F.FWM_STATUS_SLOT_BUSY 0 1

/-- MAILBOX_TAKE: a Caddis that runs and has room for the response takes the command (R522, R523). -/
def State.mailTake (s : State) : State :=
  if s.caddisUp = false ∨ s.clocks.caddisAsleep = true ∨ s.on F.FWM_STATUS_SLOT_BUSY 0 = false ∨ s.mailRoom = false then s else s.mailCopy

/-- FWM_RESP_POP as written (R523). -/
def State.respPop (s : State) (v : Nat) : State :=
  if bitOf v 0 then { s with host := { s.host with resp := s.host.resp.drop 1 } } else s

/-- Version of the patch installed; 0 when none. -/
def State.patchVersion (s : State) : Nat := s.boot.patch.elim 0 (·.2.1)

/-- DATA of FW_INFO (Table 20.7). -/
def State.fwInfo (s : State) (tag : Nat) : State :=
  s.mailRespond 1 tag mbDone 0 (s.get F.TOP_ID_ROM_VERSION 0 + 2 ^ 32 * s.patchVersion)

/-- RESULT and DATA of PATCH_STATUS (Tables 3.3 and 20.7). -/
def State.patchInfo (s : State) (tag : Nat) : State :=
  s.mailRespond 6 tag mbDone (s.get F.TOP_BOOT_PATCH_RESULT 0) (s.boot.patch.elim 3 (·.1) + 2 ^ 32 * s.patchVersion)

/-! ## The commands -/

/-- PERST_N_ASSERT (R508). -/
def execPerstNAssert (n : Nat) (s : State) : Host.Outcome State Fault Refusal := .next (s.perst n)

/-- HOST_ACCESS_STOP (R508). -/
def execHostAccessStop (n : Nat) (s : State) : Host.Outcome State Fault Refusal := .next (s.hostStop n)

/-- HOST_ACCESS_RESUME (R508). -/
def execHostAccessResume (s : State) : Host.Outcome State Fault Refusal := .next s.hostResume

/-- HST_RING_TAIL_WRITE (R510, R512). -/
def execHstRingTailWrite (i v : Nat) (ds : List Nat) (s : State) : Host.Outcome State Fault Refusal := .next (s.when s.up fun s => s.hstTail i v ds)

/-- TX_DESCRIPTOR (R513). -/
def execTxDescriptor (i : Nat) (data : Option (List Byte)) (s : State) : Host.Outcome State Fault Refusal :=
  .next (s.when (s.up && decide (32 ≤ i)) fun s => s.txDescriptor i data)

/-- RX_DELIVERY (R516). -/
def execRxDelivery (x : Departure) (s : State) : Host.Outcome State Fault Refusal := .next (s.when s.up fun s => s.rxDelivery x.unit x.fault)

/-- DMA_ERROR (R518). -/
def execDmaError (i : Nat) (s : State) : Host.Outcome State Fault Refusal := .next (s.when s.up fun s => s.dmaError i)

/-- ITR_TIMER_EXPIRY (R520). -/
def execItrTimerExpiry (i : Nat) (s : State) : Host.Outcome State Fault Refusal := .next (s.when (s.up && decide (i < 64)) fun s => s.itrExpiry i)

/-- The mailbox registers can be written: out of cold reset and hibernate (Table 21.3). -/
def State.mailReach (s : State) : Bool := s.reach 0x40028 == .served && !s.pins.perstLow

/-- TOP_FENCE_WRITE (R262): a TOP register, which takes writes before READY too (R73, Table 21.3). -/
def execTopFenceWrite (v : Nat) (s : State) : Host.Outcome State Fault Refusal :=
  .next (s.when (s.reach R.TOP_FENCE.base == .served && !s.pins.perstLow) fun s => s.topFence v)

/-- MAILBOX_DOORBELL (R522). -/
def execMailboxDoorbell (v : Nat) (s : State) : Host.Outcome State Fault Refusal := .next (s.when s.mailReach fun s => s.doorbell v)

/-- MAILBOX_TAKE (R522). -/
def execMailboxTake (s : State) : Host.Outcome State Fault Refusal := .next s.mailTake

/-- FWM_RESP_POP (R523). -/
def execFwmRespPop (v : Nat) (s : State) : Host.Outcome State Fault Refusal := .next (s.when s.mailReach fun s => s.respPop v)

/-- FW_INFO (Table 20.7). -/
def execFwInfo (tag : Nat) (s : State) : Host.Outcome State Fault Refusal := .next (s.mailRun 1 tag [] fun s => s.fwInfo tag)

/-- PATCH_STATUS (R74, Table 20.7). -/
def execPatchStatus (tag : Nat) (s : State) : Host.Outcome State Fault Refusal := .next (s.mailRun 6 tag [] fun s => s.patchInfo tag)

end Sys2Proof.Machine
end

