-- ==== Sys2Proof/Machine/Access.lean ====
section
/-! DEFINITION. Who reaches the registers: the host over BAR0, a board controller over SMBus, and the TAP (R12 to R15, R509, R525 to R527, R535, R557). -/

namespace Sys2Proof.Machine

/-! ## Writes of a whole register -/

/-- A full-width write that reaches an instance, by a master (R535, R563). -/
def State.accessWrite (s : State) (off v master : Nat) : State :=
  match registerAt off with
  | none => s
  | some (r, i) =>
    let b := r.base
    if b = R.TOP_RESET_CTRL.base then s.resetCtrl v {}
    else if b = R.CLK_QCTRL.base then (s.qctrlWrite i v).changeStep
    else if b = R.FWM_DOORBELL.base then s.doorbell v
    else if b = R.FWM_RESP_POP.base then s.respPop v
    else if b = R.HST_RING_TAIL.base then s.hstTail i (v % 2 ^ 16) []
    else s.instanceWrite r i v master

/-! ## The endpoint (R505, R506, R557) -/

/-- What the endpoint says of itself in its configuration space, whose layout no rule gives (R505, R557; log 120). -/
structure Endpoint where
  vendorId : Nat
  deviceId : Nat
  classCode : Nat
  functions : Nat
  lanes : Nat
  /-- Largest payload it accepts and largest read it requests, in bytes. -/
  maxPayload : Nat
  maxReadRequest : Nat
  tenBitTags : Bool
  msixVectors : Nat
  aer : Bool
  d0 : Bool
  d3hot : Bool
  legacyIntx : Bool
  msi : Bool
  srIov : Bool
  translation : Bool
  /-- Sizes of the BARs by number (Table 20.1). -/
  bars : List (Nat × Nat)
  deriving DecidableEq, Repr

/-- The endpoint of the module. -/
def endpoint : Endpoint where
  vendorId := 0x1FB8
  deviceId := 0x1024
  classCode := 0x028000
  functions := 1
  lanes := 8
  maxPayload := 512
  maxReadRequest := 4096
  tenBitTags := true
  msixVectors := 128
  aer := true
  d0 := true
  d3hot := true
  legacyIntx := false
  msi := false
  srIov := false
  translation := false
  bars := [(0, 2 ^ 24), (2, 2 ^ 13)]

/-- Bytes that a BAR decodes; a BAR that is not implemented decodes none (R506). -/
def Endpoint.barSize (e : Endpoint) (n : Nat) : Nat := SMap.findD e.bars n 0

/-! ## The host over BAR0 (R506, R509) -/

/-- A host access finds the endpoint: PERST_N is high. -/
def State.hostLink (s : State) (off : Nat) : Bool := s.reach off != .silent && !s.pins.perstLow

/-- A write by the host; one that is narrow or unaligned is ignored and reported (R509). -/
def State.hostRegWrite (s : State) (off bytes v : Nat) : State :=
  if s.hostLink off = false then s
  else if bytes ≠ 8 ∨ off % 8 ≠ 0 then s.report 0x004 kAccess 0x00 2 off
  else if s.reach off = .served then s.accessWrite off (v % 2 ^ 64) 0x00
  else s

/-- A read by the host (R15, R509, R533). -/
def State.hostRead (s : State) (off bytes : Nat) : State :=
  if s.hostLink off = false then s.returns none else s.regRead off bytes

/-! ## BAR2 (R506, R519; log 123) -/

/-- A source of a vector waits to send its message. -/
def State.vectorPending (s : State) (v : Nat) : Bool :=
  s.host.msixPending.any fun src => SMap.findD s.layers.host.msix src src == v

/-- A byte of BAR2: the table of 128 vectors, the pending bits at 0x1000, and zero elsewhere. -/
def State.bar2Byte (s : State) (o : Nat) : Byte :=
  if o < 0x800 then s.msixByte o
  else if 0x1000 ≤ o ∧ o < 0x1010 then BitVec.ofNat 8 ((List.range 8).map fun k => 2 ^ k * b2n (s.vectorPending (8 * (o - 0x1000) + k))).sum
  else 0

/-- What a byte of an entry keeps: an address in units of 4 bytes, all of the data, and of the last word the mask alone. -/
def msixKept (o : Nat) : Byte := if o % 16 = 0 then 0xFC else if o % 16 < 12 then 0xFF else if o % 16 = 12 then 1 else 0

/-- A write to BAR2: the table takes it, the pending bits do not; messages that nothing holds back follow. -/
def State.bar2Write (s : State) (o bytes v : Nat) : State :=
  if s.hostLink 0 = false then s
  else
    (s.forAll ((List.range bytes).filter fun k => decide (o + k < 0x800)) fun s k =>
      { s with host := { s.host with msixTable := SMap.put s.host.msixTable (o + k) (BitVec.ofNat 8 (v / 256 ^ k) &&& msixKept (o + k)) } }).unmasked

/-- A read of BAR2, least significant byte first. -/
def State.bar2Read (s : State) (o bytes : Nat) : State :=
  if s.hostLink 0 = false then s.returns none
  else s.returns (some (leNat ((List.range bytes).map fun k => s.bar2Byte (o + k))))

/-! ## SMBus (R525, R526) -/

/-- The 7-bit address at which the target answers (R525). -/
def smbAddress : Nat := 0x4C + Config.smbAddr % 4

/-- The SMBus window: HUM, CLK and FLT always, TOP outside hibernate. -/
def State.smbWindow (s : State) (off : Nat) : Bool :=
  let block := off / 0x10000
  block == 1 || block == 2 || block == 7 || (block == 0 && s.get F.HUM_DEVICE_STATE_STATE 0 != 3)

/-- The instance at an offset lies in an absent quadrant (Table 21.3). -/
def State.smbAway (s : State) (off : Nat) : Bool := (offsetQuad off).any fun q => bitOf (s.get F.TOP_BOOT_RAIL_MISSING 0) q

/-- Status and offset after an access (R525). -/
def State.smbNext (s : State) (refused : Bool) : State :=
  { s with host := { s.host with smbOffset := (s.host.smbOffset + 8) % 2 ^ 24, smbRefused := refused, smbPecErr := false } }

/-- A transfer with a wrong PEC does nothing else (R525). -/
def State.smbPec (s : State) : State := { s with host := { s.host with smbPecErr := true } }

/-- Command 0x11 (R525, R526). -/
def State.smbReadAt (s : State) : State :=
  let off := s.host.smbOffset
  if s.smbWindow off = false then (s.returns (some 0)).smbNext true
  else if s.smbAway off then (s.returns (some (2 ^ 64 - 1))).smbNext false
  else
    match registerAt off with
    | none => (s.returns (some 0)).smbNext false
    | some (r, i) => ((s.returns (some (s.word r i))).readClear r i).smbNext false

/-- Command 0x12: a write of the SMBus target, with the one way out of hibernate that it has (R121, R526). -/
def State.smbWriteAt (s : State) (v : Nat) : State :=
  let off := s.host.smbOffset
  if s.smbWindow off = false then s.smbNext true
  else if s.smbAway off then s.smbNext false
  else
    let s := s.smbNext false
    if off = R.HUM_DEVICE_STATE.base then (if bits v 4 4 = 0xA then s.hibernateExit .smbus {} else s)
    else s.accessWrite off (v % 2 ^ 64) 0x04

/-! ## The TAP (R527, R557) -/

/-- IDCODE: version, part number, manufacturer code, 1. -/
def idcode : Nat := 1 * 2 ^ 28 + endpoint.deviceId * 2 ^ 12 + 0x4E5 * 2 + 1

/-- The TAP executes an instruction: EXTEST, CLAMP and HIGHZ hold the module in warm reset, whose CAUSE is a free value; a boot follows when the hold ends (R527). -/
def State.tap (s : State) (i : TapInstr) (b : BootFindings) : State :=
  let was := s.pins.held
  let t := { s with pins := { s.pins with tap := i } }
  if t.hummockUp = false ∨ t.get F.HUM_DEVICE_STATE_STATE 0 = 3 then t
  else if !was && t.pins.held then
    let d := t.draw
    (d.2.set F.TOP_RESET_CAUSE_CAUSE 0 d.1).warmBegin none
  else if was && !t.pins.held then t.closedAll.boot8 b none
  else t

/-- What shifts out of TDO first; while POR_N is low TDO is not driven (R546). -/
def State.tdo (s : State) (v : Nat) : State :=
  { s with out := { s.out with tdo := if s.hummockUp then some v else none } }

/-! ## The commands -/

/-- REGISTER_WRITE: a write to BAR0, or to the MSI-X table in BAR2 (R12, R506, R509). -/
def execRegisterWrite (a : BarAddr) (bytes v : Nat) (s : State) : Host.Outcome State Fault Refusal :=
  match a with
  | .bar0 off => if endpoint.barSize 0 < off + bytes then .fault .outsideBar0 else .next (s.hostRegWrite off bytes v)
  | .bar2 off => if endpoint.barSize 2 < off + bytes then .fault .outsideBar0 else .next (s.bar2Write off bytes v)

/-- RC_READ: a read of BAR0, or of BAR2 (R15, R506, R509). -/
def execRcRead (a : BarAddr) (bytes : Nat) (s : State) : Host.Outcome State Fault Refusal :=
  match a with
  | .bar0 off => if endpoint.barSize 0 < off + bytes then .fault .outsideBar0 else .next (s.hostRead off bytes)
  | .bar2 off => if endpoint.barSize 2 < off + bytes then .fault .outsideBar0 else .next (s.bar2Read off bytes)

/-- EXTREMUM_READ (R566). -/
def execExtremumRead (off bytes : Nat) (s : State) : Host.Outcome State Fault Refusal :=
  if 2 ^ 24 < off + bytes then .fault .outsideBar0 else .next (s.hostRead off bytes)

/-- SMB_SET_OFFSET; a wrong PEC is told and nothing else is done (R525). -/
def execSmbSetOffset (x : SmbOffset) (s : State) : Host.Outcome State Fault Refusal :=
  .next (s.when s.hummockUp fun s =>
    if x.pecOk then { s with host := { s.host with smbOffset := x.offset % 2 ^ 24 / 8 * 8, smbRefused := false, smbPecErr := false } } else s.smbPec)

/-- SMB_READ (R525, R526). -/
def execSmbRead (pecOk : Bool) (s : State) : Host.Outcome State Fault Refusal :=
  .next (if s.hummockUp then (if pecOk then s.smbReadAt else s.smbPec) else s.returns none)

/-- SMB_WRITE (R525, R526). -/
def execSmbWrite (v : Nat) (pecOk : Bool) (s : State) : Host.Outcome State Fault Refusal :=
  .next (s.when s.hummockUp fun s => if pecOk then s.smbWriteAt v else s.smbPec)

/-- SMB_STATUS_READ (R525). -/
def execSmbStatusRead (s : State) : Host.Outcome State Fault Refusal :=
  .next (if s.hummockUp then s.returns (some (b2n s.host.smbRefused + 2 * b2n s.host.smbPecErr)) else s.returns none)

/-- JTAG_BYPASS: the bypass register captures 0. -/
def execJtagBypass (b : BootFindings) (s : State) : Host.Outcome State Fault Refusal := .next ((s.tap .bypass b).tdo 0)

/-- JTAG_IDCODE (R527, R557). -/
def execJtagIdcode (b : BootFindings) (s : State) : Host.Outcome State Fault Refusal := .next ((s.tap .idcode b).tdo idcode)

/-- JTAG_SAMPLE_PRELOAD: the boundary register samples the pins, in an order no rule gives, and is preloaded. -/
def execJtagSamplePreload (scan : BoundaryScan) (b : BootFindings) (s : State) : Host.Outcome State Fault Refusal :=
  .next
    (let s := s.tap .samplePreload b
     let d := s.draw
     let s := { d.2 with pins := { d.2.pins with boundary := scan.preload, shiftIn := scan.extest } }
     s.tdo d.1)

/-- One scan under EXTEST: the boundary register captures the pins, in an order no rule gives, and takes what the tester shifts in; with nothing to shift in it stays as it is (log 101). -/
def State.extestScan (s : State) : State :=
  let d := s.draw
  let s := d.2.tdo d.1
  match s.pins.shiftIn with
  | v :: rest => { s with pins := { s.pins with boundary := v, shiftIn := rest } }
  | [] => s

/-- JTAG_EXTEST: the instruction, and a scan of the boundary register under it (R527). -/
def execJtagExtest (s : State) : Host.Outcome State Fault Refusal := .next (s.tap .extest {}).extestScan

/-- JTAG_CLAMP: the bypass register stands between TDI and TDO (R527). -/
def execJtagClamp (s : State) : Host.Outcome State Fault Refusal := .next ((s.tap .clamp {}).tdo 0)

/-- JTAG_HIGHZ: likewise (R527). -/
def execJtagHighz (s : State) : Host.Outcome State Fault Refusal := .next ((s.tap .highz {}).tdo 0)

/-- TAP_RESET: the TAP returns to IDCODE (R527). -/
def execTapReset (b : BootFindings) (s : State) : Host.Outcome State Fault Refusal := .next (s.tap .idcode b)

end Sys2Proof.Machine
end

