-- ==== Sys2Proof/Machine/Dispatch.lean ====
section
/-! DEFINITION. The meaning of every command, one arm for each row of the table. -/

namespace Sys2Proof.Machine

/-- The effect of a command on everything but the queue. -/
def exec (i : Instr) (s : State) : Host.Outcome State Fault Refusal :=
  match i with
  | .vddHumInRange => Sys2Proof.Machine.execVddHumInRange s
  | .supplyLoss linesWritten => Sys2Proof.Machine.execSupplyLoss linesWritten s
  | .porAssert => Sys2Proof.Machine.execPorAssert s
  | .porRelease b => Sys2Proof.Machine.execPorRelease b s
  | .resetNAssert => Sys2Proof.Machine.execResetNAssert s
  | .warmResetCmd value b => Sys2Proof.Machine.execWarmResetCmd value b s
  | .quadrantReset value b => Sys2Proof.Machine.execQuadrantReset value b s
  | .tileReset value b => Sys2Proof.Machine.execTileReset value b s
  | .drcReset value b => Sys2Proof.Machine.execDrcReset value b s
  | .perstNAssert linesWritten => Sys2Proof.Machine.execPerstNAssert linesWritten s
  | .hostAccessStop linesWritten => Sys2Proof.Machine.execHostAccessStop linesWritten s
  | .peatLoad tag slot b => Sys2Proof.Machine.execPeatLoad tag slot b s
  | .peatSwapLayer tag slot mask timeoutMs => Sys2Proof.Machine.execPeatSwapLayer tag slot mask timeoutMs s
  | .quiesceDrained => Sys2Proof.Machine.execQuiesceDrained s
  | .quiesceTimeout => Sys2Proof.Machine.execQuiesceTimeout s
  | .swapTileSwitch tile => Sys2Proof.Machine.execSwapTileSwitch tile s
  | .nvmStore tag region offset length hostAddr data => Sys2Proof.Machine.execNvmStore tag region offset length hostAddr data s
  | .nvmStoreDone readBack => Sys2Proof.Machine.execNvmStoreDone readBack s
  | .nvmRead tag region offset length hostAddr => Sys2Proof.Machine.execNvmRead tag region offset length hostAddr s
  | .nvmReadDone uncorrectable corrected => Sys2Proof.Machine.execNvmReadDone uncorrectable corrected s
  | .refclkLoss => Sys2Proof.Machine.execRefclkLoss s
  | .refclkReturn => Sys2Proof.Machine.execRefclkReturn s
  | .holdoverExpiry => Sys2Proof.Machine.execHoldoverExpiry s
  | .clockRelock => Sys2Proof.Machine.execClockRelock s
  | .thermalSample readings => Sys2Proof.Machine.execThermalSample readings s
  | .railSkew pair => Sys2Proof.Machine.execRailSkew pair s
  | .thermTrip => Sys2Proof.Machine.execThermTrip s
  | .clkQctrlWrite q value => Sys2Proof.Machine.execClkQctrlWrite q value s
  | .vidSettleExpiry q => Sys2Proof.Machine.execVidSettleExpiry q s
  | .tileDozeEntry tile => Sys2Proof.Machine.execTileDozeEntry tile s
  | .tileTorporEntry tile => Sys2Proof.Machine.execTileTorporEntry tile s
  | .torporEntered tile => Sys2Proof.Machine.execTorporEntered tile s
  | .tileWake tile sources => Sys2Proof.Machine.execTileWake tile sources s
  | .tileAwake tile => Sys2Proof.Machine.execTileAwake tile s
  | .timerPrewake tile => Sys2Proof.Machine.execTimerPrewake tile s
  | .rouseDetect seen => Sys2Proof.Machine.execRouseDetect seen s
  | .darkToLight seen => Sys2Proof.Machine.execDarkToLight seen s
  | .rouseTx port => Sys2Proof.Machine.execRouseTx port s
  | .caddisSleep => Sys2Proof.Machine.execCaddisSleep s
  | .caddisWake => Sys2Proof.Machine.execCaddisWake s
  | .sleepPolicyFull tag => Sys2Proof.Machine.execSleepPolicyFull tag s
  | .sleepPolicyLean tag => Sys2Proof.Machine.execSleepPolicyLean tag s
  | .sleepPolicyStandby tag => Sys2Proof.Machine.execSleepPolicyStandby tag s
  | .sleepPolicyHibernate tag => Sys2Proof.Machine.execSleepPolicyHibernate tag s
  | .hibernateExit cause b => Sys2Proof.Machine.execHibernateExit cause b s
  | .linkUp port deskew => Sys2Proof.Machine.execLinkUp port deskew s
  | .linkDown port => Sys2Proof.Machine.execLinkDown port s
  | .holdExpiry port => Sys2Proof.Machine.execHoldExpiry port s
  | .portAdminDown port => Sys2Proof.Machine.execPortAdminDown port s
  | .portAdminUp port => Sys2Proof.Machine.execPortAdminUp port s
  | .loopbackChange port mode => Sys2Proof.Machine.execLoopbackChange port mode s
  | .rxFrame port frame fcsOk laneFault codewords => Sys2Proof.Machine.execRxFrame port frame fcsOk laneFault codewords s
  | .pauseExpiry port cls => Sys2Proof.Machine.execPauseExpiry port cls s
  | .pauseFrameSend port => Sys2Proof.Machine.execPauseFrameSend port s
  | .pauseRefresh port cls => Sys2Proof.Machine.execPauseRefresh port cls s
  | .prtFcTxWrite port value => Sys2Proof.Machine.execPrtFcTxWrite port value s
  | .laserLit engine fibre => Sys2Proof.Machine.execLaserLit engine fibre s
  | .laserLost engine fibre => Sys2Proof.Machine.execLaserLost engine fibre s
  | .trackLimit at_ => Sys2Proof.Machine.execTrackLimit at_ s
  | .optCalibrate tag engine => Sys2Proof.Machine.execOptCalibrate tag engine s
  | .optCalibrateDone engine badLanes => Sys2Proof.Machine.execOptCalibrateDone engine badLanes s
  | .causewayOpen tag group => Sys2Proof.Machine.execCausewayOpen tag group s
  | .causewayClose tag group => Sys2Proof.Machine.execCausewayClose tag group s
  | .bypassOpened group => Sys2Proof.Machine.execBypassOpened group s
  | .bypassClosed group => Sys2Proof.Machine.execBypassClosed group s
  | .elementFault group => Sys2Proof.Machine.execElementFault group s
  | .stagingRelease port => Sys2Proof.Machine.execStagingRelease port s
  | .parseDeal tile => Sys2Proof.Machine.execParseDeal tile s
  | .parseComplete tile engine engineError => Sys2Proof.Machine.execParseComplete tile engine engineError s
  | .reorderRelease tile errors => Sys2Proof.Machine.execReorderRelease tile errors s
  | .learnServe => Sys2Proof.Machine.execLearnServe s
  | .egressArrival x => Sys2Proof.Machine.execEgressArrival x s
  | .schedDecision port => Sys2Proof.Machine.execSchedDecision port s
  | .rewriteCommit port fault laneFault => Sys2Proof.Machine.execRewriteCommit port fault laneFault s
  | .rewriteRestart port => Sys2Proof.Machine.execRewriteRestart port s
  | .clusterReloadDone tile cluster => Sys2Proof.Machine.execClusterReloadDone tile cluster s
  | .frameTxDone x => Sys2Proof.Machine.execFrameTxDone x s
  | .deepReadback queue fault => Sys2Proof.Machine.execDeepReadback queue fault s
  | .ageHeadCheck quadrant => Sys2Proof.Machine.execAgeHeadCheck quadrant s
  | .sextonWalk found => Sys2Proof.Machine.execSextonWalk found s
  | .bufFreeWrite quadrant value => Sys2Proof.Machine.execBufFreeWrite quadrant value s
  | .bufQueueCfgWrite queue value => Sys2Proof.Machine.execBufQueueCfgWrite queue value s
  | .sweepPassStart table => Sys2Proof.Machine.execSweepPassStart table s
  | .scarabVisit table badRow => Sys2Proof.Machine.execScarabVisit table badRow s
  | .learnRecountDone => Sys2Proof.Machine.execLearnRecountDone s
  | .exmSweepWrite table value => Sys2Proof.Machine.execExmSweepWrite table value s
  | .exmPortTablesWrite port value => Sys2Proof.Machine.execExmPortTablesWrite port value s
  | .suspectRowScrub quadrant row readBackOk => Sys2Proof.Machine.execSuspectRowScrub quadrant row readBackOk s
  | .backgroundScrub quadrant badRows => Sys2Proof.Machine.execBackgroundScrub quadrant badRows s
  | .tcmPortL3Write port value => Sys2Proof.Machine.execTcmPortL3Write port value s
  | .topFenceWrite value => Sys2Proof.Machine.execTopFenceWrite value s
  | .orderStrictWrite word value => Sys2Proof.Machine.execOrderStrictWrite word value s
  | .tueRingTailWrite ring value commands => Sys2Proof.Machine.execTueRingTailWrite ring value commands s
  | .nop ring slot => Sys2Proof.Machine.execNop ring slot s
  | .fence ring slot => Sys2Proof.Machine.execFence ring slot s
  | .epoch ring slot => Sys2Proof.Machine.execEpoch ring slot s
  | .emInsert ring slot => Sys2Proof.Machine.execEmInsert ring slot s
  | .emUpdate ring slot => Sys2Proof.Machine.execEmUpdate ring slot s
  | .emDelete ring slot => Sys2Proof.Machine.execEmDelete ring slot s
  | .emRead ring slot => Sys2Proof.Machine.execEmRead ring slot s
  | .tcInsert ring slot => Sys2Proof.Machine.execTcInsert ring slot s
  | .tcWriteRow ring slot => Sys2Proof.Machine.execTcWriteRow ring slot s
  | .tcUpdateAction ring slot => Sys2Proof.Machine.execTcUpdateAction ring slot s
  | .tcDelete ring slot => Sys2Proof.Machine.execTcDelete ring slot s
  | .tcReadRow ring slot => Sys2Proof.Machine.execTcReadRow ring slot s
  | .objWrite ring slot => Sys2Proof.Machine.execObjWrite ring slot s
  | .objRead ring slot => Sys2Proof.Machine.execObjRead ring slot s
  | .cutOpen ring slot => Sys2Proof.Machine.execCutOpen ring slot s
  | .cutAdd ring slot => Sys2Proof.Machine.execCutAdd ring slot s
  | .cutArm ring slot => Sys2Proof.Machine.execCutArm ring slot s
  | .cutCancel ring slot => Sys2Proof.Machine.execCutCancel ring slot s
  | .tueWaitTimeout ring slot => Sys2Proof.Machine.execTueWaitTimeout ring slot s
  | .epochDrained => Sys2Proof.Machine.execEpochDrained s
  | .epochTimeout e => Sys2Proof.Machine.execEpochTimeout e s
  | .cutGapFound cut => Sys2Proof.Machine.execCutGapFound cut s
  | .cutWaitExpiry cut => Sys2Proof.Machine.execCutWaitExpiry cut s
  | .cutApply cut => Sys2Proof.Machine.execCutApply cut s
  | .cutDone cut => Sys2Proof.Machine.execCutDone cut s
  | .timeBeacon => Sys2Proof.Machine.execTimeBeacon s
  | .timRateWrite value => Sys2Proof.Machine.execTimRateWrite value s
  | .timStepForward => Sys2Proof.Machine.execTimStepForward s
  | .timStepBack => Sys2Proof.Machine.execTimStepBack s
  | .timStepSet => Sys2Proof.Machine.execTimStepSet s
  | .timNowRead => Sys2Proof.Machine.execTimNowRead s
  | .pinCapture pin rising => Sys2Proof.Machine.execPinCapture pin rising s
  | .ppsOutEdge => Sys2Proof.Machine.execPpsOutEdge s
  | .timPpsOutWrite widthReg value => Sys2Proof.Machine.execTimPpsOutWrite widthReg value s
  | .todOutSend => Sys2Proof.Machine.execTodOutSend s
  | .todInRx message => Sys2Proof.Machine.execTodInRx message s
  | .tsfPop tile value => Sys2Proof.Machine.execTsfPop tile value s
  | .shaperRefill tile => Sys2Proof.Machine.execShaperRefill tile s
  | .gateChange port => Sys2Proof.Machine.execGateChange port s
  | .gateCancel port => Sys2Proof.Machine.execGateCancel port s
  | .gateListStart port => Sys2Proof.Machine.execGateListStart port s
  | .gateEntryTransition port => Sys2Proof.Machine.execGateEntryTransition port s
  | .sgChange gate => Sys2Proof.Machine.execSgChange gate s
  | .sgCancel gate => Sys2Proof.Machine.execSgCancel gate s
  | .sgListStart gate => Sys2Proof.Machine.execSgListStart gate s
  | .sgTransition gate => Sys2Proof.Machine.execSgTransition gate s
  | .schQmapWrite port cls value => Sys2Proof.Machine.execSchQmapWrite port cls value s
  | .queueSample x => Sys2Proof.Machine.execQueueSample x s
  | .ringJoin tag group => Sys2Proof.Machine.execRingJoin tag group s
  | .ringLeave tag group => Sys2Proof.Machine.execRingLeave tag group s
  | .ringProbeSend port => Sys2Proof.Machine.execRingProbeSend port s
  | .probeTimeout port => Sys2Proof.Machine.execProbeTimeout port s
  | .rngGroupCtxWrite group value => Sys2Proof.Machine.execRngGroupCtxWrite group value s
  | .rwePortDefaultWrite port value => Sys2Proof.Machine.execRwePortDefaultWrite port value s
  | .slotSwap slot => Sys2Proof.Machine.execSlotSwap slot s
  | .swapTakesEffect slot => Sys2Proof.Machine.execSwapTakesEffect slot s
  | .slotZeroize slot => Sys2Proof.Machine.execSlotZeroize slot s
  | .slotClearStaged slot => Sys2Proof.Machine.execSlotClearStaged slot s
  | .keyErased slot => Sys2Proof.Machine.execKeyErased slot s
  | .stgCfgWrite slot value => Sys2Proof.Machine.execStgCfgWrite slot value s
  | .prtSecCfgWrite port value => Sys2Proof.Machine.execPrtSecCfgWrite port value s
  | .secChannelSwitch port => Sys2Proof.Machine.execSecChannelSwitch port s
  | .entropyHealthFail => Sys2Proof.Machine.execEntropyHealthFail s
  | .drbgReseed taken => Sys2Proof.Machine.execDrbgReseed taken s
  | .dramRefresh stack pc fault => Sys2Proof.Machine.execDramRefresh stack pc fault s
  | .stackTempReport stack celsius => Sys2Proof.Machine.execStackTempReport stack celsius s
  | .dramRetrain tag stack timeoutMs => Sys2Proof.Machine.execDramRetrain tag stack timeoutMs s
  | .dramRetrainDrained stack => Sys2Proof.Machine.execDramRetrainDrained stack s
  | .dramRetrainDone stack => Sys2Proof.Machine.execDramRetrainDone stack s
  | .pcPowerDown stack pc => Sys2Proof.Machine.execPcPowerDown stack pc s
  | .selfRefreshEntry stack => Sys2Proof.Machine.execSelfRefreshEntry stack s
  | .selfRefreshExited stack => Sys2Proof.Machine.execSelfRefreshExited stack s
  | .telemExport stack value => Sys2Proof.Machine.execTelemExport stack value s
  | .telemExportDone x => Sys2Proof.Machine.execTelemExportDone x s
  | .faultReport source kind address master accessType => Sys2Proof.Machine.execFaultReport source kind address master accessType s
  | .fenceComplete source index => Sys2Proof.Machine.execFenceComplete source index s
  | .fltFenceCmd value => Sys2Proof.Machine.execFltFenceCmd value s
  | .faultLogWrite => Sys2Proof.Machine.execFaultLogWrite s
  | .faultLogFlush tag => Sys2Proof.Machine.execFaultLogFlush tag s
  | .faultLogErase tag => Sys2Proof.Machine.execFaultLogErase tag s
  | .fltMsgPop value => Sys2Proof.Machine.execFltMsgPop value s
  | .hstRingTailWrite ring value descriptors => Sys2Proof.Machine.execHstRingTailWrite ring value descriptors s
  | .txDescriptor ring data => Sys2Proof.Machine.execTxDescriptor ring data s
  | .rxDelivery x => Sys2Proof.Machine.execRxDelivery x s
  | .dmaError ring => Sys2Proof.Machine.execDmaError ring s
  | .itrTimerExpiry ring => Sys2Proof.Machine.execItrTimerExpiry ring s
  | .mailboxDoorbell value => Sys2Proof.Machine.execMailboxDoorbell value s
  | .mailboxTake => Sys2Proof.Machine.execMailboxTake s
  | .fwmRespPop value => Sys2Proof.Machine.execFwmRespPop value s
  | .fwInfo tag => Sys2Proof.Machine.execFwInfo tag s
  | .patchStatus tag => Sys2Proof.Machine.execPatchStatus tag s
  | .smbSetOffset x => Sys2Proof.Machine.execSmbSetOffset x s
  | .smbRead pecOk => Sys2Proof.Machine.execSmbRead pecOk s
  | .smbWrite value pecOk => Sys2Proof.Machine.execSmbWrite value pecOk s
  | .smbStatusRead => Sys2Proof.Machine.execSmbStatusRead s
  | .jtagBypass b => Sys2Proof.Machine.execJtagBypass b s
  | .jtagIdcode b => Sys2Proof.Machine.execJtagIdcode b s
  | .jtagSamplePreload scan b => Sys2Proof.Machine.execJtagSamplePreload scan b s
  | .jtagExtest => Sys2Proof.Machine.execJtagExtest s
  | .jtagClamp => Sys2Proof.Machine.execJtagClamp s
  | .jtagHighz => Sys2Proof.Machine.execJtagHighz s
  | .registerWrite at_ bytes value => Sys2Proof.Machine.execRegisterWrite at_ bytes value s
  | .rcRead at_ bytes => Sys2Proof.Machine.execRcRead at_ bytes s
  | .extremumRead offset bytes => Sys2Proof.Machine.execExtremumRead offset bytes s
  | .resetNRelease b => Sys2Proof.Machine.execResetNRelease b s
  | .hostAccessResume => Sys2Proof.Machine.execHostAccessResume s
  | .trainPeriodExpiry stack => Sys2Proof.Machine.execTrainPeriodExpiry stack s
  | .tapReset b => Sys2Proof.Machine.execTapReset b s

end Sys2Proof.Machine
end

