-- ==== Sys2Proof/WellFormed.lean ====
section
/-! DEFINITION. Which commands are well formed: every number that names a unit of the module, or fills a register, is below the count of the units or the size of the register. -/

namespace Sys2Proof

/-- Every number of a list, under one bound. -/
def under (bound : Nat) (l : List Nat) : List (Nat × Nat) := l.map fun n => (n, bound)

/-- The lines of the NVM that reads find bad (R93). -/
def NvmReads.operands (r : NvmReads) : List (Nat × Nat) := under (2 ^ 20) r.uncorrectable

/-- A slot number fills its argument. -/
def SlotRead.operands (x : SlotRead) : List (Nat × Nat) := [(x.slot, 2 ^ 64)] ++ x.reads.operands

/-- What the reads of a read-back meet. -/
def ReadBack.operands (x : ReadBack) : List (Nat × Nat) := x.reads.operands

/-- The lane of a rouse pattern. -/
def RousePattern.operands (x : RousePattern) : List (Nat × Nat) := (x.lane, 512) :: x.periods.map fun p => (p.2, 2 ^ 64)

/-- The lane on which light follows dark. -/
def LightEdge.operands (x : LightEdge) : List (Nat × Nat) := [(x.lane, 512), (x.darkNs, 2 ^ 64), (x.lightNs, 2 ^ 64)]

/-- An engine and one of its lanes. -/
def EngineLane.operands (x : EngineLane) : List (Nat × Nat) := [(x.engine, 32), (x.lane, 16)]

/-- The quadrant of a walk, and the handles and partitions that it finds. -/
def SextonFind.operands (x : SextonFind) : List (Nat × Nat) := [(x.quadrant, 4)] ++ x.doubles.flatMap fun d => [(d.1, 2 ^ 26), (d.2, 4)]

/-- The units that the findings of a boot name, with their counts (chapter 1). -/
def BootFindings.operands (b : BootFindings) : List (Nat × Nat) :=
  [(b.railMissing, 128)] ++ under 512 b.badBanks ++ under 1536 b.badParsers ++ under 192 b.badClusters ++ under 512 b.badElytra ++
    under 32 b.badTiles ++ under 64 b.lit ++ under 512 b.badLanes ++ under 2 b.badStacks ++ b.reads.operands

/-- The rows that a lookup finds bad (R229, R252). -/
def LookupErrors.operands (e : LookupErrors) : List (Nat × Nat) :=
  under 1048576 e.badRows ++ under 131072 e.falseHits ++ under 131072 e.badShadows ++ under 131072 e.flipped

/-- The pseudo-channel a DRAM fault names, and its corrected bursts (R452, R457). -/
def DramFault.operands : DramFault → List (Nat × Nat)
  | .none => []
  | .corrected n => [(n, 2 ^ 24)]
  | .uncorrectable pc _ => [(pc, 32)]
  | .parity pc _ _ => [(pc, 32)]

/-- A quadrant, and a stack with what is met there. -/
def QuadWrite.operands (x : QuadWrite) : List (Nat × Nat) := [(x.quadrant, 4), (x.stack, 2)] ++ x.fault.operands

/-- A stack and what is met there. -/
def ExportEnd.operands (x : ExportEnd) : List (Nat × Nat) := [(x.stack, 2)] ++ x.fault.operands

/-- What the write of a departure stamp meets; the unit's bound is the command's. -/
def Departure.operands (x : Departure) (bound : Nat) : List (Nat × Nat) := [(x.unit, bound)] ++ x.fault.operands

/-- An offset into a BAR, below its size (Table 20.1). -/
def BarAddr.operands : BarAddr → List (Nat × Nat)
  | .bar0 offset => [(offset, 2 ^ 24)]
  | .bar2 offset => [(offset, 2 ^ 13)]

/-- An offset into BAR0. -/
def SmbOffset.operands (x : SmbOffset) : List (Nat × Nat) := [(x.offset, 2 ^ 24)]

/-- The lane whose Glow-worm ends a hibernate (R121). -/
def HibExit.operands : HibExit → List (Nat × Nat)
  | .smbus => []
  | .rouse x => x.operands
  | .light x => x.operands
  | .ppsIn => []

/-- The numbers of a command with the bound each must stay below. -/
def Instr.operands : Instr → List (Nat × Nat)
  | .vddHumInRange => []
  | .supplyLoss _ => []
  | .porAssert => []
  | .porRelease b => b.operands
  | .resetNAssert => []
  | .warmResetCmd value b => [(value, 2 ^ 64)] ++ b.operands
  | .quadrantReset value b => [(value, 2 ^ 64)] ++ b.operands
  | .tileReset value b => [(value, 2 ^ 64)] ++ b.operands
  | .drcReset value b => [(value, 2 ^ 64)] ++ b.operands
  | .perstNAssert _ => []
  | .hostAccessStop _ => []
  | .peatLoad tag slot b => [(tag, 65536), (slot, 2 ^ 64)] ++ b.operands
  | .peatSwapLayer tag slot mask timeoutMs => [(tag, 65536), (mask, 2 ^ 64), (timeoutMs, 2 ^ 64)] ++ slot.operands
  | .quiesceDrained => []
  | .quiesceTimeout => []
  | .swapTileSwitch tile => [(tile, 32)]
  | .nvmStore tag region offset length hostAddr _ => [(tag, 65536), (region, 2 ^ 64), (offset, 2 ^ 64), (length, 2 ^ 64), (hostAddr, 2 ^ 64)]
  | .nvmStoreDone readBack => readBack.operands
  | .nvmRead tag region offset length hostAddr => [(tag, 65536), (region, 2 ^ 64), (offset, 2 ^ 64), (length, 2 ^ 64), (hostAddr, 2 ^ 64)]
  | .nvmReadDone _ _ => []
  | .refclkLoss => []
  | .refclkReturn => []
  | .holdoverExpiry => []
  | .clockRelock => []
  | .thermalSample readings => [(readings.length, 17)]
  | .railSkew pair => [(pair, 4)]
  | .thermTrip => []
  | .clkQctrlWrite q value => [(q, 4), (value, 2 ^ 64)]
  | .vidSettleExpiry q => [(q, 4)]
  | .tileDozeEntry tile => [(tile, 32)]
  | .tileTorporEntry tile => [(tile, 32)]
  | .torporEntered tile => [(tile, 32)]
  | .tileWake tile sources => [(tile, 32)] ++ under 16 sources
  | .tileAwake tile => [(tile, 32)]
  | .timerPrewake tile => [(tile, 32)]
  | .rouseDetect seen => seen.operands
  | .darkToLight seen => seen.operands
  | .rouseTx port => [(port, 512)]
  | .caddisSleep => []
  | .caddisWake => []
  | .sleepPolicyFull tag => [(tag, 65536)]
  | .sleepPolicyLean tag => [(tag, 65536)]
  | .sleepPolicyStandby tag => [(tag, 65536)]
  | .sleepPolicyHibernate tag => [(tag, 65536)]
  | .hibernateExit cause b => cause.operands ++ b.operands
  | .linkUp port _ => [(port, 512)]
  | .linkDown port => [(port, 512)]
  | .holdExpiry port => [(port, 512)]
  | .portAdminDown port => [(port, 512)]
  | .portAdminUp port => [(port, 512)]
  | .loopbackChange port mode => [(port, 512), (mode, 4)]
  | .rxFrame port _ _ _ _ => [(port, 512)]
  | .pauseExpiry port cls => [(port, 512), (cls, 8)]
  | .pauseFrameSend port => [(port, 512)]
  | .pauseRefresh port cls => [(port, 512), (cls, 8)]
  | .prtFcTxWrite port value => [(port, 512), (value, 2 ^ 64)]
  | .laserLit engine fibre => [(engine, 32), (fibre, 2)]
  | .laserLost engine fibre => [(engine, 32), (fibre, 2)]
  | .trackLimit at_ => at_.operands
  | .optCalibrate tag engine => [(tag, 65536), (engine, 2 ^ 64)]
  | .optCalibrateDone engine badLanes => [(engine, 32)] ++ under 16 badLanes
  | .causewayOpen tag group => [(tag, 65536), (group, 2 ^ 64)]
  | .causewayClose tag group => [(tag, 65536), (group, 2 ^ 64)]
  | .bypassOpened group => [(group, 4)]
  | .bypassClosed group => [(group, 4)]
  | .elementFault group => [(group, 4)]
  | .stagingRelease port => [(port, 516)]
  | .parseDeal tile => [(tile, 32)]
  | .parseComplete tile engine _ => [(tile, 32), (engine, 48)]
  | .reorderRelease tile errors => [(tile, 32)] ++ errors.operands
  | .learnServe => []
  | .egressArrival x => x.operands
  | .schedDecision port => [(port, 516)]
  | .rewriteCommit port _ _ => [(port, 516)]
  | .rewriteRestart port => [(port, 516)]
  | .clusterReloadDone tile cluster => [(tile, 32), (cluster, 6)]
  | .frameTxDone x => x.operands 516
  | .deepReadback queue fault => [(queue, 24640)] ++ fault.operands
  | .ageHeadCheck quadrant => [(quadrant, 4)]
  | .sextonWalk found => found.operands
  | .bufFreeWrite quadrant value => [(quadrant, 4), (value, 2 ^ 64)]
  | .bufQueueCfgWrite queue value => [(queue, 24640), (value, 2 ^ 64)]
  | .sweepPassStart table => [(table, 16)]
  | .scarabVisit table _ => [(table, 16)]
  | .learnRecountDone => []
  | .exmSweepWrite table value => [(table, 16), (value, 2 ^ 64)]
  | .exmPortTablesWrite port value => [(port, 516), (value, 2 ^ 64)]
  | .suspectRowScrub quadrant row _ => [(quadrant, 4), (row, 131072)]
  | .backgroundScrub quadrant badRows => [(quadrant, 4)] ++ under 131072 badRows
  | .tcmPortL3Write port value => [(port, 516), (value, 2 ^ 64)]
  | .topFenceWrite value => [(value, 2 ^ 64)]
  | .orderStrictWrite word value => [(word, 9), (value, 2 ^ 64)]
  | .tueRingTailWrite ring value commands => [(ring, 8), (value, 2 ^ 64)] ++ under (2 ^ 1024) commands
  | .nop ring slot => [(ring, 8), (slot, 65536)]
  | .fence ring slot => [(ring, 8), (slot, 65536)]
  | .epoch ring slot => [(ring, 8), (slot, 65536)]
  | .emInsert ring slot => [(ring, 8), (slot, 65536)]
  | .emUpdate ring slot => [(ring, 8), (slot, 65536)]
  | .emDelete ring slot => [(ring, 8), (slot, 65536)]
  | .emRead ring slot => [(ring, 8), (slot, 65536)]
  | .tcInsert ring slot => [(ring, 8), (slot, 65536)]
  | .tcWriteRow ring slot => [(ring, 8), (slot, 65536)]
  | .tcUpdateAction ring slot => [(ring, 8), (slot, 65536)]
  | .tcDelete ring slot => [(ring, 8), (slot, 65536)]
  | .tcReadRow ring slot => [(ring, 8), (slot, 65536)]
  | .objWrite ring slot => [(ring, 8), (slot, 65536)]
  | .objRead ring slot => [(ring, 8), (slot, 65536)]
  | .cutOpen ring slot => [(ring, 8), (slot, 65536)]
  | .cutAdd ring slot => [(ring, 8), (slot, 65536)]
  | .cutArm ring slot => [(ring, 8), (slot, 65536)]
  | .cutCancel ring slot => [(ring, 8), (slot, 65536)]
  | .tueWaitTimeout ring slot => [(ring, 8), (slot, 65536)]
  | .epochDrained => []
  | .epochTimeout e => [(e, 256)]
  | .cutGapFound cut => [(cut, 256)]
  | .cutWaitExpiry cut => [(cut, 256)]
  | .cutApply cut => [(cut, 256)]
  | .cutDone cut => [(cut, 256)]
  | .timeBeacon => []
  | .timRateWrite value => [(value, 2 ^ 64)]
  | .timStepForward => []
  | .timStepBack => []
  | .timStepSet => []
  | .timNowRead => []
  | .pinCapture _ _ => []
  | .ppsOutEdge => []
  | .timPpsOutWrite _ value => [(value, 2 ^ 64)]
  | .todOutSend => []
  | .todInRx _ => []
  | .tsfPop tile value => [(tile, 32), (value, 2 ^ 64)]
  | .shaperRefill tile => [(tile, 32)]
  | .gateChange port => [(port, 512)]
  | .gateCancel port => [(port, 512)]
  | .gateListStart port => [(port, 512)]
  | .gateEntryTransition port => [(port, 512)]
  | .sgChange gate => [(gate, 512)]
  | .sgCancel gate => [(gate, 512)]
  | .sgListStart gate => [(gate, 512)]
  | .sgTransition gate => [(gate, 512)]
  | .schQmapWrite port cls value => [(port, 512), (cls, 8), (value, 2 ^ 64)]
  | .queueSample x => x.operands
  | .ringJoin tag group => [(tag, 65536), (group, 2 ^ 64)]
  | .ringLeave tag group => [(tag, 65536), (group, 2 ^ 64)]
  | .ringProbeSend port => [(port, 512)]
  | .probeTimeout port => [(port, 516)]
  | .rngGroupCtxWrite group value => [(group, 4), (value, 2 ^ 64)]
  | .rwePortDefaultWrite port value => [(port, 516), (value, 2 ^ 64)]
  | .slotSwap slot => [(slot, 8192)]
  | .swapTakesEffect slot => [(slot, 8192)]
  | .slotZeroize slot => [(slot, 8192)]
  | .slotClearStaged slot => [(slot, 8192)]
  | .keyErased slot => [(slot, 8192)]
  | .stgCfgWrite slot value => [(slot, 8192), (value, 2 ^ 64)]
  | .prtSecCfgWrite port value => [(port, 512), (value, 2 ^ 64)]
  | .secChannelSwitch port => [(port, 512)]
  | .entropyHealthFail => []
  | .drbgReseed _ => []
  | .dramRefresh stack pc fault => [(stack, 2), (pc, 32)] ++ fault.operands
  | .stackTempReport stack _ => [(stack, 2)]
  | .dramRetrain tag stack timeoutMs => [(tag, 65536), (stack, 2 ^ 64), (timeoutMs, 2 ^ 64)]
  | .dramRetrainDrained stack => [(stack, 2)]
  | .dramRetrainDone stack => [(stack, 2)]
  | .pcPowerDown stack pc => [(stack, 2), (pc, 32)]
  | .selfRefreshEntry stack => [(stack, 2)]
  | .selfRefreshExited stack => [(stack, 2)]
  | .telemExport stack value => [(stack, 2), (value, 2 ^ 64)]
  | .telemExportDone x => x.operands
  | .faultReport source kind address master accessType => [(source, 1024), (kind, 64), (address, 2 ^ 48), (master, 256), (accessType, 8)]
  | .fenceComplete source index => [(source, 1024), (index, 131072)]
  | .fltFenceCmd value => [(value, 2 ^ 64)]
  | .faultLogWrite => []
  | .faultLogFlush tag => [(tag, 65536)]
  | .faultLogErase tag => [(tag, 65536)]
  | .fltMsgPop value => [(value, 2 ^ 64)]
  | .hstRingTailWrite ring value descriptors => [(ring, 64), (value, 2 ^ 64)] ++ under (2 ^ 256) descriptors
  | .txDescriptor ring _ => [(ring, 64)]
  | .rxDelivery x => x.operands 64
  | .dmaError ring => [(ring, 64)]
  | .itrTimerExpiry ring => [(ring, 64)]
  | .mailboxDoorbell value => [(value, 2 ^ 64)]
  | .mailboxTake => []
  | .fwmRespPop value => [(value, 2 ^ 64)]
  | .fwInfo tag => [(tag, 65536)]
  | .patchStatus tag => [(tag, 65536)]
  | .smbSetOffset x => x.operands
  | .smbRead _ => []
  | .smbWrite value _ => [(value, 2 ^ 64)]
  | .smbStatusRead => []
  | .jtagBypass b => b.operands
  | .jtagIdcode b => b.operands
  | .jtagSamplePreload _ b => b.operands
  | .jtagExtest => []
  | .jtagClamp => []
  | .jtagHighz => []
  | .registerWrite at_ bytes value => [(bytes, 9), (value, 2 ^ 64)] ++ at_.operands
  | .rcRead at_ bytes => [(bytes, 9)] ++ at_.operands
  | .extremumRead offset bytes => [(offset, 2 ^ 24), (bytes, 9)]
  | .resetNRelease b => b.operands
  | .hostAccessResume => []
  | .trainPeriodExpiry stack => [(stack, 2)]
  | .tapReset b => b.operands

/-- A command whose every number is below its bound. -/
def Instr.wf (i : Instr) : Bool := i.operands.all fun x => decide (x.1 < x.2)

end Sys2Proof
end

