-- ==== Sys2Proof/Safety.lean ====
section
/-! DEFINITION. What the statements are said in: a command that completes, a mailbox command that is executed, and the form that the machine's memories keep. -/

namespace Sys2Proof.Machine

/-- Command c answers a next state on s, and P holds of that state. -/
def Completes (c : Instr) (s : State) (P : State → Prop) : Prop := ∃ t, exec c s = .next t ∧ P t

/-- Caddis takes the mailbox command, asleep or awake, and does not refuse it: it runs, the response FIFO has room, no status of Table 20.6 refuses (R117, R523, R524). -/
def State.mailReady (s : State) (op tag : Nat) (args : List Nat) : Prop :=
  s.caddisUp = true ∧ (s.mailBegin op tag args).mailRoom = true ∧ (s.mailBegin op tag args).mailRefusal op args = none

/-- The response that a command leaves at the end of the FIFO. -/
def State.answered (t : State) (op tag status result : Nat) : Prop :=
  ∃ r ∈ t.host.resp, r.opcode = op ∧ r.tag = tag ∧ r.status = status ∧ r.result = result

/-- The NVM and the reserved area that counts its stores are in canonical form. -/
def State.canonical (s : State) : Prop := Mem.wf s.nvm = true ∧ SMap.wf s.nvmCount = true

/-- An address lies in a region of the NVM (Table 3.5). -/
def inRegion (r a : Nat) : Prop := (nvmRegion r).1 ≤ a ∧ a < (nvmRegion r).1 + (nvmRegion r).2

/-- A store in progress goes to a region that NVM_STORE writes, in whole lines inside it (R89, R90, R94). -/
def State.storeFits (s : State) : Prop :=
  ∀ tag r h lines, s.nvmJob = some (.store tag r h lines) →
    (r ≤ 4 ∨ r = 7) ∧ ∀ l ∈ lines, l.2.length = 64 ∧ (nvmRegion r).1 ≤ l.1 ∧ l.1 + 64 ≤ (nvmRegion r).1 + (nvmRegion r).2

/-- What every step keeps of the non-volatile store: its form, the bounds of a store in progress, and the next line of the fault log within the log. -/
def State.nvmSound (s : State) : Prop := s.canonical ∧ s.storeFits ∧ s.sundew.line < logLines

/-- Rows that write or clear TOP_BOOT: power, cold and warm resets however they are requested, a write of TOP_RESET_CTRL among them, and the end of hibernate, also one that waited for REFCLK or comes by EXIT over the SMBus (R71, R79, R80, R83, R103, R121, R527). -/
def bootRow (s : State) : Instr → Bool
  | .porRelease _ | .supplyLoss _ | .porAssert | .resetNAssert | .resetNRelease _ | .warmResetCmd _ _
  | .peatLoad _ _ _ | .hibernateExit _ _ | .jtagBypass _ | .jtagIdcode _ | .jtagSamplePreload _ _ | .jtagExtest | .jtagClamp | .jtagHighz
  | .tapReset _ | .refclkReturn => true
  | .registerWrite (.bar0 off) _ _ => off == R.TOP_RESET_CTRL.base
  | .smbWrite _ _ => [R.TOP_RESET_CTRL.base, R.HUM_DEVICE_STATE.base].contains s.host.smbOffset
  | _ => false

/-! ## Resets of a unit -/

/-- What Table 3.4 has every quadrant, tile and DRC reset keep: the timebase, the NVM, the exact-match tables, the running image, and a sticky bit. -/
def State.unitKeeps (s t : State) : Prop :=
  t.time.master = s.time.master ∧ t.time.rate = s.time.rate ∧ t.nvm = s.nvm ∧ t.exm.slots = s.exm.slots ∧ t.image.serial = s.image.serial ∧
    ∀ p, t.get F.PRT_EVENT_LINK_UP p = s.get F.PRT_EVENT_LINK_UP p

/-- The registers of a port after a reset of their unit: counters at zero; settings at their reset value, or as the one PARAM record of them has them (Table 3.4, R560). -/
def State.portFresh (s t : State) (p : Nat) : Prop :=
  (∀ n, n < 64 → t.get F.PRT_CNT_COUNT (64 * p + n) = 0) ∧
  (∀ r ∈ [R.PRT_LINK_HOLD, R.PRT_PFC_MAP, R.PRT_MAC_SA, R.PRT_FC_TX], (∀ e ∈ s.boot.param, e.1 ≠ r.offset p) →
    ∀ f ∈ r.fields, ∀ n, f.reset = .num n → t.get f p = n) ∧
  (∀ v, (s.boot.param.filter fun e => e.1 == R.PRT_LINK_HOLD.offset p) = [(R.PRT_LINK_HOLD.offset p, v)] → s.isPort p = true →
    t.get F.PRT_LINK_HOLD_HOLD_US p = bits v 0 16)

/-- Tile i holds no frame, no link, no gate list and no key any more (Table 3.4, R446). -/
def State.tileEmpty (s t : State) (i : Nat) : Prop :=
  (∀ gq, gq < 24576 → gq / 768 = i → t.queue gq = []) ∧ (t.farm i).heads = [] ∧ (t.farm i).entries = [] ∧
  (∀ p, p < 512 → p / 16 = i → t.staged p = [] ∧ t.get F.PRT_STATUS_LINK_UP p = 0 ∧ SMap.find t.gates p = none ∧ SMap.find t.gates (512 + p) = none) ∧
  (∀ n c, s.layers.partition n = some c → c.tile = i → (t.slot n).active = Half.empty ∧ (t.slot n).stagedKey = 0)

/-! ## Links -/

/-- From s to t the link of port p has gone down: the event, the hold and its end at once where it has no length, no pause in either direction (R139, R141, R159). -/
def State.wentDown (s t : State) (p : Nat) : Prop :=
  t.get F.PRT_STATUS_LINK_UP p = 0 ∧ t.get F.PRT_EVENT_LINK_DOWN p = 1 ∧ t.get F.PRT_STATUS_ACTIVE_WIDTH p = 0 ∧ t.get F.PRT_STATUS_RX_PAUSED p = 0 ∧
    t.get F.PRT_STATUS_TX_XOFF p = 0 ∧ (t.live p).pauses = [] ∧
    (s.get F.PRT_LINK_HOLD_HOLD_US p ≠ 0 → t.get F.PRT_STATUS_HOLD p = 1 ∧ (t.live p).holdUntil = s.elapsed + nsUnits (1000 * s.get F.PRT_LINK_HOLD_HOLD_US p)) ∧
    (s.get F.PRT_LINK_HOLD_HOLD_US p = 0 → t.get F.PRT_STATUS_HOLD p = 0 ∧ t.get F.PRT_EVENT_HOLD_EXPIRED p = 1)

/-! ## Lookup -/

/-- Tile i has released a frame; these entries are left. -/
def State.released (s : State) (i : Nat) (rest : List FarmEntry) : State := s.withFarm i { s.farm i with entries := rest }

/-- A frame as its lookup begins: the epoch that it reads in, its class, hash and plane (R278, R359). -/
def State.asLooked (s : State) (f : Frame) : Frame :=
  { f with epoch := s.get F.TUE_EPOCH_CURRENT 0, mapped := s.mappedClass f, cls := s.mappedClass f, hash := s.flowHash f, plane := s.planeOf f.port (s.flowHash f)
           cutsSeen := s.tue.applied, early := [] }

/-- The tile's next frame is f, and its lookup is an ordinary one: no descriptor directs it, no ring tag, no trap, no timed cut, no learning at its port. -/
def State.ordinary (s : State) (i : Nat) (f : Frame) (rest : List FarmEntry) : Prop :=
  s.up = true ∧ i < 32 ∧ s.time.unaligned.contains i = false ∧ takeReleased [] (s.farm i).entries = some (f, rest) ∧ f.direct = none ∧ f.vec.ringTag = false ∧
    s.trapReason f = none ∧ s.tue.cuts = [] ∧ s.get F.EXM_PORT_LEARN_LEARN_EN f.port = 0

/-- A port with neither stream ID tables nor a stream filter region. -/
def State.noStream (s : State) (p : Nat) : Prop :=
  s.get F.EXM_PORT_TABLES_SID_EN p = 0 ∧ s.get F.EXM_PORT_TABLES_SIDW_EN p = 0 ∧ s.get F.TCM_PORT_L3_SF_EN (l3Index p) = 0

/-- From s to t a frame of a port has been discarded under a code: it is counted once, and no copy of it crosses (R330). -/
def State.discards (s t : State) (p code : Nat) : Prop :=
  t.path.crossing = s.path.crossing ∧
    t.get F.BUF_DROP_CNT_COUNT (64 * quadOf p + code) = satAdd (s.get F.BUF_DROP_CNT_COUNT (64 * quadOf p + code)) 1 (2 ^ 64 - 1)

/-! ## Dequeue -/

/-- Class c of a port has no head that may go now: it is closed, none of its queues has a head on-die, or the head of the queue that it selects waits or would not pass the gate (R362, R375). -/
def State.nothingFrom (s : State) (p c : Nat) : Prop :=
  s.classOpen p c = false ∨ s.selectQueue p c = none ∨
    ∃ gq e b, s.selectQueue p c = some gq ∧ (s.queue gq).head? = some e ∧ s.buf e.buf = some b ∧ s.headCheck p c gq (s.gateBytes p e) b = none ∧
      (s.headWaits p b.frame = true ∨ s.gatePasses p c (s.gateBytes p e) = false)

/-! ## Register writes -/

/-- Registers whose write is a command of its own or asks more of the state than its fields' access codes: statements of their own say what those do. -/
def ownWrites : List Nat :=
  [R.TOP_RESET_CTRL, R.CLK_QCTRL, R.FWM_DOORBELL, R.FWM_RESP_POP, R.HST_RING_TAIL, R.TOP_FENCE, R.FLT_MSG_POP, R.FLT_FENCE_CMD, R.TIM_RATE, R.TIM_ADJ_CTRL,
    R.TIM_PPS_OUT, R.TIM_PPS_WIDTH, R.TUE_RING_TAIL, R.TUE_ORDER_STRICT, R.EXM_SWEEP, R.EXM_PORT_TABLES, R.RNG_GROUP_CTX, R.DRC_TELEM_EXPORT_CTRL].map (·.base) ++
  [R.HST_RING_BASE, R.HST_RING_CPL_BASE, R.HST_RING_CTRL, R.HST_RING_CPL_TAIL, R.HST_RING_WB, R.HST_RING_EVENT, R.FWM_CMD, R.FWM_ARG, R.FLT_CAP_2, R.TIM_ADJ_ARG_NS,
    R.TIM_ADJ_ARG_S, R.TUE_RING_CTRL, R.TUE_CPL_TAIL, R.EXM_PORT_LEARN, R.RNG_PROBE, R.PWQ_PORT_SLEEP, R.BUF_FREE, R.BUF_QUEUE_CFG, R.TCM_PORT_L3, R.SMP_CTRL].map (·.base) ++
  [R.SMP_WATCH, R.PRT_CFG, R.PRT_FC_TX, R.PRT_SEC_CFG, R.SCH_PORT_CFG, R.SCH_PORT_SHAPER, R.SCH_SHAPER_CIR, R.SCH_CBS, R.SCH_QMAP, R.SCH_QUEUE_CFG,
    R.RWE_PORT_DEFAULT, R.TSF_POP, R.GAT_PORT_CTRL, R.GAT_PORT_CYCLE, R.GAT_PORT_BASE_NS, R.GAT_PORT_BASE_S, R.GAT_PORT_EVENT, R.GAT_PORT_STATUS].map (·.base) ++
  [R.GAT_PORT_CHANGE_NS, R.GAT_PORT_CHANGE_S, R.GAT_SG_CTRL, R.GAT_SG_CYCLE, R.GAT_SG_BASE_NS, R.GAT_SG_BASE_S, R.GAT_SG_EVENT, R.GAT_SG_STATUS, R.GAT_SG_CHANGE_NS,
    R.GAT_SG_CHANGE_S, R.GAT_SG_ADMIN_LIST, R.GAT_SG_OPER_LIST, R.GAT_ADMIN_LIST].map (·.base)

/-- A register that a write changes field by field: none of those, and no register of a key slot. -/
def fieldByField (r : Reg) : Bool := !ownWrites.contains r.base && !(decide (0x200000 ≤ r.base) && decide (r.base < 0x300000))

/-- The value as such a register takes it: the host's pages without their low 12 bits, intervals and limits held in their range, reserved interrupt sources at zero. -/
def valueTaken (r : Reg) (i v : Nat) : Nat :=
  if [R.TUE_RING_BASE.base, R.TUE_CPL_BASE.base, R.EXM_EVT_BASE.base, R.DRC_TELEM_EXPORT_ADDR.base].contains r.base then v / 4096 * 4096
  else if r.base = R.HST_INT_MASK.base ∨ r.base = R.HST_INT_PIN.base then sourceBits i v
  else if r.base = R.BUF_PROFILE_AGE.base then clampBits v F.BUF_PROFILE_AGE_AGE_LIMIT 0 12582912
  else if r.base = R.BUF_SEXTON_CTRL.base then clampBits v F.BUF_SEXTON_CTRL_INTERVAL_MS 1 10000
  else if r.base = R.TCM_CTRL.base then clampBits v F.TCM_CTRL_SCRUB_MS 10 10000
  else if r.base = R.DRC_CFG.base then clampBits (clampBits v F.DRC_CFG_SR_IDLE_US 10 1000000) F.DRC_CFG_PD_IDLE_NS 100 4000
  else v

/-- A value that a field of such a register ignores: it keeps its old one. -/
def valueIgnored (f : Field) (x : Nat) : Bool :=
  threeIgnored f x || (f.id == F.EXM_EVT_CTRL_LOG2_SIZE.id && (decide (x < 10) || decide (20 < x))) ||
    (f.id == F.BUF_PROFILE_ADM_ALPHA_EXP.id && decide (12 ≤ x)) || (f.id == F.DRC_CFG_TRAIN_PERIOD_S.id && decide (1 ≤ x) && decide (x < 60))

/-- What a field holds after a write of its register, by its access code (Table 0.5): the value, the bits that are cleared or set by ones, or what it held. -/
def fieldAfter (f : Field) (old x : Nat) : Nat :=
  match f.access with
  | .rw | .rwp => x
  | .w1c => andNotN old x
  | .w1s => orN old x
  | .ro | .rc | .wo => old

/-! ## The table update engine -/

/-- The ring's command in a slot is x, accepted, of an opcode, and need not wait (log 16). -/
def State.tueReady (s : State) (r slot opcode : Nat) (x : TueCmd) : Prop :=
  s.up = true ∧ s.inSlot r slot = some x ∧ x.cmd.opcode = opcode ∧ s.tueBlocked r x = false

/-- Beside that, no general check refuses the table command (Table 10.5). -/
def State.tableReady (s : State) (r slot opcode : Nat) (x : TueCmd) : Prop :=
  s.tueReady r slot opcode x ∧ s.badTarget x.cmd = false ∧ s.abortedCmd x.cmd = false ∧ s.cutArmed x.cmd = false

/-- Host address of the record that a ring writes next (R267). -/
def State.cplAddr (s : State) (r : Nat) : Nat :=
  s.get F.TUE_CPL_BASE_ADDR r / 4096 * 4096 + 128 * (s.get F.TUE_CPL_HEAD_HEAD r % s.tueSize r)

/-- From s to t one record has gone out on a ring: its 128 bytes stand in host memory and its head has moved on (R270). -/
def State.posts (s t : State) (r rec : Nat) : Prop :=
  t.out.hostMem = (s.hostWrite (s.cplAddr r) (leBytes rec 128)).out.hostMem ∧
    t.get F.TUE_CPL_HEAD_HEAD r = (s.get F.TUE_CPL_HEAD_HEAD r % s.tueSize r + 1) % s.tueSize r % 2 ^ F.TUE_CPL_HEAD_HEAD.width

/-- The record of a command that completes in state s with a result and a body (Table 10.3). -/
def State.doneRecord (s : State) (r : Nat) (x : TueCmd) (result body : Nat) : Nat :=
  putBits (record x.cmd.opcode r x.cmd.tag stDone result 0 (recordTime s.nowQ) body) 968 8 (s.get F.TUE_EPOCH_CURRENT 0)

/-- From s to t the command x of ring r has completed with TUE_DONE, a result and a body: its record is out, it is no longer in flight, and the rings go on (R268, R270, R272). -/
def State.finishes (s t : State) (r : Nat) (x : TueCmd) (result body : Nat) : Prop :=
  ∃ u : State, t = u.tueTake ∧ s.posts u r (s.doneRecord r x result body) ∧ u.tueFlight r = (s.tueFlight r).filter fun z => z.seq != x.seq

/-! ## EXM_SWEEP -/

/-- A write of EXM_SWEEP leaves the sum of buckets over period within 400 M buckets/s (R226). -/
def State.sweepAllowed (s : State) (n v : Nat) : Bool :=
  sweepOk (s.layers.tables.filterMap fun e =>
    if e.1 = n then
      (if bits v 0 1 = 1 ∨ (s.exmTable n).next.isSome then
        some (e.2.buckets, if 1 ≤ bits v 1 22 ∧ bits v 1 22 ≤ 3600000 then bits v 1 22 else s.get F.EXM_SWEEP_PERIOD_MS n)
      else none)
    else if s.ageing e.1 then some (e.2.buckets, s.get F.EXM_SWEEP_PERIOD_MS e.1) else none)

end Sys2Proof.Machine
end

