-- ==== Sys2Proof/Certificates/Slice0/Obligations.lean ====
section
/-! DEFINITION. The statements for the provers. -/

open Sys2Proof Sys2Proof.Machine

/-! ## The machine as a whole -/

/-- A step takes the command at the front of the queue and runs it with the queue's rest. -/
def Obligations.StepRunsFront : Prop :=
  ∀ (c : Instr) (rest : List Instr) (s : State), s.pending = c :: rest → step s = exec c { s with pending := rest }

/-- On an empty queue one tick of 12.8 ns passes, and where the Hummock runs the master advances by it and by RATE_ADJ, its seconds cut to 48 bits (R100, R333; that an empty queue is a tick is the model's choice, log 1). -/
def Obligations.IdleStepTicks : Prop :=
  ∀ s : State, s.pending = [] → ∃ t, step s = .next t ∧ t.elapsed = s.elapsed + 64 ∧ t.pending = [] ∧ t.nvm = s.nvm ∧
    (if s.pins.humPower = true ∧ s.pins.porLow = false then
      t.time.master = ((s.time.master : Int) + 64 * 2 ^ 32 + 5 * s.time.rate).toNat % masterEnd ∧ t.time.phase = (s.time.phase + 1) % 625 ∧
        t.time.rate = s.time.rate
    else t.time = s.time)

/-- Every field whose Reset column holds a number reads that number after reset, in every instance (R534). -/
def Obligations.ResetFields : Prop :=
  ∀ r ∈ allRegs, ∀ f ∈ r.fields, ∀ n i : Nat, f.reset = .num n → State.reset.get f i = n

/-- The machine after reset meets the invariant of the non-volatile store. -/
def Obligations.ResetIsSound : Prop := State.reset.nvmSound

/-- Every step keeps the invariant of the non-volatile store: memories in canonical form, a store in progress inside its region, the log's next line inside the log (R89, R94, R500). -/
def Obligations.StepKeepsNvmSound : Prop :=
  ∀ s t : State, s.nvmSound → step s = .next t → t.nvmSound

/-- Nothing is written to NVM but by NVM_STORE into regions 0 to 4 and 7, also where it is cut short, and by the fault log into FAULTLOG, with AUTO set or on its commands (R89). -/
def Obligations.NvmWriters : Prop :=
  ∀ (s t : State) (a : Nat), s.nvmSound → step s = .next t → Mem.read t.nvm a ≠ Mem.read s.nvm a →
    (∃ r, (r ≤ 4 ∨ r = 7) ∧ inRegion r a ∧
      ((∃ tag h lines, s.nvmJob = some (.store tag r h lines)) ∨
        ∃ tag offset length addr data rest, s.pending = .nvmStore tag r offset length addr data :: rest)) ∨
    (inRegion 5 a ∧ ∃ c rest, s.pending = c :: rest ∧
      ((c = .faultLogWrite ∧ s.get F.FLT_LOG_CTRL_AUTO 0 ≠ 0) ∨ ∃ tag, c = .faultLogFlush tag ∨ c = .faultLogErase tag))

/-- No command changes the queue, the variant of the module (R2, held as log 2 says) or the time that has passed; that a command lets no time pass, only the tick of an empty queue, is the model's choice of log 1, and that the queue is filled from outside alone that of log 19. -/
def Obligations.CommandsKeepQueueAndTime : Prop :=
  ∀ (c : Instr) (s t : State), exec c s = .next t → t.pending = s.pending ∧ t.variant = s.variant ∧ t.elapsed = s.elapsed

/-- Of the commands only a beacon changes the master's time and rate, since a rate or step written waits for it, and a cold reset loses them (R80, R334, R335). This is said of commands alone: that they let no time pass, and that the tick of an empty queue advances the master, is the model's choice of log 1. -/
def Obligations.TimebaseWriters : Prop :=
  ∀ (c : Instr) (s t : State), exec c s = .next t → c ≠ .timeBeacon → c ≠ .porAssert → (∀ n, c ≠ .supplyLoss n) →
    t.time.master = s.time.master ∧ t.time.rate = s.time.rate

/-- No field of TOP_BOOT changes but with power, resets and the end of hibernate; every other register's write leaves them all (R71, R79, R83). -/
def Obligations.BootStatusWriters : Prop :=
  ∀ (c : Instr) (s t : State), exec c s = .next t → bootRow s c = false → ∀ f ∈ R.TOP_BOOT.fields, t.get f 0 = s.get f 0

/-! ## Power and resets -/

/-- VDD_HUM coming into range, the loss of every supply and POR_N falling; after the release of POR_N, with the first rail, the ROM and the Caddis SRAM good, boot runs to READY, and without them it halts with its code (R66, R68, R69, R71, R79 to R81, R90, R542). -/
def Obligations.PowerAndBoot : Prop :=
  (∀ s : State, s.pins.humPower = false →
    exec .vddHumInRange s = .next { s with pins := { s.pins with humPower := true, vid := [], thermTrip := false } }) ∧
  (∀ (n : Nat) (s : State), Completes (.supplyLoss n) s fun t =>
    t.pins.humPower = false ∧ t.regs = [] ∧ t.keys = [] ∧ t.path = State.reset.path ∧ t.time = State.reset.time ∧ t.pending = s.pending ∧
      t.nvm = (s.nvmCut n).nvm) ∧
  (∀ s : State, s.pins.porLow = false → Completes .porAssert s fun t =>
    t.pins.porLow = true ∧ t.regs = [] ∧ t.keys = [] ∧ t.path = State.reset.path ∧ t.time = State.reset.time ∧ t.pending = s.pending ∧
      (s.nvmJob = none → t.nvm = s.nvm)) ∧
  (∀ (b : BootFindings) (s : State), s.pins.humPower = true → s.pins.porLow = true → s.pins.held = false → bitOf b.railMissing 0 = false →
    b.romOk = true → b.sramOk = true → Completes (.porRelease b) s fun t =>
      t.get F.TOP_BOOT_READY 0 = 1 ∧ t.get F.TOP_BOOT_STEP 0 = 9 ∧ t.get F.TOP_BOOT_BOOT_MS 0 = min 65535 b.bootMs) ∧
  (∀ (b : BootFindings) (s : State), s.pins.humPower = true → s.pins.porLow = true → s.pins.held = false → bitOf b.railMissing 0 = true →
    Completes (.porRelease b) s fun t => t.get F.TOP_BOOT_HALT 0 = 1 ∧ t.get F.TOP_BOOT_HALT_CODE 0 = 3) ∧
  (∀ (b : BootFindings) (s : State), s.pins.humPower = true → s.pins.porLow = true → s.pins.held = false → bitOf b.railMissing 0 = false →
    b.romOk = false → Completes (.porRelease b) s fun t => t.get F.TOP_BOOT_HALT 0 = 1 ∧ t.get F.TOP_BOOT_HALT_CODE 0 = 1) ∧
  (∀ (b : BootFindings) (s : State), s.pins.humPower = true → s.pins.porLow = true → s.pins.held = false → bitOf b.railMissing 0 = false →
    b.romOk = true → b.sramOk = false → Completes (.porRelease b) s fun t => t.get F.TOP_BOOT_HALT 0 = 1 ∧ t.get F.TOP_BOOT_HALT_CODE 0 = 2)

/-- RESET_N falling clears what a warm reset clears; its rise boots to READY; TOP_RESET_CTRL with KIND warm does both, with a wrong KEY nothing; a quadrant or tile reset while PTL_SWAP.BUSY is set is refused (R80, R82, R84, R87, R446). -/
def Obligations.WarmAndRefusedResets : Prop :=
  (∀ s : State, s.hummockUp = true → s.pins.held = false → s.get F.HUM_DEVICE_STATE_STATE 0 ≠ 3 → Completes .resetNAssert s fun t =>
    t.pins.resetLow = true ∧ t.keys = [] ∧ t.gates = [] ∧ t.exm = State.reset.exm ∧ t.path.queues = [] ∧ t.host.resp = [] ∧
      t.get F.TOP_BOOT_READY 0 = 0) ∧
  (∀ (b : BootFindings) (s : State), s.hummockUp = true → s.pins.resetLow = true → ({ s.pins with resetLow := false } : Pins).held = false →
    s.get F.HUM_DEVICE_STATE_STATE 0 ≠ 3 → bitOf (s.get F.TOP_BOOT_RAIL_MISSING 0) 0 = false → b.romOk = true → b.sramOk = true →
    Completes (.resetNRelease b) s fun t => t.pins.resetLow = false ∧ t.get F.TOP_BOOT_READY 0 = 1 ∧ t.get F.TOP_BOOT_STEP 0 = 9) ∧
  (∀ (v : Nat) (b : BootFindings) (s : State), s.hummockUp = true → s.get F.HUM_DEVICE_STATE_STATE 0 ≠ 3 → s.pins.held = false → bits v 0 3 = 1 →
    bits v 48 16 = 0xA55A → bitOf (s.get F.TOP_BOOT_RAIL_MISSING 0) 0 = false → b.romOk = true → b.sramOk = true →
    Completes (.warmResetCmd v b) s fun t => t.get F.TOP_BOOT_READY 0 = 1 ∧ t.get F.TOP_BOOT_STEP 0 = 9) ∧
  (∀ (v : Nat) (b : BootFindings) (s : State), bits v 48 16 ≠ 0xA55A → exec (.warmResetCmd v b) s = .next s ∧
    exec (.quadrantReset v b) s = .next s ∧ exec (.tileReset v b) s = .next s ∧ exec (.drcReset v b) s = .next s) ∧
  (∀ (v : Nat) (b : BootFindings) (s : State), s.up = true → bits v 0 3 = 2 → bits v 48 16 = 0xA55A → bits v 8 5 < 4 → s.get F.PTL_SWAP_BUSY 0 = 1 →
    exec (.quadrantReset v b) s = .next (s.evC F.TOP_RESET_CAUSE_REFUSED 0)) ∧
  (∀ (v : Nat) (b : BootFindings) (s : State), s.up = true → bits v 0 3 = 3 → bits v 48 16 = 0xA55A → s.get F.PTL_SWAP_BUSY 0 = 1 →
    exec (.tileReset v b) s = .next (s.evC F.TOP_RESET_CAUSE_REFUSED 0))

/-- A quadrant reset puts its quadrant into reset and empties it: frames, links, gates, keys, merge windows and its bypass go. As it returns the rows of its local regions have gone, its replicated regions are those of another quadrant, and its registers are at their reset value or as PARAM has them. A tile reset does so for its tile; a DRC in reset reads STATE resetting with its deep buffer offline, and returns trained. Each keeps what Table 3.4 keeps (R81, R83, R85, R86, R446, R468, R560, R565, Table 3.4). That a unit returns at the next tick is the model's choice (log 131). -/
def Obligations.UnitResets : Prop :=
  (∀ (v q : Nat) (b : BootFindings) (s : State), q = bits v 8 5 → s.quadUp q = true → bits v 0 3 = 2 → bits v 48 16 = 0xA55A → q < 4 →
    s.get F.PTL_SWAP_BUSY 0 = 0 → s.swap = none → s.boot.inReset = [] → Completes (.quadrantReset v b) s fun t =>
      t.boot.inReset = [(.quadrant q, b)] ∧ (∀ i, i / 8 = q → s.tileEmpty t i) ∧ (∀ gq, 24576 ≤ gq → queueQuad gq = q → t.queue gq = []) ∧
      (∀ k, SMap.find t.tables.windows k = if k % 4 = q then none else SMap.find s.tables.windows k) ∧
      (groupPresent s.variant q = true → t.csw q = 0) ∧ s.unitKeeps t ∧
      let r := t.unitsBack
      r.boot.inReset = [] ∧ (∀ i, i / 8 = q → s.tileEmpty r i) ∧ (∀ p, p < 512 → p / 128 = q → s.portFresh r p) ∧ s.unitKeeps r ∧
      (∀ k, k / 131072 ≠ q → SMap.find r.tcam.rows k = SMap.find s.tcam.rows k) ∧
      (SMap.wf s.tcam.rows = true → ∀ n, n < 131072 →
        let shared := ∃ x, x < 17 ∧ s.regionQuads q x ≠ [q] ∧ ∃ r, s.regionRows q x = some r ∧ r.1 ≤ n ∧ n < r.1 + r.2
        (shared → SMap.find r.tcam.rows (rowKey q n) = (s.otherQuad q).bind fun k => SMap.find s.tcam.rows (rowKey k n)) ∧
          (¬shared → SMap.find r.tcam.rows (rowKey q n) = none))) ∧
  (∀ (v i : Nat) (b : BootFindings) (s : State), i = bits v 8 5 → s.tileReach i = true → bits v 0 3 = 3 → bits v 48 16 = 0xA55A →
    s.get F.PTL_SWAP_BUSY 0 = 0 → s.swap = none → s.boot.inReset = [] → Completes (.tileReset v b) s fun t =>
      t.boot.inReset = [(.tile i, b)] ∧ s.tileEmpty t i ∧ (i % 8 = 0 → t.staged (512 + i / 8) = []) ∧
      (i % 8 = 0 → groupPresent s.variant (i / 8) = true → t.csw (i / 8) = 0) ∧ t.time.unaligned.contains i = true ∧ s.unitKeeps t ∧
      let r := t.unitsBack
      r.boot.inReset = [] ∧ s.tileEmpty r i ∧ (∀ p, p < 512 → p / 16 = i → s.portFresh r p) ∧ r.time.unaligned.contains i = true ∧
      s.unitKeeps r ∧ r.tcam.rows = s.tcam.rows ∧ r.tables.windows = s.tables.windows) ∧
  (∀ (v d : Nat) (b : BootFindings) (s : State), d = bits v 8 5 → s.up = true → bits v 0 3 = 4 → bits v 48 16 = 0xA55A → d < 2 →
    s.boot.inReset = [] → Completes (.drcReset v b) s fun t =>
      t.boot.inReset = [(.drc d, b)] ∧ t.get F.DRC_STATUS_STATE d = 6 ∧ bitOf (t.get F.TOP_CAPACITY_DEEP_OFFLINE 0) d = true ∧
      (∀ gq, ∀ e ∈ t.queue gq, handleDram e.buf = true → s.stackOf e.buf ≠ d) ∧ (t.stack d).ring = [] ∧ (t.stack d).writes = [] ∧
      t.get F.DRC_FREEZE_0_CAUSE d = 0 ∧
      let r := t.unitsBack
      r.boot.inReset = [] ∧
      (s.railMissing 6 = false → b.badStacks.contains d = false →
        r.get F.DRC_STATUS_STATE d = (if r.hasShare d then 2 else 3) ∧ bitOf (r.get F.TOP_CAPACITY_DEEP_OFFLINE 0) d = false) ∧
      ((s.railMissing 6 = true ∨ (r.hasShare d = true ∧ b.badStacks.contains d = true)) → r.get F.DRC_STATUS_FENCED d = 1) ∧
      s.unitKeeps r ∧ r.tcam.rows = s.tcam.rows ∧ r.tables.windows = s.tables.windows ∧ r.gates = s.gates ∧ r.keys = s.keys ∧
      ∀ p, r.get F.PRT_STATUS_LINK_UP p = s.get F.PRT_STATUS_LINK_UP p) ∧
  (∀ s : State, (s.up = true → s.tick = s.unitsBack.tickTime) ∧ (s.up = false → s.tick = s.tickTime))

/-! ## Clocks, temperature and rails -/

/-- Loss and return of REFCLK, an exit from hibernate that waited for it among the effects, the end of holdover and the relock of the clocks; a skewed pair of rails, the thermal trip, a temperature sample (R101 to R103, R125, R549). -/
def Obligations.ClockAndHeat : Prop :=
  (∀ s : State, s.hummockUp = true → s.pins.refclk = true → Completes .refclkLoss s fun t =>
    t.pins.refclk = false ∧ t.get F.CLK_STATUS_REFCLK_LOSS 0 = 1 ∧ (s.up = true → t.get F.CLK_STATUS_HOLDOVER 0 = 1)) ∧
  (∀ s : State, s.clocks.hibWake = none → exec .refclkReturn s = .next { s with pins := { s.pins with refclk := true } }) ∧
  (∀ (code : Nat) (b : BootFindings) (s : State), s.clocks.hibWake = some (code, b) → s.hummockUp = true → s.get F.HUM_DEVICE_STATE_STATE 0 = 3 →
    s.pins.held = false → bitOf (s.get F.TOP_BOOT_RAIL_MISSING 0) 0 = false → b.romOk = true → b.sramOk = true →
    Completes .refclkReturn s fun t => t.pins.refclk = true ∧ t.get F.TOP_BOOT_READY 0 = 1 ∧ t.get F.TOP_BOOT_STEP 0 = 9) ∧
  (∀ s : State, s.hummockUp = true → s.get F.CLK_STATUS_HOLDOVER 0 = 1 → s.pins.refclk = false → s.clocks.heldOff = false →
    Completes .holdoverExpiry s fun t => t.get F.CLK_STATUS_HOLDOVER_EXPIRED 0 = 1) ∧
  (∀ s : State, s.hummockUp = true → s.get F.CLK_STATUS_HOLDOVER 0 = 1 → s.pins.refclk = true →
    exec .clockRelock s = .next ({ s with clocks := { s.clocks with heldOff := false } }.set F.CLK_STATUS_HOLDOVER 0 0)) ∧
  (∀ (pair : Nat) (s : State), s.hummockUp = true → pair < 4 → Completes (.railSkew pair) s fun t =>
    bitOf (t.get F.CLK_STATUS_RAIL_SKEW 0) pair = true ∧ (SMap.find t.sundew.caps 0x001).isSome = true) ∧
  (∀ s : State, s.hummockUp = true → s.tooHot = true → s.pins.thermTrip = false → Completes .thermTrip s fun t =>
    t.pins.thermTrip = true ∧ (SMap.find t.sundew.caps 0x001).isSome = true) ∧
  (∀ (l : List Int) (s : State), s.hummockUp = true → l.length = 16 → Completes (.thermalSample l) s fun t =>
    ∀ q, q < 4 → t.get F.HUM_TEMP_TJ q = (quadReading l q % 2048).toNat)

/-- A write of CLK_QCTRL in the full state takes its POINT and its VID_SETTLE; the end of VID_SETTLE switches the divider (R104 to R106). -/
def Obligations.OperatingPoints : Prop :=
  (∀ (q v : Nat) (s : State), s.quadUp q = true → q < 4 → s.get F.CLK_QCTRL_CHANGING q = 0 → s.clocks.change = none → bits v 0 2 ≠ 3 →
    bits v 0 2 ≤ s.get F.CLK_QCTRL_FLOOR q → Completes (.clkQctrlWrite q v) s fun t =>
      t.get F.CLK_QCTRL_POINT q = bits v 0 2 ∧ t.get F.CLK_QCTRL_VID_SETTLE q = max 10 (min 1000 (bits v 8 10))) ∧
  (∀ (q v : Nat) (s : State), s.quadUp q = true → q < 4 → s.get F.CLK_QCTRL_CHANGING q = 0 → s.clocks.change = none → bits v 0 2 ≠ 3 →
    s.get F.CLK_QCTRL_FLOOR q < bits v 0 2 → Completes (.clkQctrlWrite q v) s fun t =>
      t.get F.CLK_QCTRL_POINT q = s.get F.CLK_QCTRL_POINT q ∧ t.get F.CLK_QCTRL_VID_SETTLE q = max 10 (min 1000 (bits v 8 10)) ∧
        t.get F.CLK_STATUS_DVFS_REFUSED 0 = 1) ∧
  (∀ (q v : Nat) (s : State), s.quadUp q = true → q < 4 → s.get F.CLK_QCTRL_CHANGING q = 1 → s.clocks.change = none →
    exec (.clkQctrlWrite q v) s = .next (s.evC F.CLK_STATUS_DVFS_REFUSED 0)) ∧
  (∀ (q p : Nat) (s : State), s.quadUp q = true → SMap.find s.clocks.raising q = some p → s.clocks.change = none →
    Completes (.vidSettleExpiry q) s fun t => t.get F.CLK_QCTRL_ACTUAL q = p % 4 ∧ t.get F.CLK_QCTRL_CHANGING q = 0)

/-! ## Sleep -/

/-- Tiles enter doze and torpor where the rules let them; in standby they are put into torpor, R119 (R107, R108, R110, R111). That standby does so also to a tile whose TORPOR_IDLE is 0 is the model's choice of log 65. -/
def Obligations.TilesFallAsleep : Prop :=
  (∀ (i : Nat) (s : State), s.tileUp i = true → i < 32 → s.get F.HUM_DEVICE_STATE_STATE 0 ≠ 2 → s.swap = none → s.sleepOf i = 0 →
    (s.tileSleep i).waking = none → s.tileIdle i = true → s.get F.PWQ_TILE_SLEEP_DOZE_IDLE i ≠ 0 →
    (∀ p ∈ s.portsOf i, s.get F.PWQ_PORT_SLEEP_NO_DOZE p = 0) → s.timerWithin i 2000 = false →
    exec (.tileDozeEntry i) s = .next (s.set F.PWQ_TILE_SLEEP_STATE i 1)) ∧
  (∀ (i : Nat) (s : State), s.tileUp i = true → i < 32 → s.swap = none → s.sleepOf i ≤ 1 → (s.tileSleep i).waking = none → s.tileIdle i = true →
    s.torporAllowed i = true → (s.get F.PWQ_TILE_SLEEP_TORPOR_IDLE i ≠ 0 ∨ s.standbyEntry i = true) →
    exec (.tileTorporEntry i) s = .next (s.set F.PWQ_TILE_SLEEP_STATE i 3)) ∧
  (∀ (i : Nat) (s : State), s.quadUp (i / 8) = true → i < 32 → s.sleepOf i = 3 → (s.tileSleep i).waking = none →
    Completes (.torporEntered i) s fun t => t.sleepOf i = 2)

/-- Wakes: of the sources that wake the tile the lowest is recorded, the wake's end leaves the tile awake, and a Glow-worm or a timer wakes a sleeping tile (R109, R111, R113, R115, R144). -/
def Obligations.TilesWake : Prop :=
  (∀ (i x : Nat) (l : List Nat) (s : State), s.quadUp (i / 8) = true → i < 32 → x ∈ l → s.sourceWakes i x = true →
    (∀ y ∈ l, s.sourceWakes i y = true → x ≤ y) → (s.tileSleep i).waking = none →
    Completes (.tileWake i l) s fun t => (t.tileSleep i).waking = some x ∧ t.get F.PWQ_TILE_SLEEP_LAST_WAKE i = x % 16 ∧ t.sleepOf i = s.sleepOf i) ∧
  (∀ (i x : Nat) (s : State), s.quadUp (i / 8) = true → i < 32 → (s.tileSleep i).waking = some x → s.pins.refclk = true → s.time.unaligned.contains i = false →
    s.clocks.change = none → Completes (.tileAwake i) s fun t => t.sleepOf i = 0 ∧ (t.tileSleep i).waking = none) ∧
  (∀ (i : Nat) (s : State), s.quadUp (i / 8) = true → i < 32 → s.sleepOf i = 1 → s.timerWithin i 1000 = true → (s.tileSleep i).waking = none →
    Completes (.timerPrewake i) s fun t => (t.tileSleep i).waking = some 6) ∧
  (∀ (lane : Nat) (l : List (Bool × Nat)) (c : PortCfg) (s : State), s.quadUp (lane / 128) = true → lane < 512 → s.portOfLane lane = some c →
    s.get F.PRT_CFG_ADMIN_UP c.lane = 1 → (s.rouseSeen ⟨lane, l⟩).1 = true → s.sleepOf (lane / 16) = 2 → (s.tileSleep (lane / 16)).waking = none →
    Completes (.rouseDetect ⟨lane, l⟩) s fun t => (t.tileSleep (lane / 16)).waking = some 3) ∧
  (∀ (lane dark light : Nat) (c : PortCfg) (s : State), s.quadUp (lane / 128) = true → lane < 512 → s.portOfLane lane = some c →
    s.railMissing 4 = false → s.get F.PRT_CFG_ADMIN_UP c.lane = 1 → 100000 ≤ dark → 10000 ≤ light → s.get F.PWQ_PORT_SLEEP_DARK_WAKE c.lane = 1 → s.sleepOf (lane / 16) = 2 → (s.tileSleep (lane / 16)).waking = none →
    Completes (.darkToLight ⟨lane, dark, light⟩) s fun t => (t.tileSleep (lane / 16)).waking = some 4)

/-- A rouse pattern leaves once while the link is down; Caddis sleeps with nothing pending and wakes (when it sleeps, and that the Hummock restarts it, is the model's choice of log 66); SLEEP_POLICY takes the device to the full and lean states, to standby and to hibernate, whose STATE reads the new value as the change begins, the model's choice of log 64; a PPS_IN edge, a Glow-worm or an SMBus write ends hibernate with a boot (R116 to R121). -/
def Obligations.DeviceStates : Prop :=
  (∀ (p : Nat) (c : PortCfg) (s : State), s.up = true → s.clocks.rouse.contains p = true → s.get F.PRT_STATUS_LINK_UP p = 0 → s.port p = some c →
    s.portDark p = false → (∃ lane ∈ c.lanes, s.laneLight lane = true) →
    exec (.rouseTx p) s = .next { s with clocks := { s.clocks with rouse := s.clocks.rouse.erase p }, out := { s.out with rouse := p :: s.out.rouse } }) ∧
  (∀ s : State, s.up = true → s.caddisIdle = true → exec .caddisSleep s = .next { s with clocks := { s.clocks with caddisAsleep := true } }) ∧
  (∀ s : State, s.hummockUp = true → exec .caddisWake s = .next { s with clocks := { s.clocks with caddisAsleep := false } }) ∧
  (∀ (tag : Nat) (s : State), s.mailReady 12 tag [0] → Completes (.sleepPolicyFull tag) s fun t => t.get F.HUM_DEVICE_STATE_STATE 0 = 0) ∧
  (∀ (tag : Nat) (s : State), s.mailReady 12 tag [1] → Completes (.sleepPolicyLean tag) s fun t => t.get F.HUM_DEVICE_STATE_STATE 0 = 1) ∧
  (∀ (tag : Nat) (s : State), s.mailReady 12 tag [2] → Completes (.sleepPolicyStandby tag) s fun t => t.get F.HUM_DEVICE_STATE_STATE 0 = 2) ∧
  (∀ (tag : Nat) (s : State), s.mailReady 12 tag [3] → Completes (.sleepPolicyHibernate tag) s fun t =>
    t.get F.HUM_DEVICE_STATE_STATE 0 = 3 ∧ t.keys = [] ∧ t.path.queues = [] ∧ t.pins.hostAllowed = false) ∧
  (∀ (c : HibExit) (code : Nat) (b : BootFindings) (s : State), s.hummockUp = true → (s.exitCode c).1 = some code → s.get F.HUM_DEVICE_STATE_STATE 0 = 3 →
    s.pins.refclk = true → s.pins.held = false → bitOf (s.get F.TOP_BOOT_RAIL_MISSING 0) 0 = false → b.romOk = true → b.sramOk = true →
    Completes (.hibernateExit c b) s fun t => t.get F.TOP_BOOT_READY 0 = 1 ∧ t.get F.TOP_BOOT_STEP 0 = 9)

/-! ## Ports -/

/-- A port's link comes up and goes down, but for one in near-end loopback, whose received signal is ignored; its hold expires; a lane that may not send is dark, and with the link down the others send remote fault until their partner's remote fault is all that the port receives, which log 46 gives it (R133, R134, R136, R139, R141, R142, R170, R171). That a hold of no length expires at once with HOLD_EXPIRED set is the model's choice of log 67. -/
def Obligations.Links : Prop :=
  (∀ (p deskew : Nat) (c : PortCfg) (s : State), s.up = true → s.port p = some c → s.get F.PRT_STATUS_LINK_UP p = 0 → s.canLink p c = true →
    Completes (.linkUp p deskew) s fun t => t.get F.PRT_STATUS_LINK_UP p = 1 ∧ t.get F.PRT_STATUS_HOLD p = 0 ∧ t.get F.PRT_EVENT_LINK_UP p = 1 ∧
      (t.live p).flushing = false) ∧
  (∀ (p : Nat) (s : State), s.up = true → s.isPort p = true → s.get F.PRT_STATUS_LINK_UP p = 1 → s.get F.PRT_CFG_LOOPBACK p ≠ 1 →
    Completes (.linkDown p) s fun t => s.wentDown t p) ∧
  (∀ (p : Nat) (s : State), s.get F.PRT_CFG_LOOPBACK p = 1 → exec (.linkDown p) s = .next s) ∧
  (∀ (p : Nat) (s : State), s.up = true → s.isPort p = true → s.get F.PRT_STATUS_HOLD p = 1 → Completes (.holdExpiry p) s fun t =>
    t.get F.PRT_STATUS_HOLD p = 0 ∧ t.get F.PRT_EVENT_HOLD_EXPIRED p = 1 ∧ (t.live p).flushing = true) ∧
  (∀ (p lane : Nat) (s : State), (s.get F.PRT_CFG_ADMIN_UP p = 0 ∨ s.sleepOf (p / 16) = 2 ∨ s.lanesOff p = true ∨
    (optical s.variant (lane / 16) = true ∧ (bitOf (s.get F.OPT_STATUS_LASER_OK (lane / 16)) (lane % 16 / 8) = false ∨ s.get F.OPT_STATUS_CAL_DONE (lane / 16) = 0))) →
    s.txSignal p lane = .dark) ∧
  (∀ (p lane : Nat) (s : State), s.laneDark p lane = false → s.get F.PRT_STATUS_LINK_UP p = 0 → s.get F.PRT_CFG_LOOPBACK p ≠ 1 →
    (s.txSignal p lane = .idle ↔ bitOf (s.portSees p) 1 = true ∧ bitOf (s.portSees p) 0 = false) ∧ (s.txSignal p lane ≠ .idle → s.txSignal p lane = .remoteFault))

/-- ADMIN_UP and LOOPBACK as written. A port with a link goes down, one that goes down administratively is dark on every lane, one that comes up starts its hold, which ends at once where it has no length, with HOLD_EXPIRED set, the model's choice of log 67; a write that changes nothing does nothing (R135, R136, R139, R568). -/
def Obligations.PortAdministration : Prop :=
  (∀ (p : Nat) (s : State), s.tileReach (tileOf p) = true → s.isPort p = true → s.get F.PRT_STATUS_LINK_UP p = 0 →
    exec (.portAdminDown p) s = .next ((s.set F.PRT_CFG_ADMIN_UP p 0).glowOff p)) ∧
  (∀ (p : Nat) (s : State), s.tileReach (tileOf p) = true → s.isPort p = true → Completes (.portAdminDown p) s fun t =>
    t.get F.PRT_CFG_ADMIN_UP p = 0 ∧ t.get F.PRT_STATUS_LINK_UP p = 0 ∧ ∀ lane, t.txSignal p lane = .dark) ∧
  (∀ (p : Nat) (s : State), s.tileReach (tileOf p) = true → s.isPort p = true → s.get F.PRT_STATUS_LINK_UP p = 1 →
    Completes (.portAdminDown p) s fun t => s.wentDown t p) ∧
  (∀ (p : Nat) (s : State), s.tileReach (tileOf p) = true → s.isPort p = true → s.get F.PRT_CFG_ADMIN_UP p = 0 → s.get F.PRT_STATUS_LINK_UP p = 0 →
    Completes (.portAdminUp p) s fun t => t.get F.PRT_CFG_ADMIN_UP p = 1 ∧
      (s.get F.PRT_LINK_HOLD_HOLD_US p ≠ 0 → t.get F.PRT_STATUS_HOLD p = 1) ∧
      (s.get F.PRT_LINK_HOLD_HOLD_US p = 0 → t.get F.PRT_STATUS_HOLD p = 0 ∧ t.get F.PRT_EVENT_HOLD_EXPIRED p = 1 ∧ (t.live p).flushing = true)) ∧
  (∀ (p : Nat) (s : State), s.tileReach (tileOf p) = true → s.isPort p = true → (s.get F.PRT_CFG_ADMIN_UP p = 1 ∨ s.get F.PRT_STATUS_LINK_UP p = 1) →
    exec (.portAdminUp p) s = .next (s.set F.PRT_CFG_ADMIN_UP p 1)) ∧
  (∀ (p mode : Nat) (s : State), s.tileReach (tileOf p) = true → s.isPort p = true → mode < 3 → mode ≠ s.get F.PRT_CFG_LOOPBACK p →
    s.get F.PRT_STATUS_LINK_UP p = 0 → exec (.loopbackChange p mode) s = .next (s.set F.PRT_CFG_LOOPBACK p mode)) ∧
  (∀ (p mode : Nat) (s : State), s.tileReach (tileOf p) = true → s.isPort p = true → mode < 3 → mode ≠ s.get F.PRT_CFG_LOOPBACK p →
    s.get F.PRT_STATUS_LINK_UP p = 1 → Completes (.loopbackChange p mode) s fun t => t.get F.PRT_CFG_LOOPBACK p = mode ∧ s.wentDown t p) ∧
  (∀ (p mode : Nat) (s : State), (3 ≤ mode ∨ mode = s.get F.PRT_CFG_LOOPBACK p) → exec (.loopbackChange p mode) s = .next s)

/-- Pauses: a class resumes when its time is over, a waiting pause frame leaves ahead of every queue, a refresh queues one again (R156, R158, R159). That a port in far-end loopback sends it too is the model's choice of log 110, and its priority inside a PFC frame that of log 68. -/
def Obligations.Pauses : Prop :=
  (∀ (p c : Nat) (s : State), s.up = true → s.isPort p = true → c < 8 → Completes (.pauseExpiry p c) s fun t =>
    bitOf (t.get F.PRT_STATUS_RX_PAUSED p) c = false ∧ bitOf (t.live p).pauseIn c = false ∧ t.path.queues = s.path.queues ∧ t.path.bufs = s.path.bufs ∧ t.host = s.host ∧ t.out = s.out) ∧
  (∀ (p mask quanta : Nat) (rest : List (Nat × Nat)) (s : State), s.up = true → s.isPort p = true → (s.live p).pauses = (mask, quanta) :: rest →
    s.get F.PRT_STATUS_LINK_UP p = 1 → s.get F.PRT_CFG_LOOPBACK p ≠ 1 → Completes (.pauseFrameSend p) s fun t =>
      t.out.frames = (p, s.pauseFrame p mask quanta, true) :: s.out.frames ∧ (t.live p).pauses = rest ∧ t.path.queues = s.path.queues) ∧
  (∀ (p c : Nat) (s : State), s.up = true → s.isPort p = true → c < 8 → (s.get F.PRT_CFG_FC_MODE p = 1 ∨ s.get F.PRT_CFG_FC_MODE p = 2) →
    s.get F.PRT_STATUS_TX_XOFF p &&& s.fcMask p c ≠ 0 → s.get F.PRT_FC_TX_XON p * 256 < (s.occupancy p fun x => bitOf (s.fcMask p c) x) →
    Completes (.pauseRefresh p c) s fun t => (t.live p).pauses = (s.live p).pauses ++ [(s.fcMask p c, s.get F.PRT_FC_TX_QUANTA p)])

/-- PRT_FC_TX takes a write whose XON lies below its XOFF and whose QUANTA is not zero; any other is ignored as a whole and sets FC_CFG_ERR (R164). -/
def Obligations.FlowControlWrite : Prop :=
  (∀ (p v : Nat) (s : State), s.tileReach (tileOf p) = true → s.isPort p = true → bits v 20 20 < bits v 0 20 → bits v 40 16 ≠ 0 →
    Completes (.prtFcTxWrite p v) s fun t => t.get F.PRT_FC_TX_XOFF p = bits v 0 20 ∧ t.get F.PRT_FC_TX_XON p = bits v 20 20 ∧
      t.get F.PRT_FC_TX_QUANTA p = bits v 40 16 ∧ t.path = s.path ∧ t.host = s.host ∧ t.out = s.out) ∧
  (∀ (p v : Nat) (s : State), s.tileReach (tileOf p) = true → s.isPort p = true → (bits v 0 20 ≤ bits v 20 20 ∨ bits v 40 16 = 0) →
    exec (.prtFcTxWrite p v) s = .next (s.evPrt F.PRT_EVENT_FC_CFG_ERR p))

/-! ## Optics, the Causeway and the ring -/

/-- A laser fibre is lit or lost, the tracking loop reaches its limit, a calibration starts and its end answers its command, with OPT_OK where no lane has failed or is fenced and OPT_LANE_FENCED otherwise, where a lane of no configured port counts too, the model's choice of log 70 (R167, R169, R170, R172, R173, Table 6.2). -/
def Obligations.Optics : Prop :=
  (∀ (e f : Nat) (s : State), s.up = true → e < 32 → f < 2 → optical s.variant e = true → s.railMissing 5 = false → bitOf (s.get F.OPT_STATUS_LASER_OK e) f = false →
    Completes (.laserLit e f) s fun t => bitOf (t.get F.OPT_STATUS_LASER_OK e) f = true ∧ t.path = s.path) ∧
  (∀ (e f : Nat) (s : State), s.up = true → e < 32 → f < 2 → optical s.variant e = true → bitOf (s.get F.OPT_STATUS_LASER_OK e) f = true →
    Completes (.laserLost e f) s fun t => bitOf (t.get F.OPT_EVENT_LASER_LOSS e) f = true ∧ (SMap.find t.sundew.caps (srcTile e 2)).isSome = true) ∧
  (∀ (e lane : Nat) (s : State), s.up = true → e < 32 → lane < 16 → optical s.variant e = true → s.get F.OPT_STATUS_CAL_DONE e = 1 →
    Completes (.trackLimit ⟨e, lane⟩) s fun t => t.get F.OPT_EVENT_TRACK_LIMIT e = 1 ∧ (SMap.find t.sundew.caps (srcTile e 2)).isSome = true) ∧
  (∀ (tag e : Nat) (s : State), s.mailReady 8 tag [e] → e < 32 → optical s.variant e = true → s.tileUp e = true → s.sleepOf e ≠ 2 → s.engineDark e = false →
    Completes (.optCalibrate tag e) s fun t => SMap.find t.optics.cal e = some tag) ∧
  (∀ (e tag : Nat) (bad : List Nat) (s : State), s.up = true → SMap.find s.optics.cal e = some tag → Completes (.optCalibrateDone e bad) s fun t =>
    SMap.find t.optics.cal e = none ∧
      t.answered 8 tag 0 (if t.get F.OPT_STATUS_LANE_FENCED e = 0 ∧ ∀ lane ∈ bad, 16 ≤ lane then 0 else 3))

/-- The bypasses open and close; an element fault closes its group with cause 7, and from then on an open answers CSW_FAULT; an open that begins is answered when the bypass is open, the model's choice of log 33; RING_JOIN starts the agent with its sequence at 0, RING_LEAVE stops it, and that it answers and clears JOINED at once is the model's choice of log 33; a probe is numbered, from 0 and modulo 256 as log 132 chooses, and waits, a missing reply leaves the span alone; RNG_GROUP_CTX takes ranges that fit (R175 to R180, R400 to R402, R404, R405). -/
def Obligations.CausewayAndRing : Prop :=
  (∀ (tag g : Nat) (s : State), s.mailReady 11 tag [g, 1] → groupPresent s.variant g = true → s.get F.CSW_STATUS_MEMBER g = 1 →
    s.optics.faulted.contains g = false → s.get F.CSW_STATUS_JOINED g = 1 → s.csw g = 0 → s.cswReady g = true →
    Completes (.causewayOpen tag g) s fun t => t.csw g = 1 ∧ (g, tag) ∈ t.optics.opening) ∧
  (∀ (g : Nat) (s : State), s.up = true → g < 4 → s.csw g = 1 → s.railMissing 5 = false → Completes (.bypassOpened g) s fun t =>
    t.csw g = 2 ∧ ∀ tag, (g, tag) ∈ s.optics.opening → t.answered 11 tag 0 0) ∧
  (∀ (g : Nat) (s : State), g < 4 → s.csw g = 3 → (∀ p ∈ ringPorts g, s.get F.PRT_STATUS_LINK_UP p = 0) →
    Completes (.bypassClosed g) s fun t => t.csw g = 0) ∧
  (∀ (g : Nat) (s : State), s.up = true → g < 4 → groupPresent s.variant g = true → (s.csw g = 1 ∨ s.csw g = 2) → Completes (.elementFault g) s fun t =>
    t.csw g = 3 ∧ t.get F.CSW_STATUS_CLOSE_CAUSE g = 7 ∧ t.optics.faulted.contains g = true ∧ bitOf (t.get F.CSW_EVENT_ELEMENT_FAULT 0) g = true) ∧
  (∀ (tag g : Nat) (s : State), s.mailReady 11 tag [g, 1] → groupPresent s.variant g = true → s.get F.CSW_STATUS_MEMBER g = 1 →
    s.optics.faulted.contains g = true → Completes (.causewayOpen tag g) s fun t => t.answered 11 tag 0 4 ∧ t.csw g = s.csw g) ∧
  (∀ (tag g : Nat) (s : State), s.mailReady 9 tag [g] → groupPresent s.variant g = true → s.get F.RNG_GROUP_CFG_MEMBER g = 1 → s.tileUp (8 * g) = true →
    (∀ p ∈ ringPorts g, s.isPort p = true) → s.get F.CSW_STATUS_JOINED g = 0 → Completes (.ringJoin tag g) s fun t =>
      t.get F.CSW_STATUS_JOINED g = 1 ∧ t.get F.RNG_GROUP_STATUS_NEXT_SEQ g = 0 ∧ t.answered 9 tag 0 0) ∧
  (∀ (tag g : Nat) (s : State), s.mailReady 10 tag [g] → groupPresent s.variant g = true → s.get F.RNG_GROUP_CFG_MEMBER g = 1 →
    s.get F.CSW_STATUS_JOINED g = 1 → Completes (.ringLeave tag g) s fun t => t.get F.CSW_STATUS_JOINED g = 0 ∧ t.answered 10 tag 0 0) ∧
  (∀ (p g : Nat) (s : State), s.up = true → s.agentOn p = some g → s.get F.PRT_STATUS_LINK_UP p = 1 → Completes (.ringProbeSend p) s fun t =>
    ∃ x, SMap.find t.probes p = some x ∧ x.waiting = s.outstanding p ++ [x.number] ∧
      x.number = ((SMap.find s.probes p).elim 0 fun x => x.number + 1) % 256) ∧
  (∀ (p g n : Nat) (rest : List Nat) (x : Probe) (s : State), s.up = true → s.agentOn p = some g → SMap.find s.probes p = some x →
    x.waiting = n :: rest → Completes (.probeTimeout p) s fun t => SMap.find t.probes p = some { x with waiting := rest } ∧
      t.get F.RNG_CNT_COUNT (6 * g + 5) = satAdd (s.get F.RNG_CNT_COUNT (6 * g + 5)) 1 (2 ^ 64 - 1)) ∧
  (∀ (g v : Nat) (s : State), s.up = true → g < 4 → bits v 0 16 + bits v 32 17 ≤ 65536 → bits v 16 16 + bits v 32 17 ≤ 65536 →
    Completes (.rngGroupCtxWrite g v) s fun t => t.get F.RNG_GROUP_CTX_CTX_BASE g = bits v 0 16 ∧ t.get F.RNG_GROUP_CTX_NODE_LOW g = bits v 16 16 ∧
      t.get F.RNG_GROUP_CTX_NODE_COUNT g = bits v 32 17) ∧
  (∀ (g v : Nat) (s : State), s.up = true → g < 4 → (65536 < bits v 0 16 + bits v 32 17 ∨ 65536 < bits v 16 16 + bits v 32 17) →
    exec (.rngGroupCtxWrite g v) s = .next (s.evC F.RNG_EVENT_CFG_REFUSED 0))

/-- Close returns CSW_OK for a group that is present, whatever its state, and an open group starts to close (R175, R180). That the answer comes while the bypass only begins to close is the model's choice of log 33. -/
def Obligations.CausewayClose : Prop :=
  (∀ (tag g : Nat) (s : State), s.mailReady 11 tag [g, 0] → groupPresent s.variant g = true →
    Completes (.causewayClose tag g) s fun t => t.answered 11 tag 0 0) ∧
  (∀ (tag g : Nat) (s : State), s.mailReady 11 tag [g, 0] → groupPresent s.variant g = true → s.csw g = 2 →
    Completes (.causewayClose tag g) s fun t => t.csw g = 3)

/-! ## The frame path -/

/-- A frame at a port: a runt is counted and goes no further, a good frame is staged whole (R145, R192, R193). -/
def Obligations.FrameArrives : Prop :=
  (∀ (p : Nat) (bs : List Byte) (fcsOk : Bool) (bad : Option Nat) (cw : List Nat) (c : PortCfg) (s : State), s.tileUp (p / 16) = true →
    s.port p = some c → s.get F.PRT_STATUS_LINK_UP p = 1 → s.get F.PRT_CFG_LOOPBACK p = 0 → bs ≠ [] → bs.length + 4 < 64 →
    s.stagedBytes p + (bs.length + 4) ≤ c.stagingBytes → Completes (.rxFrame p bs fcsOk bad cw) s fun t =>
      let n := 64 * p + if fcsOk && !fecFails c cw then 9 else 10
      t.get F.PRT_CNT_COUNT n = satAdd (s.get F.PRT_CNT_COUNT n) 1 (2 ^ 64 - 1) ∧ t.path.staging = s.path.staging ∧ t.path.queues = s.path.queues) ∧
  (∀ (p : Nat) (bs : List Byte) (bad : Option Nat) (cw : List Nat) (c : PortCfg) (s : State), s.tileUp (p / 16) = true → s.port p = some c →
    s.get F.PRT_STATUS_LINK_UP p = 1 → s.get F.PRT_CFG_LOOPBACK p = 0 → fecFails c cw = false → (s.live p).secRx = false →
    s.get F.PRT_SEC_CFG_RX_EN p = 0 → 64 ≤ bs.length + 4 → bs.length + 4 ≤ c.mtu →
    etherType bs ≠ 0x8808 → s.earlyOf p c.mtu (s.parse p bs) (bs.length + 4) = none → s.stagedBytes p + (bs.length + 4) ≤ c.stagingBytes →
    Completes (.rxFrame p bs true bad cw) s fun t => ∃ f : Frame, t.staged p = s.staged p ++ [f] ∧ f.port = p ∧ f.bytes = bs ∧ f.mark = 0)

/-- A staged frame is released into its tile's farm, a head is dealt to an engine, and the engine completes it (R193, R198, R199). -/
def Obligations.FrameIsParsed : Prop :=
  (∀ (p : Nat) (f : Frame) (rest : List Frame) (s : State), s.up = true → s.isAnyPort p = true → s.staged p = f :: rest → s.sleepOf (tileOf p) = 0 →
    (s.live p).orderHold = false → s.quiesced (quadOf p) = false → s.isFenced (srcTile (tileOf p) 0) 0 = false →
    Completes (.stagingRelease p) s fun t => t.staged p = rest ∧
      ∃ f' : Frame, (t.farm (tileOf p)).heads = (s.farm (tileOf p)).heads ++ [f'] ∧ f'.id = f.id ∧ f'.bytes = f.bytes ∧ f'.port = f.port) ∧
  (∀ (i e : Nat) (h : Frame) (s : State), s.up = true → i < 32 → s.sleepOf i = 0 → (s.farm i).heads = [h] → (s.farm i).entries.length < 64 →
    ((s.farm i).entries.findIdx? fun x => x.engine.isNone && !x.done) = none → s.nextEngine i = some e → Completes (.parseDeal i) s fun t =>
      (t.farm i).heads = [] ∧ (t.farm i).last = (e + 1) % 48 ∧
        (t.farm i).entries = (s.farm i).entries ++ [{ frame := h, cfg := s.parseCfg h.port, engine := some e, errors := 0, done := false }]) ∧
  (∀ (i e k : Nat) (x : FarmEntry) (s : State), s.up = true → i < 32 → (s.farm i).entries.findIdx? (·.heldBy e) = some k →
    (s.farm i).entries[k]? = some x → (parseWith x.cfg x.frame.port x.frame.bytes).2.2 = false → Completes (.parseComplete i e false) s fun t =>
      ∃ y ∈ (t.farm i).entries, y.done = true ∧ y.frame.id = x.frame.id ∧ y.frame.bytes = x.frame.bytes)

/-- A completed entry leaves in port order and is stamped with the current epoch. One that its descriptor directs crosses to its quadrant, one that a trap takes crosses to the host. Any other is looked up: the first stage of the order that decides gives its copies, a discard is counted under its code, policing may discard what is left. Bridged by the FDB, else flooded; routed by host route, LPM or (S,G) with its TTL and RPF checks; next hops, ECMP groups and LAGs by the hash; ACL, stream filter, gate and meter. With several tables the ACL stands for the order. That the TTL is tested also where the next hop aims at the host or discards is the model's choice of log 121 (R188, R202, R241, R242, R243, R244, R278, R344, R379, R380, R383, R514). -/
def Obligations.FrameIsDecided : Prop :=
  (∀ (i : Nat) (f : Frame) (rest : List FarmEntry) (d : Direct) (s : State), s.up = true → i < 32 → s.time.unaligned.contains i = false →
    takeReleased [] (s.farm i).entries = some (f, rest) →
    f.direct = some d → Completes (.reorderRelease i {}) s fun t =>
      (t.farm i).entries = rest ∧ ∃ c : Copy, t.path.crossing = s.path.crossing ++ [c] ∧ c.quadrant = quadOf d.dest ∧ c.target = .directed d ∧
        c.frame.id = f.id ∧ c.frame.epoch = s.get F.TUE_EPOCH_CURRENT 0) ∧
  (∀ (i r : Nat) (f : Frame) (rest : List FarmEntry) (s : State), s.up = true → i < 32 → s.time.unaligned.contains i = false →
    takeReleased [] (s.farm i).entries = some (f, rest) →
    f.direct = none → f.vec.ringTag = false →
    s.trapReason f = some r →
    Completes (.reorderRelease i {}) s fun t =>
      (t.farm i).entries = rest ∧ ∃ c : Copy, t.path.crossing = s.path.crossing ++ [c] ∧ c.quadrant = quadOf f.port ∧ c.frame.id = f.id ∧
        c.frame.epoch = s.get F.TUE_EPOCH_CURRENT 0 ∧ ∃ n, c.target = .host (quadOf f.port) n r) ∧
  -- what becomes of an ordinary frame, by its decision
  (∀ (i : Nat) (f : Frame) (rest : List FarmEntry) (s : State), s.ordinary i f rest →
    let u := s.released i rest
    let g := u.asLooked f
    let k := (u.stages g g.hash {}).1
    (∀ c, k.decision = .discard c → Completes (.reorderRelease i {}) s fun t => (t.farm i).entries = rest ∧ s.discards t f.port c) ∧
    (∀ p r, k.decision = .port p r → k.meter = none → k.sfFilter = none → k.aclAction = none → Completes (.reorderRelease i {}) s fun t =>
      (t.farm i).entries = rest ∧ ∃ c : Copy, t.path.crossing = s.path.crossing ++ [c] ∧ c.quadrant = quadOf p ∧ c.merge = k.merge ∧ c.frame.id = f.id ∧
        c.frame.cls = s.mappedClass f ∧
        c.target = .unicast p (r.getD (s.get F.RWE_PORT_DEFAULT_RECIPE p, s.get F.RWE_PORT_DEFAULT_PARAM p)).1
          (r.getD (s.get F.RWE_PORT_DEFAULT_RECIPE p, s.get F.RWE_PORT_DEFAULT_PARAM p)).2) ∧
    (∀ n, k.decision = .group n → k.meter = none → k.sfFilter = none → k.aclAction = none → bitOf (s.obj 3 n) 192 = true → Completes (.reorderRelease i {}) s fun t =>
      t.path.crossing.map (fun c => (c.quadrant, c.target)) = s.path.crossing.map (fun c => (c.quadrant, c.target)) ++
        ((List.range 4).filter fun q => bits (s.obj 3 n) (48 * q + 21) 12 != 0).map fun q =>
          (q, .group (bits (s.obj 3 n) (48 * q) 21) (bits (s.obj 3 n) (48 * q + 21) 12) (bitOf (s.obj 3 n) 193))) ∧
    (∀ n, k.decision = .group n → bitOf (s.obj 3 n) 192 = false → Completes (.reorderRelease i {}) s fun t => s.discards t f.port cNoRoute) ∧
    (∀ r, k.decision = .host r → k.meter = none → k.sfFilter = none → k.aclAction = none → Completes (.reorderRelease i {}) s fun t =>
      ∃ c : Copy, t.path.crossing = s.path.crossing ++ [c] ∧ c.quadrant = quadOf f.port ∧ c.frame.id = f.id ∧ ∃ n, c.target = .host (quadOf f.port) n r) ∧
    (∀ p r c, k.decision = .port p r → k.aclAction = none → ((u.stages g g.hash {}).2.police g k g.cls).1 = .drop c →
      Completes (.reorderRelease i {}) s fun t => s.discards t f.port c)) ∧
  -- bridged: the FDB entry, else the flood group
  (∀ (g : Frame) (s : State), s.routing g = (false, false) → s.noStream g.port → s.get F.TCM_PORT_L3_ACL_EN (l3Index g.port) = 0 →
    let hit := (s.portLookup g.port F.EXM_PORT_TABLES_FDB_T F.EXM_PORT_TABLES_FDB_EN (s.fid g * 2 ^ 48 + g.da)).1
    let k := (s.stages g g.hash {}).1
    (∀ e, hit = some e → (s.searchOf (quadOf g.port)).2.contains .fdb = true → k.decision = s.toFdb e.payload g.hash) ∧
      (hit = none → k.decision = .group (s.get F.TCM_PORT_L3_FLOOD_GROUP (l3Index g.port))) ∧ k.meter = none ∧ k.sfFilter = none ∧ k.aclAction = none ∧ k.merge = none) ∧
  -- routed by LPM: the lowest row that matches, with the TTL check; without one no route
  (∀ (g : Frame) (first rows : Nat) (s : State), s.routing g = (true, false) → s.noStream g.port → s.get F.TCM_PORT_L3_ACL_EN (l3Index g.port) = 0 →
    s.get F.EXM_PORT_TABLES_HR4_EN g.port = 0 → s.get F.EXM_PORT_TABLES_HR6_EN g.port = 0 → (s.searchOf (quadOf g.port)).2.contains .lpm = true →
    s.searchRegion (quadOf g.port) 16 .lpm = some (first, rows) →
    let won := s.winner (quadOf g.port) first rows false (s.lpmKey g) []
    let k := (s.stages g g.hash {}).1
    (∀ n row, won = some (n, some row) → (2 ≤ g.vec.outer.ttl ∨ 2 ≤ bits row.action 62 2) → k.decision = s.toNh (bits row.action 62 2) (bits row.action 42 20) g.hash) ∧
    (∀ n row, won = some (n, some row) → g.vec.outer.ttl ≤ 1 → bits row.action 62 2 < 2 →
      k.decision = if s.get F.TCM_PORT_L3_TTL_TRAP (l3Index g.port) = 0 then .discard cTtlZero else .host 3) ∧
    (won = none → k.decision = .discard cNoRoute)) ∧
  -- routed by a host route that stands before the LPM
  (∀ (g : Frame) (e : Entry) (tl : List Stage) (s : State), s.routing g = (true, false) → s.noStream g.port → g.v6 = false →
    (s.searchOf (quadOf g.port)).2 = .host :: tl → 2 ≤ g.vec.outer.ttl →
    (s.portLookup g.port F.EXM_PORT_TABLES_HR4_T F.EXM_PORT_TABLES_HR4_EN (s.vrf g * 2 ^ 32 + g.dip)).1 = some e →
    (s.stages g g.hash {}).1.decision = s.toNh (bits e.payload 68 2) (bits e.payload 48 20) g.hash) ∧
  -- routed multicast: the (S,G) entry and its RPF check
  (∀ (g : Frame) (e : Entry) (s : State), s.routing g = (false, true) → s.noStream g.port → g.v6 = false → s.get F.TCM_PORT_L3_ACL_EN (l3Index g.port) = 0 →
    (s.searchOf (quadOf g.port)).2.contains .sg = true →
    (s.portLookup g.port F.EXM_PORT_TABLES_SG4_T F.EXM_PORT_TABLES_SG4_EN ((s.vrf g * 2 ^ 32 + g.sip) * 2 ^ 32 + g.dip)).1 = some e →
    (s.stages g g.hash {}).1.decision = if bitOf e.payload 11 = true ∧ bits e.payload 12 10 ≠ g.port then .discard cNoRoute else .group (bits e.payload 22 16)) ∧
  -- the ACL ahead of every other stage
  (∀ (g : Frame) (first rows n : Nat) (row : TcamRow) (tl : List Stage) (s : State), s.noStream g.port → (s.searchOf (quadOf g.port)).2 = .acl :: tl →
    s.get F.TCM_PORT_L3_ACL_EN (l3Index g.port) ≠ 0 →
    s.searchRegion (quadOf g.port) (s.get F.TCM_PORT_L3_ACL_REGION (l3Index g.port)) .acl = some (first, rows) →
    s.winner (quadOf g.port) first rows (s.aclKey g).2 (s.aclKey g).1 [] = some (n, some row) → bits row.action 61 3 ≠ 0 →
    ((s.routing g).1 = false ∨ bits row.action 61 3 < 3 ∨ 2 ≤ g.vec.outer.ttl) →
    (s.stages g g.hash {}).1.decision = s.toAcl row.action g.hash ∧ (s.stages g g.hash {}).1.aclAction = some row.action) ∧
  -- members of ECMP groups and LAGs by the hash
  (∀ (n h : Nat) (s : State), s.objWritten 1 n = true → (Config.ecmpObject (s.obj 1 n)).1 ≠ 0 →
    s.toEcmp n h = s.toNextHop ((Config.ecmpObject (s.obj 1 n)).2.getD (bits h 0 16 * (Config.ecmpObject (s.obj 1 n)).1 / 65536) 0) h) ∧
  (∀ (n h : Nat) (r : Option (Nat × Nat)) (l : List Nat) (s : State), s.objWritten 2 n = true →
    l = (Config.lagObject (s.obj 2 n)).2.take (Config.lagObject (s.obj 2 n)).1 → l ≠ [] →
    let up := l.filter fun p => s.get F.PRT_STATUS_LINK_UP p ≠ 0
    (up ≠ [] → s.toLag n h r = s.toPort (up.getD (bits h 16 16 * up.length / 65536) 0) r) ∧
      (up = [] → s.toLag n h r = s.toPort (l.getD (bits h 16 16 * l.length / 65536) 0) r)) ∧
  -- stream filter, its gate, and a meter that is colour-blind and uncoupled
  (∀ (i n c : Nat) (s : State), bitOf (s.obj 8 i) 42 = false →
    (bits (s.obj 8 i) 0 14 ≠ 0 → bits (s.obj 8 i) 0 14 < n → (s.filter i n c).1 = .drop cStreamGate) ∧
    ((bits (s.obj 8 i) 0 14 = 0 ∨ n ≤ bits (s.obj 8 i) 0 14) → bitOf (s.obj 8 i) 14 = true →
      (s.filter i n c).1 = if (s.streamGate (bits (s.obj 8 i) 15 9) s.nowNs).1 = true then .pass ((s.streamGate (bits (s.obj 8 i) 15 9) s.nowNs).2.getD c) none
        else .drop cStreamGate)) ∧
  (∀ (i n pre : Nat) (s : State), bitOf (s.obj 7 i) 96 = false → bitOf (s.obj 7 i) 97 = false →
    let at_ := SMap.findD s.tables.meterAt i (s.elapsed, 0, 0)
    let committed := (fillBucket (bits (s.obj 7 i) 128 24 * 65536 + at_.2.1) (bits (s.obj 7 i) 0 24) (s.elapsed - at_.1) (bits (s.obj 7 i) 48 24)).1
    let peak := (fillBucket (bits (s.obj 7 i) 152 24 * 65536 + at_.2.2) (bits (s.obj 7 i) 24 24) (s.elapsed - at_.1) (bits (s.obj 7 i) 72 24)).1
    (s.meter i n pre).1 = if peak < n * 65536 then 2 else if committed < n * 65536 then 1 else 0)

/-- BUF_QUEUE_CFG as written: DEEP holds only where R324 lets it be set, and a refused DEEP sets DEEP_REFUSED (R324). -/
def Obligations.DeepQueueWrite : Prop :=
  ∀ (gq v : Nat) (s : State), s.quadUp (queueQuad gq) = true → s.queueUsed gq = true → bitOf v 6 = true →
    (gq % 48 < 32 ∧ (∃ d, d < 2 ∧ s.get F.DRC_SHARE_COUNT_MIB (5 * d + queueQuad gq) ≠ 0) ∧ (gq ∈ s.deepQueues ∨ s.deepQueues.length < 4096) →
      Completes (.bufQueueCfgWrite gq v) s fun t => t.get F.BUF_QUEUE_CFG_DEEP gq = 1 ∧ t.get F.BUF_QUEUE_CFG_PROFILE gq = bits v 0 6) ∧
    (¬ (gq % 48 < 32 ∧ (∃ d, d < 2 ∧ s.get F.DRC_SHARE_COUNT_MIB (5 * d + queueQuad gq) ≠ 0) ∧ (gq ∈ s.deepQueues ∨ s.deepQueues.length < 4096)) →
      Completes (.bufQueueCfgWrite gq v) s fun t => t.get F.BUF_QUEUE_CFG_DEEP gq = 0 ∧ t.get F.BUF_EVENT_DEEP_REFUSED (queueQuad gq) = 1)

/-- The buffers' own checks. A head check discards the aged frames of every queue of its quadrant that has not dequeued since the last one, and keeps the others in their order; Sexton marks a sheltered buffer that it finds unreferenced, takes the mark from one that is referenced, and reclaims one marked two intervals ago; a host-owned buffer leaves the host, a free of any other is captured, which a free through another quadrant's register is too, the model's choice of log 133 (R312, R316, R319, R323). -/
def Obligations.BufferChecks : Prop :=
  (∀ (q : Nat) (s : State), s.quadUp q = true → q < 4 → Completes (.ageHeadCheck q) s fun t =>
    (t.path.dequeued = s.path.dequeued.filter fun gq => queueQuad gq != q) ∧
    (∀ gq, (queueQuad gq ≠ q ∨ s.path.dequeued.contains gq = true) → t.queue gq = s.queue gq) ∧
    (∀ gq, queueQuad gq = q → s.path.dequeued.contains gq = false → (t.queue gq).Sublist (s.queue gq) ∧
      (∀ e ∈ t.queue gq, ∀ b, t.buf e.buf = some b → t.isAged gq b = false) ∧
      (∀ e ∈ s.queue gq, ∀ b, s.buf e.buf = some b → s.isAged gq b = false → e ∈ t.queue gq))) ∧
  (∀ (q h : Nat) (doubles : List (Nat × Nat)) (b : Buf) (s : State), s.quadUp q = true → q < 4 → SMap.wf s.path.bufs = true →
    s.buf h = some b → handleQuad h = q → b.region ≠ 0 → Completes (.sextonWalk ⟨q, doubles⟩) s fun t =>
      (s.referenced h b = true → t.buf h = some { b with marked := none }) ∧
      (s.referenced h b = false → b.marked = none → t.buf h = some { b with marked := some s.elapsed }) ∧
      (∀ at_, s.referenced h b = false → b.marked = some at_ → s.elapsed - at_ < 2 * nsUnits (1000000 * s.get F.BUF_SEXTON_CTRL_INTERVAL_MS q) → t.buf h = some b) ∧
      (∀ at_, s.referenced h b = false → b.marked = some at_ → 2 * nsUnits (1000000 * s.get F.BUF_SEXTON_CTRL_INTERVAL_MS q) ≤ s.elapsed - at_ →
        t.buf h = none ∧ t.get F.BUF_EVENT_SEXTON_LEAK q = 1)) ∧
  (∀ (q v : Nat) (b : Buf) (s : State), s.quadUp q = true → q < 4 → s.buf (v % 2 ^ 32) = some b → b.hostOwned = true → handleQuad (v % 2 ^ 32) = q →
    Completes (.bufFreeWrite q v) s fun t => ∀ b', t.buf (v % 2 ^ 32) = some b' → b'.hostOwned = false) ∧
  (∀ (q v : Nat) (s : State), s.quadUp q = true → q < 4 → (∀ b, s.buf (v % 2 ^ 32) = some b → b.hostOwned = false ∨ handleQuad (v % 2 ^ 32) ≠ q) →
    s.get F.BUF_FOREIGN_FREE_VALID q = 0 →
    Completes (.bufFreeWrite q v) s fun t => t.get F.BUF_FOREIGN_FREE_VALID q = 1 ∧ t.get F.BUF_FOREIGN_FREE_HANDLE q = v % 2 ^ 32 ∧
      t.get F.BUF_EVENT_BPM_FOREIGN_FREE q = 1 ∧ t.path = s.path)

/-! ## Exact match and the TCAMs -/

/-- A learn request inserts its entry, an ageing pass starts and visits its buckets in order, a visit leaves a static entry, clears HIT, sets CLEAR_SEEN, or removes the entry, a recount ends; a suspect row that reads back right serves again, and after a background scrub no row of the quadrant is suspect (R214, R223, R225, R230, R253, R254). -/
def Obligations.LearningAgeingScrubs : Prop :=
  (∀ (r : LearnReq) (rest : List LearnReq) (c : TableCfg) (s s' : State), s.up = true → s.exm.queue = r :: rest → SMap.find s.layers.tables r.table = some c →
    s.pinnedKey r.table (keyOf c r.payload) = false → s.atLimit r.port = false → s.learnBlocked r = false →
    ({ s with exm := { s.exm with queue := rest } } : State).emInsert r.table c (s.pinnedKey r.table) r.payload false false false
      (s.on F.EXM_SWEEP_AGE_EN r.table) = (s', .ok) →
    Completes .learnServe s fun t => t.exm.slots = s'.exm.slots ∧ t.tcam = s'.tcam ∧ t.tables = s'.tables) ∧
  (∀ (n : Nat) (s : State), s.up = true → (SMap.find s.layers.tables n).isSome = true → s.get F.EXM_SWEEP_AGE_EN n = 1 → (s.exmTable n).next = none →
    Completes (.sweepPassStart n) s fun t => (t.exmTable n).next = some 0 ∧ (t.exmTable n).clock = ((s.exmTable n).clock + 1) % 128 ∧ t.regs = s.regs) ∧
  (∀ (n v : Nat) (c : TableCfg) (s : State), s.up = true → SMap.find s.layers.tables n = some c → (s.exmTable n).next = some v →
    Completes (.scarabVisit n false) s fun t => (t.exmTable n).next = if v + 1 < c.buckets then some (v + 1) else none) ∧
  (∀ (n v k : Nat) (c : TableCfg) (e : Entry) (s : State), s.up = true → SMap.find s.layers.tables n = some c → (s.exmTable n).next = some v →
    s.exm.hits = [] → s.exm.touched = [] → k ∈ slotsOf c.wide →
    let p : Place := ⟨(visitBucket c v).1, (visitBucket c v).2, k⟩
    s.emAt c.wide p = some e → s.pinnedKey n (keyOf c e.payload) = false → Completes (.scarabVisit n false) s fun t =>
      t.emAt c.wide p = if e.static then some e else if e.hit then some { e with hit := false } else if e.clear then none else some { e with clear := true }) ∧
  (∀ s : State, s.up = true → s.get F.EXM_EVENT_RECOUNT 0 = 1 → Completes .learnRecountDone s fun t =>
    t.get F.EXM_EVENT_RECOUNT 0 = 0 ∧ t.exm.recount = [] ∧ t.exm.slots = s.exm.slots) ∧
  (∀ (q n : Nat) (s : State), s.quadUp q = true → s.tcam.suspect.contains (rowKey q n) = true → Completes (.suspectRowScrub q n true) s fun t =>
    t.tcam.suspect = s.tcam.suspect.filter (· ≠ rowKey q n) ∧ t.tcam.rows = s.tcam.rows) ∧
  (∀ (q : Nat) (bad : List Nat) (s : State), s.quadUp q = true → Completes (.backgroundScrub q bad) s fun t =>
    (∀ k ∈ t.tcam.suspect, k / 131072 ≠ q) ∧ t.tcam.rows = s.tcam.rows)

/-- EXM_SWEEP is taken where the sum of the rates stays within its bound and refused as a whole where it would not; EXM_PORT_TABLES takes every table field, or changes nothing and sets PORT_TABLE_REFUSED where it enables a table of another kind or width (R211, R226, R233). -/
def Obligations.ExactMatchRegisters : Prop :=
  (∀ (n v : Nat) (s : State), s.up = true → n < 16 → s.sweepAllowed n v = true → Completes (.exmSweepWrite n v) s fun t =>
    t.get F.EXM_SWEEP_AGE_EN n = bits v 0 1 ∧
      t.get F.EXM_SWEEP_PERIOD_MS n = if 1 ≤ bits v 1 22 ∧ bits v 1 22 ≤ 3600000 then bits v 1 22 else s.get F.EXM_SWEEP_PERIOD_MS n) ∧
  (∀ (n v : Nat) (s : State), s.up = true → n < 16 → s.sweepAllowed n v = false →
    exec (.exmSweepWrite n v) s = .next (s.evC F.EXM_EVENT_SWEEP_REFUSED 0)) ∧
  (∀ (p v : Nat) (s : State), s.up = true → s.isAnyPort p = true → s.layers.portTablesBad v = false → Completes (.exmPortTablesWrite p v) s fun t =>
    ∀ f ∈ portTableFields, t.get f.1 p = bits v f.1.lsb 4 ∧ t.get f.2.1 p = bits v f.2.1.lsb 1) ∧
  (∀ (p v : Nat) (s : State), s.up = true → s.isAnyPort p = true → s.layers.portTablesBad v = true →
    exec (.exmPortTablesWrite p v) s = .next (s.evC F.EXM_EVENT_PORT_TABLE_REFUSED 0))

/-- TCM_PORT_L3 as written: ignored for a port that is none, refused with a claim record of kind 0x8 where it enables a region that is unused or of the other kind, else taken whole, a disabled region's number unchecked (R259). -/
def Obligations.PortL3Write : Prop :=
  ∀ (p v : Nat) (s : State), p < 516 → s.quadUp (quadOf p) = true →
    let used (n : Nat) (k : RegionKind) : Prop := ∃ r, SMap.find s.layers.search.regions (16 * quadOf p + n) = some r ∧ r.kind = k
    let aclOk : Prop := bitOf v F.TCM_PORT_L3_ACL_EN.lsb = true → used (bits v F.TCM_PORT_L3_ACL_REGION.lsb 4) .acl
    let sfOk : Prop := bitOf v F.TCM_PORT_L3_SF_EN.lsb = true → used (bits v F.TCM_PORT_L3_SF_REGION.lsb 4) .stream
    (s.isAnyPort p = false → exec (.tcmPortL3Write p v) s = .next s) ∧
    (s.isAnyPort p = true → ¬(aclOk ∧ sfOk) → ∃ n, exec (.tcmPortL3Write p v) s = .next (s.claimErr 8 n 0)) ∧
    (s.isAnyPort p = true → aclOk → sfOk → Completes (.tcmPortL3Write p v) s fun t => ∀ f ∈ R.TCM_PORT_L3.fields,
      t.get f (if p < 512 then 129 * quadOf p + p % 128 else 129 * quadOf p + 128) = bits v f.lsb f.width)

/-! ## Ordering and the table update engine -/

/-- TOP_FENCE counts a fence, TUE_ORDER_STRICT takes the bits of ports, a tail write sets TAIL; a command at its wait limit, which it took with its doorbell (R263, and the model's choice of log 117), times out, a drained epoch is shown, one that does not drain sets EPOCH_TIMEOUT (R262, R266, R267, R276, R279, R282). -/
def Obligations.OrderingAndEpochs : Prop :=
  (∀ (v : Nat) (s : State), s.up = true → bitOf v 0 = true → Completes (.topFenceWrite v) s fun t =>
    t.get F.TOP_FENCE_COUNT 0 = (s.get F.TOP_FENCE_COUNT 0 + 1) % 2 ^ F.TOP_FENCE_COUNT.width ∧ t.path = s.path ∧ t.out = s.out) ∧
  (∀ (i v : Nat) (s : State), s.up = true → i < 9 → Completes (.orderStrictWrite i v) s fun t =>
    t.get F.TUE_ORDER_STRICT_PORT i = (v &&& s.strictMask i) % 2 ^ 64 ∧ t.path.queues = s.path.queues) ∧
  (∀ (r v : Nat) (l : List Nat) (s : State), s.up = true → r < 8 → Completes (.tueRingTailWrite r v l) s fun t =>
    t.get F.TUE_RING_TAIL_TAIL r = v % 2 ^ F.TUE_RING_TAIL_TAIL.width) ∧
  (∀ (r slot : Nat) (x : TueCmd) (s : State), s.up = true → s.inSlot r slot = some x → s.tueBlocked r x = true → x.waitUs ≠ 0 →
    Completes (.tueWaitTimeout r slot) s fun t => ∃ u : State, t = u.tueTake ∧ u.get F.TUE_EVENT_WAIT_TIMEOUT 0 = 1 ∧
      u.tueFlight r = (s.tueFlight r).filter fun z => z.seq != x.seq) ∧
  (∀ (p : PendEpoch) (rest : List PendEpoch) (s : State), s.up = true → s.tue.epochs = p :: rest → s.liveFrames p.epoch = 0 →
    Completes .epochDrained s fun t => t.tue.epochs = rest ∧ t.get F.TUE_EPOCH_DRAINED 0 = p.epoch % 256) ∧
  (∀ (e : Nat) (p : PendEpoch) (s : State), s.up = true → (s.tue.epochs.find? fun p => p.epoch == e && p.timeout) = some p → s.liveFrames e ≠ 0 →
    Completes (.epochTimeout e) s fun t => t.get F.TUE_EVENT_EPOCH_TIMEOUT 0 = 1 ∧ t.tue.epochs.map PendEpoch.epoch = s.tue.epochs.map PendEpoch.epoch)

/-- NOP and FENCE complete with their record and leave every table as it is; EPOCH ends the current epoch; OBJ_WRITE stores its object whole and OBJ_READ posts it (R270, R275, R277, R279). The byte order of a record in host memory is the model's, presumed in log 23. -/
def Obligations.BarriersAndObjects : Prop :=
  (∀ (r slot : Nat) (x : TueCmd) (s : State), s.tueReady r slot oNop x → s.badTarget x.cmd = false → s.pins.hostAllowed = true →
    Completes (.nop r slot) s fun t => s.finishes t r x 0 0 ∧ t.exm = s.exm ∧ t.tcam = s.tcam ∧ t.tables = s.tables ∧ t.path = s.path) ∧
  (∀ (r slot : Nat) (x : TueCmd) (s : State), s.tueReady r slot oFence x → s.badTarget x.cmd = false → s.pins.hostAllowed = true →
    Completes (.fence r slot) s fun t => s.finishes t r x 0 0 ∧ t.exm = s.exm ∧ t.tcam = s.tcam ∧ t.tables = s.tables ∧ t.path = s.path) ∧
  (∀ (r slot : Nat) (x : TueCmd) (s : State), s.tueReady r slot oEpoch x → s.badTarget x.cmd = false → s.tue.epochs.length < 128 →
    Completes (.epoch r slot) s fun t => t.get F.TUE_EPOCH_CURRENT 0 = (s.get F.TUE_EPOCH_CURRENT 0 + 1) % 256 ∧
      t.tue.epochs.map PendEpoch.epoch = s.tue.epochs.map PendEpoch.epoch ++ [s.get F.TUE_EPOCH_CURRENT 0] ∧ t.path = s.path) ∧
  (∀ (r slot : Nat) (x : TueCmd) (s : State), s.tableReady r slot oObjWrite x → Completes (.objWrite r slot) s fun t =>
    t.tables = (s.objStore x.cmd.space x.cmd.index x.cmd.body).tables ∧ t.exm.slots = s.exm.slots) ∧
  (∀ (r slot : Nat) (x : TueCmd) (s : State), s.tableReady r slot oObjRead x → s.pins.hostAllowed = true → Completes (.objRead r slot) s fun t =>
    s.finishes t r x 0 (s.objRead x.cmd.space x.cmd.index) ∧ t.tables = s.tables)

/-- The exact-match commands leave the slots that their operation gives, whatever it answers, and EM_READ posts the entry it finds (R215, R219, R270). The byte order of its record in host memory is the model's, presumed in log 23. -/
def Obligations.ExactMatchCommands : Prop :=
  (∀ (r slot : Nat) (x : TueCmd) (c : TableCfg) (s : State), s.tableReady r slot oEmInsert x →
    SMap.find s.layers.tables x.cmd.space = some c → s.emBad c x.cmd.body = false →
    let o := s.emInsert x.cmd.space c (s.pinnedKey x.cmd.space) x.cmd.body (bitOf x.cmd.flags 1)
      (bitOf x.cmd.flags 0) (bitOf x.cmd.flags 2) (bitOf x.cmd.ageEn x.cmd.space)
    Completes (.emInsert r slot) s fun t => t.exm.slots = o.1.exm.slots ∧ t.exm.tables = o.1.exm.tables ∧ t.tcam = s.tcam ∧ t.tables = s.tables) ∧
  (∀ (r slot : Nat) (x : TueCmd) (c : TableCfg) (s : State), s.tableReady r slot oEmUpdate x →
    SMap.find s.layers.tables x.cmd.space = some c → s.emBad c x.cmd.body = false →
    let o := s.emUpdate x.cmd.space c x.cmd.body (bitOf x.cmd.flags 1)
    Completes (.emUpdate r slot) s fun t => t.exm.slots = o.1.exm.slots ∧ t.exm.tables = s.exm.tables ∧ t.tcam = s.tcam ∧ t.tables = s.tables) ∧
  (∀ (r slot : Nat) (x : TueCmd) (c : TableCfg) (s : State), s.tableReady r slot oEmDelete x →
    SMap.find s.layers.tables x.cmd.space = some c →
    let o := s.emDelete x.cmd.space c x.cmd.body
    Completes (.emDelete r slot) s fun t => t.exm = o.1.exm ∧ t.tcam = s.tcam ∧ t.tables = s.tables) ∧
  (∀ (r slot : Nat) (x : TueCmd) (c : TableCfg) (p : Place) (e : Entry) (s : State), s.tableReady r slot oEmRead x → s.pins.hostAllowed = true →
    SMap.find s.layers.tables x.cmd.space = some c →
    s.emFind x.cmd.space c (keyOf c x.cmd.body) = some p → s.emAt c.wide p = some e →
    Completes (.emRead r slot) s fun t => s.finishes t r x 0 e.payload ∧ t.exm = s.exm ∧ t.tcam = s.tcam ∧ t.tables = s.tables)

/-- The TCAM commands leave the rows that their operation gives, whatever it answers, and TC_READ_ROW posts the row (R246, R247, R249, R251, R270). What its body holds is the model's choice of log 105, the byte order of the record in host memory is presumed in log 23. -/
def Obligations.TcamCommands : Prop :=
  (∀ (r slot : Nat) (x : TueCmd) (s : State), s.tableReady r slot oTcInsert x →
    s.tcBad (s.regionKind x.cmd.quad x.cmd.space) (tcEntry x.cmd.body) = false →
    let o := s.sortedInsert (s.viewQuad x.cmd) x.cmd.space
      (fun n => (s.regionQuads x.cmd.quad x.cmd.space).any fun q => s.pinnedRow q n) (tcEntry x.cmd.body)
    Completes (.tcInsert r slot) s fun t => t.tcam = o.1.tcam ∧ t.exm = s.exm ∧ t.tables = s.tables) ∧
  (∀ (r slot : Nat) (x : TueCmd) (s : State), s.tableReady r slot oTcWriteRow x →
    s.tcBad (s.regionKind x.cmd.quad x.cmd.space) (tcEntry x.cmd.body) = false →
    let o := s.writeRow (s.viewQuad x.cmd) x.cmd.space x.cmd.index (tcEntry x.cmd.body)
    Completes (.tcWriteRow r slot) s fun t => t.tcam = o.1.tcam ∧ t.exm = s.exm ∧ t.tables = s.tables) ∧
  (∀ (r slot n : Nat) (old : TcamRow) (x : TueCmd) (s : State), s.tableReady r slot oTcUpdateAction x → s.foundRow x.cmd = some (n, old) →
    s.tcBad (s.regionKind x.cmd.quad x.cmd.space) { old with action := (tcEntry x.cmd.body).action } = false →
    let o := s.updateAction (s.viewQuad x.cmd) x.cmd.space (tcEntry x.cmd.body).value (tcEntry x.cmd.body).mask
      (tcEntry x.cmd.body).action (tcEntry x.cmd.body).prio
    Completes (.tcUpdateAction r slot) s fun t => t.tcam = o.1.tcam ∧ t.exm = s.exm ∧ t.tables = s.tables) ∧
  (∀ (r slot : Nat) (x : TueCmd) (s : State), s.tableReady r slot oTcDelete x →
    let o := s.deleteRow (s.viewQuad x.cmd) x.cmd.space (tcEntry x.cmd.body).value (tcEntry x.cmd.body).mask
    Completes (.tcDelete r slot) s fun t => t.tcam = o.1.tcam ∧ t.exm = s.exm ∧ t.tables = s.tables) ∧
  (∀ (r slot first rows : Nat) (x : TueCmd) (s : State), s.tableReady r slot oTcReadRow x → s.pins.hostAllowed = true →
    s.regionRows x.cmd.quad x.cmd.space = some (first, rows) → first ≤ x.cmd.index →
    x.cmd.index < first + rows → Completes (.tcReadRow r slot) s fun t =>
      s.finishes t r x 0 (s.readRow (s.viewQuad x.cmd) x.cmd.index).1 ∧ t.tcam = s.tcam ∧ t.exm = s.exm ∧ t.tables = s.tables)

/-- Each table command where it executes normally. A new key goes to a free place of its buckets, of half 0 first; a key that is there is updated, deleted, read. An entry whose group has a free row with no other group between goes to that row; a row of the region takes the entry written to it; an entry that is there is changed, deleted; a row is read. Each completes with TUE_DONE and EM_OK or TC_OK (R215, R219, R246, R247, R249, R251, R270, R570, Tables 8.3 and 9.5). The byte order of the records in host memory is presumed in log 23; the body of TC_READ_ROW and the place that a sorted insert takes are the model's choices of log 105 and log 118. -/
def Obligations.TableCommandsComplete : Prop :=
  (∀ (r slot : Nat) (x : TueCmd) (c : TableCfg) (p : Place) (s : State), s.tableReady r slot oEmInsert x → s.pins.hostAllowed = true →
    SMap.find s.layers.tables x.cmd.space = some c → s.emBad c x.cmd.body = false → s.emFind x.cmd.space c (keyOf c x.cmd.body) = none →
    ((s.emFree c (bucketOf c 0 (keyOf c x.cmd.body))).orElse fun _ => s.emFree c (bucketOf c 1 (keyOf c x.cmd.body))) = some p →
    Completes (.emInsert r slot) s fun t => s.finishes t r x 0 0 ∧
      t.emAt c.wide p = some
        { static := bitOf x.cmd.flags 1, hit := true, clear := false, table := x.cmd.space, stamp := (s.exmTable x.cmd.space).clock % 128
          payload := staticPayload c (bitOf x.cmd.flags 1) x.cmd.body }) ∧
  (∀ (r slot : Nat) (x : TueCmd) (c : TableCfg) (p : Place) (e : Entry) (s : State), s.tableReady r slot oEmUpdate x → s.pins.hostAllowed = true →
    SMap.find s.layers.tables x.cmd.space = some c → s.emBad c x.cmd.body = false → s.emFind x.cmd.space c (keyOf c x.cmd.body) = some p →
    s.emAt c.wide p = some e → Completes (.emUpdate r slot) s fun t => s.finishes t r x 0 0 ∧
      t.emAt c.wide p = some { e with static := bitOf x.cmd.flags 1, payload := staticPayload c (bitOf x.cmd.flags 1) x.cmd.body }) ∧
  (∀ (r slot : Nat) (x : TueCmd) (c : TableCfg) (p : Place) (s : State), s.tableReady r slot oEmDelete x → s.pins.hostAllowed = true →
    SMap.find s.layers.tables x.cmd.space = some c → s.emFind x.cmd.space c (keyOf c x.cmd.body) = some p →
    Completes (.emDelete r slot) s fun t => s.finishes t r x 0 0 ∧ t.emAt c.wide p = none) ∧
  (∀ (r slot : Nat) (x : TueCmd) (c : TableCfg) (p : Place) (e : Entry) (s : State), s.tableReady r slot oEmRead x → s.pins.hostAllowed = true →
    SMap.find s.layers.tables x.cmd.space = some c → s.emFind x.cmd.space c (keyOf c x.cmd.body) = some p → s.emAt c.wide p = some e →
    Completes (.emRead r slot) s fun t => s.finishes t r x 0 e.payload ∧ t.exm = s.exm) ∧
  (∀ (r slot first rows n : Nat) (w : SortWay) (x : TueCmd) (s : State), s.tableReady r slot oTcInsert x → s.pins.hostAllowed = true →
    let quads := s.regionQuads x.cmd.quad x.cmd.space
    let kind := s.regionKind x.cmd.quad x.cmd.space
    let view := s.viewQuad x.cmd
    let free := s.rowFree view (s.regionQuads view x.cmd.space) fun n => quads.any fun q => s.pinnedRow q n
    s.tcBad kind (tcEntry x.cmd.body) = false → s.regionRows view x.cmd.space = some (first, rows) →
    pickWay (sortWays (s.groups view first rows (s.regionKind view x.cmd.space)) (groupOf (s.regionKind view x.cmd.space) (tcEntry x.cmd.body)) first rows free
      (s.entryOut (s.regionQuads view x.cmd.space))) = some w → w.moves = [] → roomFor free first rows (tcEntry x.cmd.body).wide w.free = some n →
    Completes (.tcInsert r slot) s fun t => s.finishes t r x 0 0 ∧
      ∀ q ∈ s.regionQuads view x.cmd.space, t.row q n = some (tcEntry x.cmd.body)) ∧
  (∀ (r slot first rows : Nat) (x : TueCmd) (s : State), s.tableReady r slot oTcWriteRow x → s.pins.hostAllowed = true →
    let n := x.cmd.index
    let view := s.viewQuad x.cmd
    let e := tcEntry x.cmd.body
    s.tcBad (s.regionKind x.cmd.quad x.cmd.space) e = false → s.regionRows view x.cmd.space = some (first, rows) → first ≤ n →
    (if e.wide then n + 1 else n) < first + rows → (e.wide = true → n % 2 = 0) →
    (∀ k, k = n ∨ (e.wide = true ∧ k = n + 1) → (s.row view k).any (·.wide) = false ∧ s.secondRow view k = false) →
    Completes (.tcWriteRow r slot) s fun t => s.finishes t r x 0 0 ∧ ∀ q ∈ s.regionQuads view x.cmd.space, t.row q n = some e) ∧
  (∀ (r slot n : Nat) (old : TcamRow) (x : TueCmd) (s : State), s.tableReady r slot oTcUpdateAction x → s.pins.hostAllowed = true →
    let e := tcEntry x.cmd.body
    s.foundRow x.cmd = some (n, old) → s.tcBad (s.regionKind x.cmd.quad x.cmd.space) { old with action := e.action } = false →
    Completes (.tcUpdateAction r slot) s fun t => s.finishes t r x 0 0 ∧
      ∀ q ∈ s.regionQuads (s.viewQuad x.cmd) x.cmd.space, t.row q n = some { old with action := e.action, prio := e.prio }) ∧
  (∀ (r slot n : Nat) (old : TcamRow) (x : TueCmd) (s : State), s.tableReady r slot oTcDelete x → s.pins.hostAllowed = true →
    s.foundRow x.cmd = some (n, old) → Completes (.tcDelete r slot) s fun t => s.finishes t r x 0 0 ∧
      ∀ q ∈ s.regionQuads (s.viewQuad x.cmd) x.cmd.space, t.row q n = none) ∧
  (∀ (r slot first rows : Nat) (x : TueCmd) (s : State), s.tableReady r slot oTcReadRow x → s.pins.hostAllowed = true →
    s.regionRows x.cmd.quad x.cmd.space = some (first, rows) → first ≤ x.cmd.index → x.cmd.index < first + rows →
    Completes (.tcReadRow r slot) s fun t => s.finishes t r x 0 (s.readRow (s.viewQuad x.cmd) x.cmd.index).1 ∧ t.tcam = s.tcam)

/-- Timed cuts are opened, filled, armed and cancelled by their commands; a gap or a wait fixes the instant, the instant applies the cut, with PARTIAL where a quadrant misses it, its end frees its number (R127, R287, R288, R290 to R293, R295 to R298). That a gap is measured in elapsed time, and that one at the very end of the wait wins, is the model's choice of log 75. -/
def Obligations.TimedCuts : Prop :=
  (∀ (r slot : Nat) (x : TueCmd) (s : State), s.tueReady r slot oCutOpen x → x.cmd.arg < 256 → x.cmd.flags = 0 →
    x.cmd.index = 0 → x.cmd.body = 0 → s.cut x.cmd.arg = none → Completes (.cutOpen r slot) s fun t =>
      t.cut x.cmd.arg = some { (default : Cut) with state := 1, uid := s.tue.opened + 1 }) ∧
  (∀ (r slot result : Nat) (x : TueCmd) (y : Cut) (ch : CutChange) (s s' : State), s.tueReady r slot oCutAdd x → cutHeader x.cmd 23 0 = true →
    s.cut (bits x.cmd.arg 0 8) = some y → y.state = 1 → cutInner (bits x.cmd.arg 8 8) = true → y.changes.length < 64 →
    s.offer { x.cmd with opcode := bits x.cmd.arg 8 8, flags := bits x.cmd.arg 16 7, arg := 0 } = (s', .added ch result) →
    Completes (.cutAdd r slot) s fun t => t.cut (bits x.cmd.arg 0 8) = some { y with changes := y.changes ++ [ch] }) ∧
  (∀ (r slot : Nat) (x : TueCmd) (y : Cut) (s : State), s.tueReady r slot oCutArm x → s.cut (bits x.cmd.arg 0 8) = some y → y.state = 1 →
    s.armBad x.cmd y = false → s.nowQ ≤ (armFields x.cmd.body).1 → Completes (.cutArm r slot) s fun t =>
      ∃ z, t.cut (bits x.cmd.arg 0 8) = some z ∧ z.state = 2 ∧ z.changes = y.changes ∧ z.t = (armFields x.cmd.body).1 ∧
        (z.mode = 0 → z.tx = some z.t)) ∧
  (∀ (r slot : Nat) (x : TueCmd) (y : Cut) (s : State), s.tueReady r slot oCutCancel x → x.cmd.arg < 256 → x.cmd.flags = 0 →
    x.cmd.index = 0 → x.cmd.body = 0 → s.cut x.cmd.arg = some y → y.state = 1 →
    Completes (.cutCancel r slot) s fun t => t.cut x.cmd.arg = none) ∧
  (∀ (n : Nat) (c : Cut) (s : State), s.up = true → s.cut n = some c → c.state = 2 → c.mode = 2 → c.tx = none → s.gapAt c ≤ c.waitEnd → s.gapAt c ≤ s.nowQ →
    Completes (.cutGapFound n) s fun t => t.cut n = some { c with tx := some (s.gapAt c + 80) } ∧ t.exm = s.exm ∧ t.tcam = s.tcam) ∧
  (∀ (n : Nat) (c : Cut) (s : State), s.up = true → s.cut n = some c → c.state = 2 → c.mode = 1 → c.tx = none → c.waitEnd ≤ s.nowQ →
    Completes (.cutWaitExpiry n) s fun t => t.cut n = some { c with tx := some c.waitEnd, waitExpired := true } ∧ t.exm = s.exm ∧ t.tcam = s.tcam) ∧
  (∀ (n tx : Nat) (c : Cut) (s : State), s.up = true → s.cut n = some c → c.state = 2 → c.tx = some tx → tx ≤ s.nowQ →
    Completes (.cutApply n) s fun t => ∃ z, t.cut n = some z ∧ z.state = 3 ∧ z.isPartial = (List.range 4).any s.cutMisses) ∧
  (∀ (n : Nat) (c : Cut) (s : State), s.up = true → s.cut n = some c → c.state = 3 → Completes (.cutDone n) s fun t => t.cut n = none)

/-! ## Egress: scheduling, rewrite and transmission -/

/-- A copy crosses: the one that has waited longest, in the order of log 32, goes to its host queue or port queue with the buffer that it takes; one that is refused, or that the merge check discards, is counted under its code in the egress quadrant; one for a quiesced quadrant is discarded as FENCED_UNIT. The merge check passes the first frame after a take-any and every sequence that it has not seen (R60, R302, R306, R308, R330, R391, R517). -/
def Obligations.CopiesCross : Prop :=
  (∀ (q i d : Nat) (c : Copy) (s : State), s.quadUp q = true → q < 4 → s.nextCopy q = some i → s.path.crossing[i]? = some c →
    s.quiesced q = false → c.frame.handle = none →
    let u := ({ s with path := { s.path with crossing := s.path.crossing.eraseIdx i } } : State).xbarMark q
    let y := u.cycleOf q c
    let w : State := { u with path := { u.path with cycles := SMap.put u.path.cycles q y } }
    (∀ h n reason b s', c.merge = none → c.target = .host h n reason → h < 4 → n < 16 → s.pins.hostAllowed = true → s.pins.perstLow = false →
      w.refusal c.frame (hostQueue h n) (w.asks y.free c.frame (hostQueue h n) 3).1 (w.asks y.free c.frame (hostQueue h n) 3).2 = none →
      w.allocFor (hostQueue h n) 3 (w.asks y.free c.frame (hostQueue h n) 3).1 c.frame = (some b, s') → Completes (.egressArrival ⟨q, d, .none⟩) s fun t =>
        ∃ e : QEntry, t.queue (hostQueue h n) = s'.queue (hostQueue h n) ++ [e] ∧ e.buf = b ∧ e.reason = reason) ∧
    (∀ p r a b gq region s', c.merge = none → c.target = .unicast p r a → gq = w.ucastQueue p c.frame.cls c.frame.hash → region = w.regionOf gq →
      p < 512 → gq / 48 = p → s.ringGroup p = none → (s.live p).flushing = false →
      w.refusal c.frame gq (w.asks y.free c.frame gq region).1 (w.asks y.free c.frame gq region).2 = none →
      w.allocFor gq region (w.asks y.free c.frame gq region).1 c.frame = (some b, s') → Completes (.egressArrival ⟨q, d, .none⟩) s fun t =>
        ∃ e : QEntry, t.queue gq = s'.queue gq ++ [e] ∧ e.buf = b ∧ e.recipe = r ∧ e.param = a) ∧
    (∀ p r a gq region code, c.merge = none → c.target = .unicast p r a → gq = w.ucastQueue p c.frame.cls c.frame.hash → region = w.regionOf gq →
      p < 512 → gq / 48 = p → w.refusal c.frame gq (w.asks y.free c.frame gq region).1 (w.asks y.free c.frame gq region).2 = some code →
      Completes (.egressArrival ⟨q, d, .none⟩) s fun t => t.path.queues = s.path.queues ∧ t.path.bufs = s.path.bufs ∧
        t.get F.BUF_DROP_CNT_COUNT (64 * quadOf p + code) = satAdd (s.get F.BUF_DROP_CNT_COUNT (64 * quadOf p + code)) 1 (2 ^ 64 - 1)) ∧
    (∀ ctx m p r a w', c.merge = some (ctx, m) → c.target = .unicast p r a → w.mergeStep c.frame q ctx m = (false, w') →
      Completes (.egressArrival ⟨q, d, .none⟩) s fun t => t.path.crossing = s.path.crossing.eraseIdx i ∧ t.path.queues = s.path.queues ∧
        t.get F.BUF_DROP_CNT_COUNT (64 * quadOf p + 0x0E) = satAdd (s.get F.BUF_DROP_CNT_COUNT (64 * quadOf p + 0x0E)) 1 (2 ^ 64 - 1))) ∧
  (∀ (q i d : Nat) (fault : DramFault) (c : Copy) (s : State), s.quadUp q = true → q < 4 →
    s.nextCopy q = some i → s.path.crossing[i]? = some c →
    c.frame.handle = none → s.quiesced q = true → Completes (.egressArrival ⟨q, d, fault⟩) s fun t =>
      t.path.crossing = s.path.crossing.eraseIdx i ∧ t.path.queues = s.path.queues ∧ t.path.bufs = s.path.bufs ∧
        t.get F.BUF_DROP_CNT_COUNT (64 * quadOf c.frame.port + 0x11) =
          satAdd (s.get F.BUF_DROP_CNT_COUNT (64 * quadOf c.frame.port + 0x11)) 1 (2 ^ 64 - 1)) ∧
  (∀ (v n ssrc now : Nat) (w : Window), (bits v 1 2 = 1 → bits v 16 2 = 0) → w.expired v now = false →
    (w.takeAny = true → (mergeCheck v w n ssrc now).pass = true ∧ (mergeCheck v w n ssrc now).window.rseq = n ∧ (mergeCheck v w n ssrc now).window.takeAny = false) ∧
    (∀ b, w.takeAny = false → n < 65536 → w.rseq < 65536 → b < bits v 3 12 → b < 32768 → (n + b) % 65536 = w.rseq →
      (mergeCheck v w n ssrc now).pass = !bitOf w.hist b) ∧
    (∀ k, w.takeAny = false → n < 65536 → w.rseq < 65536 → 0 < k → k < bits v 3 12 → k < 32768 → n = (w.rseq + k) % 65536 →
      (mergeCheck v w n ssrc now).pass = true ∧ (mergeCheck v w n ssrc now).window.rseq = n))

/-- The highest class that is open and has a head to send takes its turn, and of its queues the one that its discipline selects: by rank and number, by finish tag, or by deadline. Its head leaves for the rewrite engines, with the next number in the order of dequeues (R362, R364 to R366, R406, R417). -/
def Obligations.SchedulerServes : Prop :=
  (∀ (p gq : Nat) (e : QEntry) (b : Buf) (s s' : State), s.up = true → s.isPort p = true → s.tileUp (p / 16) = true → s.sleepOf (p / 16) = 0 →
    s.get F.PRT_STATUS_LINK_UP p = 1 → s.get F.PRT_CFG_LOOPBACK p ≠ 2 → s.dealerBusy (p / 16) = false →
    s.choose p [7, 6, 5, 4, 3, 2, 1, 0] = (s', some (gq, e, b)) → Completes (.schedDecision p) s fun t =>
      t.path.dequeues = s'.path.dequeues + 1 ∧ (t.live p).rewriting.map (·.entry) = (s'.live p).rewriting.map (·.entry) ++ [e] ∧
        (t.live p).rewriting.map (·.order) = (s'.live p).rewriting.map (·.order) ++ [s'.path.dequeues] ∧ t.queue gq = (s'.queue gq).drop 1) ∧
  (∀ (p c gq : Nat) (e : QEntry) (b : Buf) (s : State), s.up = true → s.isPort p = true → s.tileUp (p / 16) = true → s.sleepOf (p / 16) = 0 →
    s.get F.PRT_STATUS_LINK_UP p = 1 → s.get F.PRT_CFG_LOOPBACK p ≠ 2 → s.dealerBusy (p / 16) = false → c < 8 → s.classOpen p c = true →
    s.selectQueue p c = some gq → (s.queue gq).head? = some e → s.buf e.buf = some b → s.headCheck p c gq (s.gateBytes p e) b = none →
    s.headWaits p b.frame = false → s.gatePasses p c (s.gateBytes p e) = true → (∀ k, c < k → k < 8 → s.nothingFrom p k) → Completes (.schedDecision p) s fun t =>
      t.path.dequeues = s.path.dequeues + 1 ∧ (t.live p).rewriting.map (·.entry) = (s.live p).rewriting.map (·.entry) ++ [e] ∧
        (t.live p).rewriting.map (·.order) = (s.live p).rewriting.map (·.order) ++ [s.path.dequeues] ∧ t.queue gq = (s.queue gq).drop 1) ∧
  (∀ (p c gq : Nat) (s : State), s.selectQueue p c = some gq →
    let ready (n : Nat) : Prop := n ∈ s.classQueues p c ∧ s.headReady n = true
    let rank (n : Nat) : Nat := s.get F.SCH_QUEUE_CFG_RANK n
    let tag (n : Nat) : Nat := ((SMap.findD s.path.tags n default).finish + 2 ^ 48 - s.get F.SCH_CLASS_STATUS_VTIME (8 * p + c)) % 2 ^ 48
    ready gq ∧
    (s.discipline p c = .strict → ∀ n, ready n → rank gq < rank n ∨ (rank gq = rank n ∧ gq ≤ n)) ∧
    (s.discipline p c = .wfq → ∀ n, ready n → tag gq < tag n ∨ (tag gq = tag n ∧ (rank gq < rank n ∨ (rank gq = rank n ∧ gq ≤ n)))) ∧
    (∀ base, s.discipline p c = .edf → base < 2 ^ 32 → (∀ n, ready n → s.headDeadline n < 2 ^ 32 ∧ (s.headDeadline n + 2 ^ 32 - base) % 2 ^ 32 < 2 ^ 31) →
      ∀ n, ready n → (s.headDeadline gq + 2 ^ 32 - base) % 2 ^ 32 ≤ (s.headDeadline n + 2 ^ 32 - base) % 2 ^ 32))

/-- A routine that commits puts its edited frame on the wire, one whose recipe the tile does not hold sets BAD_TARGET; an abandoned routine restarts on another cluster, a reloaded cluster leaves RELOADING; the head of the wire is sent, padded to 60 bytes, with its FCS inverted where the frame is marked (R147, R149, R280, R315, R410, R417, R418, R421). The commit is stated for ports outside a ring, without a transmit channel, and for frames without a PTP stamp or a probe. -/
def Obligations.RewriteAndDeparture : Prop :=
  (∀ (p : Nat) (r : Rewriting) (rest : List Rewriting) (c : PortCfg) (b : Buf) (x : Committed) (s : State), s.up = true → s.port p = some c →
    (s.live p).rewriting = r :: rest → r.waiting = false → s.seqBlocked p r = false → s.buf r.entry.buf = some b →
    s.get F.RWE_RECIPE_LOADED (256 * (p / 16) + r.entry.recipe) = 1 → (s.needsParam (p / 16) r b.frame = true → (s.paramIndex (p / 16) r.entry.param).isSome = true) →
    s.ringGroup p = none → r.entry.recipe ≠ 0x11 → b.frame.probe = 0 → (s.live p).secTx = false → s.get F.PRT_SEC_CFG_TX_EN p = 0 →
    let entry := s.paramFor (p / 16) r.entry.param b.frame
    s.routine p r b.frame (s.ringInsert p b.frame r.entry (beBytes (r.content.getD entry) 64)).1 entry = .inr x →
    x.ptp = none → (fixChecksums b.frame.vec x b.frame.bytes x.bytes).length + 4 ≤ c.mtu →
    Completes (.rewriteCommit p .none none) s fun t => ∃ w : OnWire, (t.live p).wire = (s.live p).wire ++ [w] ∧ w.entry = r.entry ∧
      w.sent = fixChecksums b.frame.vec x b.frame.bytes x.bytes) ∧
  (∀ (p : Nat) (r : Rewriting) (rest : List Rewriting) (c : PortCfg) (b : Buf) (s : State), s.up = true → s.port p = some c →
    (s.live p).rewriting = r :: rest → r.waiting = false → s.seqBlocked p r = false → s.buf r.entry.buf = some b →
    s.get F.RWE_RECIPE_LOADED (256 * (p / 16) + r.entry.recipe) = 0 → Completes (.rewriteCommit p .none none) s fun t =>
      t.get F.RWE_EVENT_BAD_TARGET (p / 16) = 1 ∧ (t.live p).wire = (s.live p).wire) ∧
  (∀ (p k : Nat) (r : Rewriting) (s : State), s.up = true → s.isPort p = true → (s.live p).rewriting = [r] → r.waiting = true → r.abandoned = true →
    s.dealOrder (p / 16) true = [(r.order, p)] → s.nextCluster (p / 16) (some r.cluster) = some k → Completes (.rewriteRestart p) s fun t =>
      let content := if r.content.isSome then (s.buf r.entry.buf).map fun b => s.paramFor (p / 16) r.entry.param b.frame else none
      (t.live p).rewriting = [{ r with waiting := false, abandoned := false, held := false, cluster := k, content := content }]) ∧
  (∀ (i k : Nat) (s : State), s.up = true → i < 32 → k < 6 → bitOf (s.get F.RWE_STATUS_RELOADING i) k = true → Completes (.clusterReloadDone i k) s fun t =>
    bitOf (t.get F.RWE_STATUS_RELOADING i) k = false) ∧
  (∀ (p : Nat) (fault : DramFault) (w : OnWire) (rest : List OnWire) (c : PortCfg) (b : Buf) (s : State), s.up = true → s.port p = some c → (s.live p).wire = w :: rest →
    s.buf w.entry.buf = some b → s.get F.PRT_CFG_LOOPBACK p ≠ 1 → Completes (.frameTxDone ⟨p, fault⟩) s fun t =>
      t.out.frames = (p, if w.sent.length < 60 then fit 60 w.sent else w.sent, decide (b.frame.mark = 0)) :: s.out.frames ∧ (t.live p).wire = rest)

/-- RWE_PORT_DEFAULT and SCH_QMAP take what the tile and the port allow and refuse the rest (R361, R411). -/
def Obligations.EgressRegisters : Prop :=
  (∀ (p v : Nat) (s : State), s.tileReach (tileOf p) = true → s.isPort p = true → s.get F.RWE_RECIPE_LOADED (256 * (p / 16) + bits v 0 8) = 1 →
    (readsParam (bits v 0 8) = true → (s.paramIndex (p / 16) (bits v 8 18)).isSome = true) → Completes (.rwePortDefaultWrite p v) s fun t =>
      t.get F.RWE_PORT_DEFAULT_RECIPE p = bits v 0 8 ∧ t.get F.RWE_PORT_DEFAULT_PARAM p = bits v 8 18) ∧
  (∀ (p v : Nat) (s : State), s.tileReach (tileOf p) = true → s.isPort p = true → s.get F.RWE_RECIPE_LOADED (256 * (p / 16) + bits v 0 8) = 0 →
    exec (.rwePortDefaultWrite p v) s = .next (s.evT F.RWE_EVENT_DEFAULT_REFUSED (p / 16))) ∧
  (∀ (p v : Nat) (s : State), s.tileReach (tileOf p) = true → s.isPort p = true → s.get F.RWE_RECIPE_LOADED (256 * (p / 16) + bits v 0 8) = 1 →
    readsParam (bits v 0 8) = true → s.paramIndex (p / 16) (bits v 8 18) = none →
    exec (.rwePortDefaultWrite p v) s = .next (s.evT F.RWE_EVENT_DEFAULT_REFUSED (p / 16))) ∧
  (∀ (p c v : Nat) (s : State), s.tileReach (tileOf p) = true → c < 8 → s.isPort p = true → bits v 5 2 ≠ 3 →
    (∀ k, k < 2 ^ bits v 5 2 → bits v 0 5 + k < 32 ∧ s.queueClass (48 * p + bits v 0 5 + k) = c) → Completes (.schQmapWrite p c v) s fun t =>
      t.get F.SCH_QMAP_UQ_BASE (8 * p + c) = bits v 0 5 ∧ t.get F.SCH_QMAP_SPAN (8 * p + c) = bits v 5 2) ∧
  (∀ (p c v k : Nat) (s : State), s.tileReach (tileOf p) = true → c < 8 → s.isPort p = true → k < 2 ^ bits v 5 2 →
    (32 ≤ bits v 0 5 + k ∨ s.queueClass (48 * p + bits v 0 5 + k) ≠ c) → exec (.schQmapWrite p c v) s = .next (s.evT F.SCH_EVENT_CFG_REFUSED (p / 16)))

/-! ## DRAM and telemetry -/

/-- The DRAM stacks: read-back where no pending write holds it up, which waits otherwise, refresh, temperatures, power-down and self-refresh; DRAM_RETRAIN drains its stack, trains it, and answers with RETRAIN_DUE clear (R327, R459, R460, R462 to R464, R469 to R471). -/
def Obligations.Dram : Prop :=
  (∀ (gq i h : Nat) (e : QEntry) (b : Buf) (s s' : State), s.up = true → gq < 24576 → s.firstDeep gq = some (i, e) → s.buf e.buf = some b →
    s.get F.DRC_STATUS_STATE (s.stackOf e.buf) = 2 → s.get F.DRC_STATUS_FENCED (s.stackOf e.buf) = 0 →
    s.depth gq ≤ s.get F.BUF_PROFILE_AGE_DEEP_THRESH (s.profileOf gq) * 128 →
    (s.stack (s.stackOf e.buf)).blocks (s.bursts e.buf (s.entrySize e)) = false → s.alloc (queueQuad gq) 0 b.frame = (some h, s') →
    Completes (.deepReadback gq .none) s fun t =>
      t.queue gq = (s'.queue gq).take i ++ [{ e with buf := h }] ++ (s'.queue gq).drop (i + 1)) ∧
  (∀ (gq i : Nat) (e : QEntry) (s : State), s.up = true → gq < 24576 → s.firstDeep gq = some (i, e) →
    s.get F.DRC_STATUS_STATE (s.stackOf e.buf) = 2 → s.get F.DRC_STATUS_FENCED (s.stackOf e.buf) = 0 →
    s.depth gq ≤ s.get F.BUF_PROFILE_AGE_DEEP_THRESH (s.profileOf gq) * 128 →
    (s.stack (s.stackOf e.buf)).blocks (s.bursts e.buf (s.entrySize e)) = true → Completes (.deepReadback gq .none) s fun t =>
      DramWait.readback gq e.buf .none ∈ (t.stack (s.stackOf e.buf)).waits ∧ t.path.queues = s.path.queues) ∧
  (∀ (d pc : Nat) (s : State), s.up = true → d < 2 → s.get F.DRC_STATUS_STATE d = 2 → pc < 32 → Completes (.dramRefresh d pc .none) s fun t =>
    (t.stack d).pcDown = (s.stack d).pcDown.filter (· ≠ pc)) ∧
  (∀ (d : Nat) (c : Int) (s : State), s.up = true → d < 2 → Completes (.stackTempReport d c) s fun t =>
    t.get F.DRC_STATUS_TEMP d = (c % 256).toNat ∧ t.get F.DRC_STATUS_REFRESH d = refreshCode c) ∧
  (∀ (d : Nat) (s : State), s.up = true → d < 2 → s.get F.DRC_CFG_TRAIN_PERIOD_S d ≠ 0 → s.trained d = true → Completes (.trainPeriodExpiry d) s fun t =>
    t.get F.DRC_EVENT_RETRAIN_DUE d = 1) ∧
  (∀ (d pc : Nat) (s : State), s.up = true → d < 2 → s.get F.DRC_STATUS_STATE d = 2 → pc < 32 → (s.stack d).pcDown.contains pc = false →
    s.pcPending d pc = false → Completes (.pcPowerDown d pc) s fun t => (t.stack d).pcDown = pc :: (s.stack d).pcDown) ∧
  (∀ (d : Nat) (s : State), s.up = true → d < 2 → s.mayRefreshItself d = true → Completes (.selfRefreshEntry d) s fun t => t.get F.DRC_STATUS_STATE d = 3) ∧
  (∀ (d : Nat) (s : State), s.up = true → d < 2 → s.get F.DRC_STATUS_STATE d = 4 →
    exec (.selfRefreshExited d) s = .next (s.set F.DRC_STATUS_STATE d 2)) ∧
  (∀ (tag d ms : Nat) (s : State), s.mailReady 7 tag [d, ms] → s.hasShare d = true → s.trained d = true → s.get F.DRC_STATUS_FENCED d = 0 →
    Completes (.dramRetrain tag d ms) s fun t => (t.stack d).retrain = some (tag, true)) ∧
  (∀ (d tag : Nat) (s : State), s.up = true → d < 2 → (s.stack d).retrain = some (tag, true) → s.deepIn d = [] →
    Completes (.dramRetrainDrained d) s fun t => (t.stack d).retrain = some (tag, false) ∧ t.get F.DRC_STATUS_STATE d = 1) ∧
  (∀ (d tag : Nat) (s : State), s.up = true → d < 2 → (s.stack d).retrain = some (tag, false) → Completes (.dramRetrainDone d) s fun t =>
    (t.stack d).retrain = none ∧ t.get F.DRC_STATUS_STATE d = 2 ∧ t.get F.DRC_EVENT_RETRAIN_DUE d = 0 ∧ t.answered 7 tag 0 0)

/-- A sample of a quadrant is counted, an export of telemetry begins and ends with DONE, its records in host memory (R385, R457). Their byte order is presumed in log 23, and that a record which nothing has written exports as zero is the model's choice of log 93. -/
def Obligations.Telemetry : Prop :=
  (∀ (q : Nat) (s : State), s.quadUp q = true → q < 4 → s.get F.SMP_CTRL_PERIOD_NS q ≠ 0 → s.quadAsleep q = false → s.telemOn q = false →
    ∀ (d : Nat) (fault : DramFault), fault = .none → Completes (.queueSample ⟨q, d, fault⟩) s fun t => SMap.find t.path.gaps q = none ∧
      t.get F.SMP_CNT_COUNT (3 * q) = satAdd (s.get F.SMP_CNT_COUNT (3 * q)) 1 (2 ^ 64 - 1)) ∧
  (∀ (d v : Nat) (s : State), s.up = true → d < 2 → bitOf v 31 = true → s.get F.DRC_TELEM_EXPORT_CTRL_BUSY d = 0 → bits v 0 31 < s.telemSize d →
    bits v 32 24 ≠ 0 → bits v 32 24 ≤ s.telemSize d → s.trained d = true → s.get F.DRC_STATUS_FENCED d = 0 → s.pins.hostAllowed = true →
    Completes (.telemExport d v) s fun t => t.get F.DRC_TELEM_EXPORT_CTRL_BUSY d = 1 ∧
      (t.stack d).exporting = some (s.get F.DRC_TELEM_EXPORT_ADDR_ADDR d / 4096 * 4096, bits v 0 31, bits v 32 24)) ∧
  (∀ (d addr first count : Nat) (s : State), s.up = true → d < 2 → s.pins.hostAllowed = true → (s.stack d).exporting = some (addr, first, count) →
    s.get F.DRC_STATUS_STATE d = 2 → (s.stack d).writes.isEmpty = true → (s.stack d).waits.any DramWait.isReadback = false →
    Completes (.telemExportDone ⟨d, .none⟩) s fun t =>
      t.get F.DRC_TELEM_EXPORT_CTRL_DONE d = 1 ∧ t.get F.DRC_TELEM_EXPORT_CTRL_BUSY d = 0 ∧ (t.stack d).exporting = none ∧
        t.out.hostMem = (s.hostWrite addr ((List.range count).flatMap fun k =>
          leBytes (SMap.findD (s.stack d).ring ((first + k) % s.telemSize d) 0) 16)).out.hostMem)

/-! ## Time -/

/-- A rate or a step written waits for the beacon, which puts it in force; a step that R335 refuses sets ADJ_REFUSED (R334, R335, R338). -/
def Obligations.TimeChanges : Prop :=
  (∀ (v : Nat) (s : State), s.up = true → Completes (.timRateWrite v) s fun t =>
    t.time.rate = s.time.rate ∧ t.time.master = s.time.master ∧
      t.time.pendingRate = some (if 2 * bits v 0 32 < 2 ^ 32 then (bits v 0 32 : Int) else (bits v 0 32 : Int) - 2 ^ 32) ∧ t.get F.TIM_ADJ_CTRL_BUSY 0 = 1) ∧
  (∀ (r : Int) (s : State), s.beaconDue = true → s.time.pendingRate = some r → s.time.pendingStep = none → Completes .timeBeacon s fun t =>
    t.time.rate = r ∧ t.time.pendingRate = none ∧ t.time.master = s.time.master ∧ t.get F.TIM_ADJ_CTRL_BUSY 0 = 0) ∧
  (∀ (op arg : Nat) (s : State), s.beaconDue = true → s.time.pendingStep = some (op, arg) → Completes .timeBeacon s fun t =>
    t.time.master = (if op = 1 then s.time.master + arg else if op = 2 then s.time.master - arg else arg) % masterEnd ∧ t.time.pendingStep = none ∧
      t.get F.TIM_EVENT_STEPPED 0 = 1) ∧
  (∀ s : State, s.up = true → s.stepRefused 1 = false → exec .timStepForward s =
    .next ({ s with time := { s.time with pendingStep := some (1, s.stepArg) } }.set F.TIM_ADJ_CTRL_BUSY 0 1)) ∧
  (∀ s : State, s.up = true → s.stepRefused 2 = false → exec .timStepBack s =
    .next ({ s with time := { s.time with pendingStep := some (2, s.stepArg) } }.set F.TIM_ADJ_CTRL_BUSY 0 1)) ∧
  (∀ s : State, s.up = true → s.stepRefused 3 = false → exec .timStepSet s =
    .next ({ s with time := { s.time with pendingStep := some (3, s.stepArg) } }.set F.TIM_ADJ_CTRL_BUSY 0 1)) ∧
  (∀ s : State, s.up = true → s.stepRefused 1 = true → exec .timStepForward s = .next (s.evTim F.TIM_EVENT_ADJ_REFUSED)) ∧
  (∀ s : State, s.up = true → s.stepRefused 2 = true → exec .timStepBack s = .next (s.evTim F.TIM_EVENT_ADJ_REFUSED)) ∧
  (∀ s : State, s.up = true → s.stepRefused 3 = true → exec .timStepSet s = .next (s.evTim F.TIM_EVENT_ADJ_REFUSED))

/-- TIM_NOW_LO read latches the seconds; the first edge of a capture pin captures the timebase (one after an earlier edge is not stated here); the last PPS_OUT edge that is due is sent, which edge that is being the model's choice of log 104, but for one that a step passed over; its settings wait for the next second, in force as log 113 chooses; a right time-of-day message is stored, another sets its error (R337, R355 to R357, R535). -/
def Obligations.TimeOutside : Prop :=
  (∀ s : State, s.up = true → Completes .timNowRead s fun t => t.out.readData = some s.nowLo ∧
    t.get F.TIM_NOW_HI_SECONDS 0 = s.nowNs / 10 ^ 9 % 2 ^ F.TIM_NOW_HI_SECONDS.width ∧ t.time = s.time) ∧
  (∀ (pin : CapPin) (rising : Bool) (s : State), s.hummock = true → s.hasPin (capFn pin) = true → SMap.find s.pins.lastEdge (capIdx pin) = none →
    (s.capEdge pin = 2 ∨ (s.capEdge pin = 0 ∧ rising = true) ∨ (s.capEdge pin = 1 ∧ rising = false)) → Completes (.pinCapture pin rising) s fun t =>
      t.get F.TIM_CAP_LO_NS (capIdx pin) = s.time.master / (unitNs / 4) / 4 % 10 ^ 9 ∧
        t.get F.TIM_CAP_LO_FRAC (capIdx pin) = s.time.master / (unitNs / 4) % 4 * 2 ^ 30 ∧ t.get (capEvents pin).1 0 = 1) ∧
  (∀ (period phase width : Nat) (s : State), s.hummock = true → s.hasPin pinPpsOut = true → s.ppsNow = (period, phase, width, true) → 0 < period → s.time.ppsLate = none →
    phase ≤ s.nowNs % 10 ^ 9 →
    let edge := s.nowNs - s.nowNs % 10 ^ 9 + (phase + (s.nowNs % 10 ^ 9 - phase) / period * period)
    (s.time.stepAt ≤ edge * unitNs → Completes .ppsOutEdge s fun t => t.out.pps = (edge, width) :: s.out.pps) ∧
      (edge * unitNs < s.time.stepAt → exec .ppsOutEdge s = .next s)) ∧
  (∀ (edge width : Nat) (s : State), s.hummock = true → s.hasPin pinPpsOut = true → s.time.ppsLate = some (edge, width) → s.time.stepAt ≤ edge * unitNs →
    Completes .ppsOutEdge s fun t => t.out.pps = (edge, width) :: s.out.pps ∧ t.time.ppsLate = none) ∧
  (∀ (v : Nat) (s : State), s.up = true → ppsOk (bits v 0 30) (bits v 30 30) (s.get F.TIM_PPS_WIDTH_WIDTH_NS 0) = true →
    Completes (.timPpsOutWrite false v) s fun t => t.get F.TIM_PPS_OUT_PERIOD_NS 0 = bits v 0 30 ∧ t.get F.TIM_PPS_OUT_PHASE_NS 0 = bits v 30 30 ∧
      t.get F.TIM_PPS_OUT_EN 0 = bits v 60 1 ∧ t.ppsNow = s.ppsNow) ∧
  (∀ (v : Nat) (s : State), s.up = true → ppsOk (s.get F.TIM_PPS_OUT_PERIOD_NS 0) (s.get F.TIM_PPS_OUT_PHASE_NS 0) (bits v 0 30) = true →
    Completes (.timPpsOutWrite true v) s fun t => t.get F.TIM_PPS_WIDTH_WIDTH_NS 0 = bits v 0 30 ∧ t.ppsNow = s.ppsNow) ∧
  (∀ (e : Nat) (s : State), s.time.todDue = some e → s.hummock = true → s.hasPin pinTodOut = true → s.get F.TIM_TOD_OUT_EN 0 = 1 →
    Completes .todOutSend s fun t => t.out.tod = todMessage e (s.get F.TIM_TOD_OUT_UTC_OFFSET 0) (s.get F.TIM_TOD_OUT_FLAGS 0) :: s.out.tod ∧
      t.time.todDue = none) ∧
  (∀ (m : List Byte) (s : State), s.hummock = true → s.hasPin pinTodIn = true → todOk m = true → Completes (.todInRx m) s fun t =>
    t.get F.TIM_TOD_IN_0_SECONDS 0 = be m 2 6 ∧ t.get F.TIM_TOD_IN_1_NS 0 = be m 8 4 ∧ t.get F.TIM_EVENT_TOD_IN 0 = 1) ∧
  (∀ (m : List Byte) (s : State), s.hummock = true → s.hasPin pinTodIn = true → todOk m = false →
    exec (.todInRx m) s = .next (s.evTim F.TIM_EVENT_TOD_IN_ERR))

/-! ## Shapers, gates and timestamps -/

/-- A refill takes, of every shaper of the tile's ports, the settings written before its instant, an enabled one starting full, and leaves every shaper that is on within its burst; settings written at that very instant wait for the next one; TSF_POP takes the oldest timestamp record (R354, R367, R368). -/
def Obligations.ShapersAndTimestamps : Prop :=
  (∀ (i p k : Nat) (s : State), s.up = true → i < 32 → s.tileUp i = true → (s.portsOf i).Nodup → p ∈ s.portsOf i → k < 9 →
    let x := s.shaper p k
    let gain (rate : Nat) : Int := (refillBytes rate (s.get F.SCH_CTRL_REFILL i) (s.get F.CLK_QCTRL_ACTUAL (i / 8)) : Nat)
    Completes (.shaperRefill i) s fun t =>
      (∀ w, (x.wrote = none ∨ (x.wrote = some w ∧ s.elapsed ≤ w)) → x.due = none →
        t.shaper p k = if x.on then { x with bucket := min (x.bucket + gain x.rate) (x.burst * 65536 : Nat) } else x) ∧
      (∀ w en rate burst, ((x.wrote = some w ∧ w < s.elapsed ∧ s.shaperRegs p k = (en, rate, burst)) ∨
          ((x.wrote = none ∨ (x.wrote = some w ∧ s.elapsed ≤ w)) ∧ x.due = some (en, rate, burst))) →
        (t.shaper p k).on = en ∧ (t.shaper p k).rate = rate ∧ (t.shaper p k).burst = burst ∧ (t.shaper p k).due = none ∧
          (t.shaper p k).wrote = (if x.wrote.any fun w => decide (w < s.elapsed) then none else x.wrote) ∧
          (en = true → (t.shaper p k).bucket = min ((if x.on then x.bucket else (burst * 65536 : Nat)) + gain rate) (burst * 65536 : Nat)))) ∧
  (∀ (i v : Nat) (s : State), s.tileReach i = true → i < 32 → bitOf v 0 = true → Completes (.tsfPop i v) s fun t =>
    t.tsfRecords i = (s.tsfRecords i).drop 1 ∧ t.regs = s.regs)

/-- CHANGE with parameters that pass makes the admin list pending, CANCEL discards it, a list whose start has come goes into force, and the status shows the entry in force, open where there is no list (R371, R373, R374, R380). -/
def Obligations.Gates : Prop :=
  (∀ (p : Nat) (s : State), s.tileReach (tileOf p) = true → p < 512 → s.isPort p = true → (∃ e ∈ s.layers.time.portUnit, e.2 = p ∧ e.1 / 16 = p / 16) →
    (s.gate p).pending = none → s.get F.GAT_PORT_CTRL_ADMIN_EN p = 1 → s.adminOk (s.portGate p) = true → Completes (.gateChange p) s fun t =>
      ∃ l, (t.gate p).pending = some l ∧ l.entries = s.adminList (s.portGate p) ∧ l.cycle = s.get F.GAT_PORT_CYCLE_CYCLE_NS p ∧ l.clear = false ∧
        (t.gate p).oper = (s.gate p).oper) ∧
  (∀ (p : Nat) (s : State), s.tileReach (tileOf p) = true → p < 512 → s.isPort p = true → (∃ e ∈ s.layers.time.portUnit, e.2 = p ∧ e.1 / 16 = p / 16) →
    Completes (.gateCancel p) s fun t => (t.gate p).pending = none) ∧
  (∀ (p : Nat) (l : GateList) (s : State), s.up = true → p < 512 → s.isPort p = true → (s.gate p).pending = some l → l.start ≤ s.nowNs → l.clear = false →
    Completes (.gateListStart p) s fun t => (t.gate p).oper = some l ∧ (t.gate p).pending = none) ∧
  (∀ (g : Nat) (s : State), s.tileReach (g / 16) = true → g < 512 → (SMap.find s.layers.time.streamUnit g).isSome = true →
    (s.gate (512 + g)).pending = none → s.get F.GAT_SG_CTRL_ADMIN_EN g = 1 → s.adminOk (streamGateRegs g) = true → Completes (.sgChange g) s fun t =>
      ∃ l, (t.gate (512 + g)).pending = some l ∧ l.entries = s.adminList (streamGateRegs g) ∧ l.cycle = s.get F.GAT_SG_CYCLE_CYCLE_NS g ∧
        l.clear = false ∧ (t.gate (512 + g)).oper = (s.gate (512 + g)).oper) ∧
  (∀ (g : Nat) (s : State), s.tileReach (g / 16) = true → g < 512 → (SMap.find s.layers.time.streamUnit g).isSome = true →
    Completes (.sgCancel g) s fun t => (t.gate (512 + g)).pending = none) ∧
  (∀ (g : Nat) (l : GateList) (s : State), s.up = true → g < 512 → (s.gate (512 + g)).pending = some l → l.start ≤ s.nowNs → l.clear = false →
    Completes (.sgListStart g) s fun t => (t.gate (512 + g)).oper = some l ∧ (t.gate (512 + g)).pending = none) ∧
  (∀ (p : Nat) (s : State), s.up = true → p < 512 → s.isPort p = true → Completes (.gateEntryTransition p) s fun t =>
    t.gates = s.gates ∧ t.get F.GAT_PORT_STATUS_STATES p =
      ((s.gate p).inForce s.nowNs).elim 255 fun l => bits (l.at s.nowNs).2 0 8) ∧
  (∀ (g : Nat) (s : State), s.up = true → g < 512 → Completes (.sgTransition g) s fun t =>
    t.gates = s.gates ∧ t.get F.GAT_SG_STATUS_OPEN g = ((s.gate (512 + g)).inForce s.nowNs).elim 1 fun l => b2n (bitOf (l.at s.nowNs).2 0))

/-! ## Elytra -/

/-- SWAP makes the staged half active at once on an idle channel and waits for a frame boundary otherwise; ZEROIZE and CLEAR_STAGED erase; ERASING ends (R443 to R445). -/
def Obligations.KeySlots : Prop :=
  (∀ (n : Nat) (c : PartitionCfg) (s : State), s.up = true → n < 8192 → s.layers.partition n = some c → (∀ x, s.slotPort n = some x → x.1 / 16 = c.tile) →
    s.get F.ELY_SLOT_STG_CFG_READY n = 1 → s.slotIdle n = true → (s.slot n).zeroing = false → Completes (.slotSwap n) s fun t =>
      (t.slot n).active = s.stagedHalf n ∧ (t.slot n).stagedKey = 0 ∧ t.get F.ELY_SLOT_STG_CFG_READY n = 0 ∧
        t.get F.ELY_SLOT_STATUS_SWAP_PENDING n = 0) ∧
  (∀ (n : Nat) (c : PartitionCfg) (s : State), s.up = true → n < 8192 → s.layers.partition n = some c → (∀ x, s.slotPort n = some x → x.1 / 16 = c.tile) →
    s.get F.ELY_SLOT_STG_CFG_READY n = 1 → s.slotIdle n = false →
    exec (.slotSwap n) s = .next (s.set F.ELY_SLOT_STATUS_SWAP_PENDING n 1)) ∧
  (∀ (n : Nat) (s : State), s.up = true → n < 8192 → (s.slot n).zeroing = false → s.get F.ELY_SLOT_STATUS_SWAP_PENDING n = 1 →
    Completes (.swapTakesEffect n) s fun t => (t.slot n).active = s.stagedHalf n ∧ (t.slot n).stagedKey = 0 ∧
      t.get F.ELY_SLOT_STG_CFG_READY n = 0 ∧ t.get F.ELY_SLOT_STATUS_SWAP_PENDING n = 0) ∧
  (∀ (n : Nat) (c : PartitionCfg) (s : State), s.up = true → n < 8192 → s.layers.partition n = some c → (∀ x, s.slotPort n = some x → x.1 / 16 = c.tile) →
    s.slotIdle n = true → Completes (.slotZeroize n) s fun t => (t.slot n).active = Half.empty ∧ (t.slot n).stagedKey = 0 ∧
      t.get F.ELY_SLOT_STG_CFG_READY n = 0 ∧ t.get F.ELY_SLOT_STATUS_SWAP_PENDING n = 0) ∧
  (∀ (n : Nat) (c : PartitionCfg) (s : State), s.up = true → n < 8192 → s.layers.partition n = some c → (∀ x, s.slotPort n = some x → x.1 / 16 = c.tile) →
    s.get F.ELY_SLOT_STATUS_SWAP_PENDING n = 0 → Completes (.slotClearStaged n) s fun t => (t.slot n).active = (s.slot n).active ∧
      (t.slot n).stagedKey = 0 ∧ t.get F.ELY_SLOT_STG_CFG_READY n = 0) ∧
  (∀ (n : Nat) (s : State), s.up = true → n < 8192 → s.get F.ELY_SLOT_STATUS_ERASING n = 1 →
    exec (.keyErased n) s = .next (s.set F.ELY_SLOT_STATUS_ERASING n 0))

/-- ELY_SLOT_STG_CFG takes READY once key and PN are staged and sets WRITE_ERR otherwise; PRT_SEC_CFG takes slots of its own tile and refuses equal slots, a slot that another port names, a change while enabled, a slot outside the partitions of the tile, and enabling where the tile has none (a port names its slots where they differ, the model's choice of log 26); a channel switches with its enables; a failed entropy source is shown and reported, and STALE follows the reseeds (R433, R436, R448, R450). -/
def Obligations.ChannelsAndEntropy : Prop :=
  (∀ (n v : Nat) (c : PartitionCfg) (s : State), s.up = true → n < 8192 → s.layers.partition n = some c → (∀ x, s.slotPort n = some x → x.1 / 16 = c.tile) →
    bitOf v 4 = true → (s.slot n).written &&& suiteWords (bits v 0 2) = suiteWords (bits v 0 2) → s.get F.ELY_SLOT_STG_PN_PN n ≠ 0 →
    s.get F.ELY_SLOT_STATUS_SWAP_PENDING n = 0 → Completes (.stgCfgWrite n v) s fun t => t.get F.ELY_SLOT_STG_CFG_SUITE n = bits v 0 2 ∧
      t.get F.ELY_SLOT_STG_CFG_AN n = bits v 2 2 ∧ t.get F.ELY_SLOT_STG_CFG_READY n = 1 ∧ t.keys = s.keys) ∧
  (∀ (n v : Nat) (c : PartitionCfg) (s : State), s.up = true → n < 8192 → s.layers.partition n = some c → (∀ x, s.slotPort n = some x → x.1 / 16 = c.tile) →
    bitOf v 4 = true → ((s.slot n).written &&& suiteWords (bits v 0 2) ≠ suiteWords (bits v 0 2) ∨ s.get F.ELY_SLOT_STG_PN_PN n = 0) →
    exec (.stgCfgWrite n v) s = .next (s.set F.ELY_SLOT_STATUS_WRITE_ERR n 1)) ∧
  (∀ (p v : Nat) (s : State), s.tileReach (tileOf p) = true → s.isPort p = true → bits v 6 13 ≠ bits v 19 13 →
    (∀ n, (n = bits v 6 13 ∨ n = bits v 19 13) → s.slotOfTile n (p / 16) = true ∧ ∀ x, s.slotPort n = some x → x.1 = p) →
    (s.get F.PRT_SEC_CFG_TX_EN p = 1 → s.get F.PRT_SEC_CFG_TX_SLOT p = bits v 6 13) →
    (s.get F.PRT_SEC_CFG_RX_EN p = 1 → s.get F.PRT_SEC_CFG_RX_SLOT p = bits v 19 13) → Completes (.prtSecCfgWrite p v) s fun t =>
      ∀ f ∈ R.PRT_SEC_CFG.fields, (f = F.PRT_SEC_CFG_CONF_OFFSET → bits v 4 2 ≠ 3) → t.get f p = bits v f.lsb f.width) ∧
  (∀ (p v : Nat) (s : State), s.tileReach (tileOf p) = true → s.isPort p = true → s.slotOfTile (bits v 6 13) (p / 16) = true → s.slotOfTile (bits v 19 13) (p / 16) = true →
    (bits v 6 13 = bits v 19 13 ∨ (∃ x, s.slotPort (bits v 6 13) = some x ∧ x.1 ≠ p) ∨ (∃ x, s.slotPort (bits v 19 13) = some x ∧ x.1 ≠ p) ∨
      (s.get F.PRT_SEC_CFG_TX_EN p = 1 ∧ s.get F.PRT_SEC_CFG_TX_SLOT p ≠ bits v 6 13) ∨ (s.get F.PRT_SEC_CFG_RX_EN p = 1 ∧ s.get F.PRT_SEC_CFG_RX_SLOT p ≠ bits v 19 13)) →
    exec (.prtSecCfgWrite p v) s = .next (s.evSec F.PRT_SEC_EVENT_CFG_ERR p)) ∧
  (∀ (p v : Nat) (s : State), s.tileReach (tileOf p) = true → s.isPort p = true → (s.slotOfTile (bits v 6 13) (p / 16) = false ∨ s.slotOfTile (bits v 19 13) (p / 16) = false) →
    ∃ n u, (n = bits v 6 13 ∨ n = bits v 19 13) ∧ s.slotOfTile n (p / 16) = false ∧ (u = s ∨ u = s.evSec F.PRT_SEC_EVENT_CFG_ERR p) ∧
      exec (.prtSecCfgWrite p v) s = .next (u.claimErr 7 n 0)) ∧
  (∀ (p v : Nat) (s : State), s.tileReach (tileOf p) = true → s.isPort p = true → (∀ c ∈ s.layers.secure, c.tile ≠ p / 16) → bits v 0 2 ≠ 0 →
    exec (.prtSecCfgWrite p v) s = .next ((s.evSec F.PRT_SEC_EVENT_CFG_ERR p).claimErr 7 (bits v 6 13) 0)) ∧
  (∀ (p : Nat) (s : State), s.up = true → s.isPort p = true → Completes (.secChannelSwitch p) s fun t => t.regs = s.regs ∧ t.keys = s.keys ∧
    (t.live p).secTx = decide (s.get F.PRT_SEC_CFG_TX_EN p ≠ 0) ∧ (t.live p).secRx = decide (s.get F.PRT_SEC_CFG_RX_EN p ≠ 0)) ∧
  (∀ s : State, s.up = true → Completes .entropyHealthFail s fun t =>
    t.get F.TOP_ENTROPY_HEALTH_OK 0 = 0 ∧ t.get F.TOP_ENTROPY_FAIL 0 = 1 ∧ (SMap.find t.sundew.caps 0x00A).isSome = true) ∧
  (∀ (taken : Bool) (s : State), s.up = true → exec (.drbgReseed taken) s =
    .next (s.set F.TOP_ENTROPY_STALE 0 (if taken = true ∧ s.get F.TOP_ENTROPY_HEALTH_OK 0 ≠ 0 then 0 else 1)))

/-! ## Sundew -/

/-- A report is captured at its source, a fence that has begun completes, FLT_FENCE_CMD begins one or is refused, FLT_MSG_POP drops the oldest message (R489, R491, R496, R497). -/
def Obligations.FaultReports : Prop :=
  (∀ (src kind address master access : Nat) (s : State), s.hummockUp = true → sourceValid src = true → kind % 64 ≠ 0 →
    Completes (.faultReport src kind address master access) s fun t => (SMap.find t.sundew.caps src).isSome = true) ∧
  (∀ (src kind address master access : Nat) (s : State), s.hummockUp = true → sourceValid src = true → kind % 64 ≠ 0 →
    SMap.find s.sundew.caps src = none → isUnitFault src (kind % 64) access = false → Completes (.faultReport src kind address master access) s fun t =>
      ∃ c, SMap.find t.sundew.caps src = some c ∧ c.valid = true ∧ c.kind = kind % 64 ∧ c.master = master ∧ c.access = access ∧ c.address = address) ∧
  (∀ (src idx : Nat) (s : State), s.hummockUp = true → s.sundew.fencing.contains (src, idx) = true → Completes (.fenceComplete src idx) s fun t =>
    t.isFenced src idx = true ∧ t.sundew.fencing.contains (src, idx) = false) ∧
  (∀ (v : Nat) (s : State), s.up = true → bits v 48 16 = 0x5AA5 → fenceable s.variant (bits v 0 10) (bits v 16 17) = true →
    s.isFenced (bits v 0 10) (bits v 16 17) = false → Completes (.fltFenceCmd v) s fun t =>
      t.sundew.fencing.contains (bits v 0 10, bits v 16 17) = true ∧ (SMap.find t.sundew.caps (bits v 0 10)).isSome = true) ∧
  (∀ (v : Nat) (s : State), s.up = true →
    (bits v 48 16 ≠ 0x5AA5 ∨ fenceable s.variant (bits v 0 10) (bits v 16 17) = false ∨ s.isFenced (bits v 0 10) (bits v 16 17) = true) →
    exec (.fltFenceCmd v) s = .next (s.evC F.FLT_STATUS_CMD_REFUSED 0)) ∧
  (∀ (v : Nat) (s : State), s.up = true → bitOf v 0 = true →
    exec (.fltMsgPop v) s = .next { s with sundew := { s.sundew with msgs := s.sundew.msgs.drop 1 } })

/-- The fault log: the oldest due record goes to the next line, a flush and an erase are answered, and an erased log reads as zero (R500 to R502). That SEQ is held as 0 and the next line is line 0 after an erase is the model's choice of log 95. -/
def Obligations.FaultLog : Prop :=
  (∀ (d : LogDue) (rest : List LogDue) (s : State), s.hummockUp = true → s.get F.NVM_STATUS_FAIL 0 = 0 → s.get F.FLT_LOG_CTRL_AUTO 0 = 1 →
    s.sundew.log = d :: rest → Completes .faultLogWrite s fun t => t.sundew.log = rest ∧ t.sundew.seq = (s.sundew.seq + 1) % 2 ^ 32 ∧
      t.sundew.line = (s.sundew.line + 1) % logLines ∧ t.nvm = Mem.writeList s.nvm (0x1300000 + 64 * s.sundew.line)
        (s.logBytes ((s.sundew.seq + 1) % 2 ^ 32) (s.sundew.bootFirst.getD ((s.sundew.seq + 1) % 2 ^ 32)) d)) ∧
  (∀ (tag : Nat) (s : State), s.mailReady 13 tag [0] → s.sundew.seq < 2 ^ 32 → Completes (.faultLogFlush tag) s fun t =>
    t.answered 13 tag 0 0 ∧ t.get F.NVM_STATUS_LAST_STATUS 0 = 0 ∧
      t.sundew.seq = (s.sundew.seq + (s.sundew.caps.filter fun e => e.2.valid).length) % 2 ^ 32) ∧
  (∀ (tag : Nat) (s : State), s.mailReady 13 tag [1] → Completes (.faultLogErase tag) s fun t =>
    t.answered 13 tag 0 0 ∧ t.sundew.seq = 0 ∧ t.sundew.line = 0 ∧
      (∀ a, 0x1300000 ≤ a → a < 0x1500000 → Mem.read t.nvm a = 0) ∧ ∀ a, (a < 0x1300000 ∨ 0x1500000 ≤ a) → Mem.read t.nvm a = Mem.read s.nvm a)

/-! ## The host interface -/

/-- DMA rings: a tail posts descriptors, a good transmit descriptor stages its frame, a bad one sets BAD_DESC, a buffer of a frame and its record reach host memory, in the byte order of log 23, the last one ends the delivery and another waits for the next buffer, a failed access stops the ring, the end of the moderation timer sets the cause bit (R510 to R520). -/
def Obligations.HostRings : Prop :=
  (∀ (i v : Nat) (l : List Nat) (s : State), s.up = true → i < 64 → s.get F.HST_RING_CTRL_OWNED i = 1 → Completes (.hstRingTailWrite i v l) s fun t =>
    t.get F.HST_RING_TAIL_TAIL i = v % 2 ^ F.HST_RING_TAIL_TAIL.width ∧ (t.hring i).posted.length = t.hposted i) ∧
  (∀ (i h : Nat) (data : List Byte) (s : State), s.up = true → 32 ≤ i → s.get F.HST_RING_CTRL_OWNER i = h → s.hready i = true → s.txTurn h = some i →
    let d := (s.hring i).posted.headD 0
    s.txStatus h d = 0 → s.stagedBytes (512 + h) + bits d 64 14 ≤ hostStaging → bits d 78 2 = 0 → data.length = bits d 64 14 - 4 →
    Completes (.txDescriptor i (some data)) s fun t => ∃ f : Frame, t.staged (512 + h) = s.staged (512 + h) ++ [f] ∧ f.port = 512 + h ∧ f.bytes = data ∧
      t.get F.HST_RING_HEAD_HEAD i = (s.get F.HST_RING_HEAD_HEAD i + 1) % s.hsize i % 2 ^ F.HST_RING_HEAD_HEAD.width) ∧
  (∀ (i h : Nat) (data : Option (List Byte)) (s : State), s.up = true → 32 ≤ i → s.get F.HST_RING_CTRL_OWNER i = h → s.hready i = true →
    s.txTurn h = some i → s.txStatus h ((s.hring i).posted.headD 0) ≠ 0 → Completes (.txDescriptor i data) s fun t =>
      t.get F.HST_RING_EVENT_BAD_DESC i = 1 ∧ t.path = s.path ∧
        t.get F.HST_PORT_CNT_COUNT (7 * h + 4) = satAdd (s.get F.HST_PORT_CNT_COUNT (7 * h + 4)) 1 (2 ^ 64 - 1)) ∧
  (∀ (i gq done : Nat) (fault : DramFault) (e : QEntry) (b : Buf) (s : State), s.up = true → i < 32 → s.hready i = true → SMap.find s.path.delivering i = some (gq, e, done) →
    s.buf e.buf = some b → s.get F.HST_RING_WB_ADDR i = 0 →
    let f := b.frame
    let n := min (s.get F.HST_RING_CTRL_BUF_SIZE i) (f.bytes.length - done)
    let last := decide (f.bytes.length ≤ done + n)
    let held := if last = true ∧ s.get F.BUF_HOST_QUEUE_CFG_HOLD_BUF (gq - 24576) ≠ 0 then some e.buf else none
    let addr := bits ((s.hring i).posted.headD 0) 0 64 / 64 * 64
    let cpl := s.get F.HST_RING_CPL_BASE_ADDR i / 4096 * 4096 + 32 * (s.get F.HST_RING_HEAD_CPL_HEAD i % s.hsize i)
    let memory := ((s.hostWrite addr (slice f.bytes done n)).hostWrite cpl (leBytes (rxRecord n (done == 0) last f gq e.reason held) 32)).out.hostMem
    (last = true → Completes (.rxDelivery ⟨i, fault⟩) s fun t => t.out.hostMem = memory ∧ SMap.find t.path.delivering i = none ∧
      t.get F.HST_PORT_CNT_COUNT (7 * queueQuad gq) = satAdd (s.get F.HST_PORT_CNT_COUNT (7 * queueQuad gq)) 1 (2 ^ 64 - 1)) ∧
    (last = false → (s.hring i).posted.length = 1 → Completes (.rxDelivery ⟨i, fault⟩) s fun t => t.out.hostMem = memory ∧
      SMap.find t.path.delivering i = some (gq, e, done + n))) ∧
  (∀ (i : Nat) (s : State), s.up = true → i < 64 → s.hserves i = true → Completes (.dmaError i) s fun t =>
    t.get F.HST_RING_CTRL_ENABLE i = 0 ∧ t.get F.HST_RING_EVENT_DMA_ERR i = 1 ∧ (SMap.find t.sundew.caps 0x005).isSome = true) ∧
  (∀ (i : Nat) (s : State), s.up = true → i < 64 → (s.hring i).unsignalled ≠ 0 → s.get F.HST_RING_CTRL_ITR_US i ≠ 0 →
    Completes (.itrTimerExpiry i) s fun t => (t.hring i).unsignalled = 0 ∧ bitOf (t.get F.HST_INT_CAUSE_CAUSE 0) i = true ∧ t.path = s.path)

/-- Host memory goes out of reach and returns; PERST_N resets the rings too. As it goes the frames being delivered are cut off and counted, the host queues are discarded as LINK_FLUSH, a store or read of the NVM that moves host data ends with NVM_DMA and an export with ERR; while it is away no transmit descriptor is consumed (R140, R141, R457, R508). -/
def Obligations.HostAccess : Prop :=
  (∀ (n : Nat) (s : State), Completes (.perstNAssert n) s fun t => t.pins.perstLow = true ∧ t.pins.hostAllowed = false ∧ t.host.rings = [] ∧
    ∀ i, i < 64 → t.get F.HST_RING_CTRL_ENABLE i = 0) ∧
  (∀ (n : Nat) (s : State), Completes (.hostAccessStop n) s fun t => t.pins.hostAllowed = false ∧ t.pins.perstLow = s.pins.perstLow) ∧
  (∀ (n : Nat) (c : Instr) (s : State), (c = .perstNAssert n ∨ c = .hostAccessStop n) → s.pins.hostAllowed = true → Completes c s fun t =>
    (∀ i, i < 32 → SMap.find t.path.delivering i = none) ∧
    (∀ i gq e done, i < 32 → SMap.find s.path.delivering i = some (gq, e, done) → s.get F.HST_PORT_CNT_COUNT (7 * queueQuad gq + 6) < 2 ^ 64 - 1 →
      s.get F.HST_PORT_CNT_COUNT (7 * queueQuad gq + 6) < t.get F.HST_PORT_CNT_COUNT (7 * queueQuad gq + 6)) ∧
    (∀ gq, 24576 ≤ gq → gq < 24640 → t.queue gq = []) ∧
    (∀ h, h < 4 → let n := ((List.range 16).map fun k => (s.queue (24576 + 16 * h + k)).length).sum
      n ≠ 0 → t.get F.BUF_DROP_CNT_COUNT (64 * h + cLinkFlush) = satAdd (s.get F.BUF_DROP_CNT_COUNT (64 * h + cLinkFlush)) n (2 ^ 64 - 1)) ∧
    (∀ tag region lines, s.nvmJob = some (.store tag region true lines) → t.nvmJob = none ∧ t.answered 4 tag 0 nvmDma ∧ t.get F.NVM_STATUS_LAST_STATUS 0 = nvmDma) ∧
    (∀ tag region offset length addr, s.nvmJob = some (.read tag region offset length addr) →
      t.nvmJob = none ∧ t.answered 5 tag 0 nvmDma ∧ t.get F.NVM_STATUS_LAST_STATUS 0 = nvmDma ∧ t.nvm = s.nvm) ∧
    (∀ d, d < 2 → (s.stack d).exporting.isSome = true → (t.stack d).exporting = none ∧ t.get F.DRC_TELEM_EXPORT_CTRL_BUSY d = 0 ∧
      t.get F.DRC_TELEM_EXPORT_CTRL_ERR d = 1)) ∧
  (∀ (i : Nat) (data : Option (List Byte)) (s : State), s.pins.hostAllowed = false → exec (.txDescriptor i data) s = .next s) ∧
  (∀ s : State, s.hummockUp = true → s.get F.HUM_DEVICE_STATE_STATE 0 ≠ 3 → Completes .hostAccessResume s fun t =>
    t.pins.hostAllowed = true ∧ t.pins.perstLow = false)

/-- The mailbox: a doorbell restarts Caddis and fills the slot, or is lost, Caddis takes the command or refuses it at once, a pop drops the oldest response, FW_INFO and PATCH_STATUS answer (R74, R117, R522 to R524). -/
def Obligations.Mailbox : Prop :=
  (∀ (v : Nat) (s : State), s.mailReach = true → bitOf v 0 = true → s.get F.FWM_STATUS_SLOT_BUSY 0 = 0 →
    exec (.mailboxDoorbell v) s = .next (s.caddisRestart.set F.FWM_STATUS_SLOT_BUSY 0 1)) ∧
  (∀ (v : Nat) (s : State), s.mailReach = true → bitOf v 0 = true → s.get F.FWM_STATUS_SLOT_BUSY 0 = 1 →
    exec (.mailboxDoorbell v) s = .next (s.evC F.HST_RING_EVENT_DOORBELL_LOST 0)) ∧
  (∀ (args : List Nat) (s : State), s.caddisUp = true → s.clocks.caddisAsleep = false → s.get F.FWM_STATUS_SLOT_BUSY 0 = 1 → s.mailRoom = true →
    args = ((List.range (mailArity (s.get F.FWM_CMD_OPCODE 0))).map fun k => s.get F.FWM_ARG_ARG k) →
    s.mailRefusal (s.get F.FWM_CMD_OPCODE 0) args = none → (s.get F.FWM_CMD_OPCODE 0 = 12 → args.headD 0 ≤ 3) → Completes .mailboxTake s fun t =>
      t.get F.FWM_STATUS_SLOT_BUSY 0 = 0 ∧
        t.host.taken = s.host.taken ++ [{ opcode := s.get F.FWM_CMD_OPCODE 0, tag := s.get F.FWM_CMD_TAG 0, args := args }]) ∧
  (∀ (args : List Nat) (st : Nat) (s : State), s.caddisUp = true → s.clocks.caddisAsleep = false → s.get F.FWM_STATUS_SLOT_BUSY 0 = 1 → s.mailRoom = true →
    args = ((List.range (mailArity (s.get F.FWM_CMD_OPCODE 0))).map fun k => s.get F.FWM_ARG_ARG k) →
    s.mailRefusal (s.get F.FWM_CMD_OPCODE 0) args = some st → Completes .mailboxTake s fun t =>
      t.get F.FWM_STATUS_SLOT_BUSY 0 = 0 ∧ t.answered (s.get F.FWM_CMD_OPCODE 0) (s.get F.FWM_CMD_TAG 0) st 0 ∧ t.host.taken = s.host.taken) ∧
  (∀ (v : Nat) (s : State), s.mailReach = true → bitOf v 0 = true →
    exec (.fwmRespPop v) s = .next { s with host := { s.host with resp := s.host.resp.drop 1 } }) ∧
  (∀ (tag : Nat) (s : State), s.mailReady 1 tag [] → Completes (.fwInfo tag) s fun t =>
    ∃ r ∈ t.host.resp, r.opcode = 1 ∧ r.tag = tag ∧ r.status = 0 ∧ r.data = s.get F.TOP_ID_ROM_VERSION 0 + 2 ^ 32 * s.boot.patch.elim 0 (·.2.1)) ∧
  (∀ (tag : Nat) (s : State), s.mailReady 6 tag [] → Completes (.patchStatus tag) s fun t => t.answered 6 tag 0 (s.get F.TOP_BOOT_PATCH_RESULT 0))

/-- The SMBus target: the offset is set and moves on by 8, a read returns the register at it, a write acts on every field of the register at it by its access code, one outside the window is refused, a wrong PEC has no effect; the TAP: BYPASS, IDCODE, SAMPLE and its reset leave a running module as it is, EXTEST, CLAMP and HIGHZ hold it in warm reset, and it boots when they end (R525 to R527, R557). What a wrong PEC sets and the status of the last transfer are the model's choice of log 100; that BYPASS shifts out a 0 and that a TAP reset selects IDCODE is presumed in log 101; the stepping 0x01 in IDCODE is the model's choice of log 3. -/
def Obligations.BoardAccess : Prop :=
  (∀ (off : Nat) (s : State), s.hummockUp = true → Completes (.smbSetOffset ⟨off, true⟩) s fun t => t.host.smbOffset = off % 2 ^ 24 / 8 * 8 ∧
    t.host.smbRefused = false ∧ t.host.smbPecErr = false ∧ t.regs = s.regs ∧ t.path = s.path) ∧
  (∀ (off : Nat) (s : State), s.hummockUp = true → Completes (.smbSetOffset ⟨off, false⟩) s fun t => t.host.smbPecErr = true ∧ t.host.smbOffset = s.host.smbOffset ∧
    t.host.smbRefused = s.host.smbRefused ∧ t.regs = s.regs ∧ t.path = s.path) ∧
  (∀ (r : Reg) (i : Nat) (s : State), s.hummockUp = true → s.smbWindow s.host.smbOffset = true → s.smbAway s.host.smbOffset = false →
    registerAt s.host.smbOffset = some (r, i) → Completes (.smbRead true) s fun t => t.out.readData = some (s.word r i) ∧
      t.host.smbOffset = (s.host.smbOffset + 8) % 2 ^ 24 ∧ t.host.smbRefused = false) ∧
  (∀ s : State, s.hummockUp = true → s.smbWindow s.host.smbOffset = false → Completes (.smbRead true) s fun t => t.out.readData = some 0 ∧
    t.host.smbRefused = true ∧ t.regs = s.regs) ∧
  (∀ (v : Nat) (s : State), s.hummockUp = true → s.host.smbOffset = R.FLT_CAP_SEL.base → Completes (.smbWrite v true) s fun t =>
    t.get F.FLT_CAP_SEL_SOURCE 0 = bits v 0 10 ∧ t.host.smbOffset = R.FLT_CAP_SEL.base + 8) ∧
  (∀ (v i : Nat) (r : Reg) (s : State), s.hummockUp = true → s.smbWindow s.host.smbOffset = true → s.smbAway s.host.smbOffset = false →
    s.host.smbOffset ≠ R.HUM_DEVICE_STATE.base → registerAt s.host.smbOffset = some (r, i) → s.instanceUsed r i = true → fieldByField r = true →
    Completes (.smbWrite v true) s fun t => t.host.smbOffset = (s.host.smbOffset + 8) % 2 ^ 24 ∧ t.host.smbRefused = false ∧
      ∀ f ∈ r.fields, s.get f i < 2 ^ f.width →
        let x := bits (valueTaken r i (v % 2 ^ 64)) f.lsb f.width
        t.get f i = if valueIgnored f x then s.get f i else fieldAfter f (s.get f i) x) ∧
  (∀ (v : Nat) (s : State), s.hummockUp = true → s.smbWindow s.host.smbOffset = false → Completes (.smbWrite v true) s fun t =>
    t.host.smbRefused = true ∧ t.regs = s.regs ∧ t.path = s.path) ∧
  (∀ (v : Nat) (s : State), s.hummockUp = true → Completes (.smbWrite v false) s fun t => t.host.smbPecErr = true ∧ t.host.smbOffset = s.host.smbOffset ∧
    t.regs = s.regs ∧ t.path = s.path) ∧
  (∀ s : State, s.hummockUp = true → Completes .smbStatusRead s fun t =>
    t.out.readData = some (b2n s.host.smbRefused + 2 * b2n s.host.smbPecErr) ∧ t.host = s.host ∧ t.regs = s.regs) ∧
  (∀ (b : BootFindings) (s : State), s.pins.held = false →
    exec (.jtagBypass b) s = .next { s with pins := { s.pins with tap := .bypass }, out := { s.out with tdo := if s.hummockUp then some 0 else none } } ∧
    exec (.jtagIdcode b) s = .next { s with pins := { s.pins with tap := .idcode }, out := { s.out with tdo := if s.hummockUp then some 0x110249CB else none } } ∧
    exec (.tapReset b) s = .next { s with pins := { s.pins with tap := .idcode } }) ∧
  (∀ (scan : BoundaryScan) (b : BootFindings) (s : State), s.pins.held = false → Completes (.jtagSamplePreload scan b) s fun t =>
    t.pins.tap = .samplePreload ∧ t.pins.boundary = scan.preload ∧ t.pins.shiftIn = scan.extest ∧ t.regs = s.regs ∧ t.path = s.path) ∧
  (∀ (c : Instr) (tap : TapInstr) (s : State), (c, tap) ∈ [(Instr.jtagExtest, TapInstr.extest), (.jtagClamp, .clamp), (.jtagHighz, .highz)] →
    s.hummockUp = true → s.get F.HUM_DEVICE_STATE_STATE 0 ≠ 3 → s.pins.held = false → Completes c s fun t =>
      t.pins.tap = tap ∧ t.get F.TOP_BOOT_READY 0 = 0 ∧ t.keys = [] ∧ t.path.queues = [] ∧ (tap ≠ .extest → t.out.tdo = some 0) ∧
        (tap = .extest → t.pins.boundary = s.pins.shiftIn.headD s.pins.boundary ∧ t.pins.shiftIn = s.pins.shiftIn.drop 1)) ∧
  (∀ (b : BootFindings) (s : State), s.hummockUp = true → s.get F.HUM_DEVICE_STATE_STATE 0 ≠ 3 → s.pins.held = true → s.pins.resetLow = false →
    bitOf (s.get F.TOP_BOOT_RAIL_MISSING 0) 0 = false → b.romOk = true → b.sramOk = true → Completes (.tapReset b) s fun t =>
      t.get F.TOP_BOOT_READY 0 = 1 ∧ t.pins.tap = .idcode)

/-! ## Register access -/

/-- Accesses to BAR0 and BAR2. A full read returns the register and clears or restarts its RC fields; a narrow one returns its bytes (log 102) and has no side effect. A full write acts on every field of the register by its access code; a register with a command or a condition of its own has its own statement. A narrow write is ignored and reported. An access to a unit that is away, as one in reset is, reads as ones and writes nothing. BAR2 holds the MSI-X table, whose layout, whose kept bits and whose writes byte by byte are presumed in log 123. An access that ends beyond its BAR stops the machine, which is the model's choice of log 20 (R15, R506, R509, R533, R535, R566). -/
def Obligations.BarAccess : Prop :=
  (∀ (c : Instr) (off i : Nat) (r : Reg) (s : State), (c = .rcRead (.bar0 off) 8 ∨ c = .extremumRead off 8) → off + 8 ≤ 2 ^ 24 → off % 8 = 0 →
    s.pins.perstLow = false → s.reach off = .served → registerAt off = some (r, i) → s.instanceUsed r i = true → r.base ≠ R.TIM_NOW_LO.base →
    Completes c s fun t => t.out.readData = some (s.word r i) ∧ t.path = s.path ∧
      ∀ f ∈ r.fields, f.access = .rc → t.get f i = (s.restartOf f i).getD 0 % 2 ^ f.width) ∧
  (∀ (c : Instr) (off bytes : Nat) (s : State), (c = .rcRead (.bar0 off) bytes ∨ c = .extremumRead off bytes) → off + bytes ≤ 2 ^ 24 →
    (bytes ≠ 8 ∨ off % 8 ≠ 0) → Completes c s fun t => t.regs = s.regs ∧ t.path = s.path ∧ t.host = s.host) ∧
  (∀ (c : Instr) (off bytes i : Nat) (r : Reg) (s : State), (c = .rcRead (.bar0 off) bytes ∨ c = .extremumRead off bytes) → off + bytes ≤ 2 ^ 24 →
    bytes < 8 → off % 8 + bytes ≤ 8 → s.pins.perstLow = false → s.reach off = .served → s.reach (off / 8 * 8) = .served →
    registerAt (off / 8 * 8) = some (r, i) → s.instanceUsed r i = true →
    Completes c s fun t => t.out.readData = some (s.word r i / 2 ^ (8 * (off % 8)) % 2 ^ (8 * bytes))) ∧
  (∀ (off i v : Nat) (r : Reg) (s : State), off + 8 ≤ 2 ^ 24 → off % 8 = 0 → s.pins.perstLow = false → s.reach off = .served →
    registerAt off = some (r, i) → s.instanceUsed r i = true → fieldByField r = true → Completes (.registerWrite (.bar0 off) 8 v) s fun t =>
      ∀ f ∈ r.fields, s.get f i < 2 ^ f.width →
        let x := bits (valueTaken r i (v % 2 ^ 64)) f.lsb f.width
        t.get f i = if valueIgnored f x then s.get f i else fieldAfter f (s.get f i) x) ∧
  (∀ (v : Nat) (s : State), s.pins.perstLow = false → s.reach R.FLT_CAP_SEL.base = .served →
    exec (.registerWrite (.bar0 R.FLT_CAP_SEL.base) 8 v) s = .next (s.set F.FLT_CAP_SEL_SOURCE 0 (bits v 0 10))) ∧
  (∀ (off bytes v : Nat) (s : State), off + bytes ≤ 2 ^ 24 → s.pins.perstLow = false → s.reach off ≠ .silent → (bytes ≠ 8 ∨ off % 8 ≠ 0) →
    Completes (.registerWrite (.bar0 off) bytes v) s fun t => (SMap.find t.sundew.caps 0x004).isSome = true ∧ t.path = s.path ∧ t.exm = s.exm ∧ t.tcam = s.tcam) ∧
  (∀ (c : Instr) (off : Nat) (s : State), (c = .rcRead (.bar0 off) 8 ∨ c = .extremumRead off 8) → off + 8 ≤ 2 ^ 24 → off % 8 = 0 →
    s.pins.perstLow = false → s.reach off = .away → Completes c s fun t => t.out.readData = some (2 ^ 64 - 1) ∧ t.regs = s.regs ∧ t.path = s.path) ∧
  (∀ (off v : Nat) (s : State), off + 8 ≤ 2 ^ 24 → off % 8 = 0 → s.pins.perstLow = false → s.reach off = .away →
    exec (.registerWrite (.bar0 off) 8 v) s = .next s) ∧
  (∀ (off : Nat) (u : ResetUnit) (b : BootFindings) (s : State), s.up = true → bitOf (s.get F.TOP_BOOT_RAIL_MISSING 0) 0 = false → (u, b) ∈ s.boot.inReset →
    u.region off = true → s.reach off = .away) ∧
  (∀ (o bytes v : Nat) (s : State), o + bytes ≤ endpoint.barSize 2 → s.pins.perstLow = false → s.reach 0 ≠ .silent →
    Completes (.registerWrite (.bar2 o) bytes v) s fun t => t.regs = s.regs ∧ t.path = s.path ∧
      (∀ k, k < bytes → o + k < 0x800 → t.msixByte (o + k) = BitVec.ofNat 8 (v / 256 ^ k) &&& msixKept (o + k)) ∧
      ∀ a, (a < o ∨ o + bytes ≤ a) → t.msixByte a = s.msixByte a) ∧
  (∀ (o bytes : Nat) (s : State), o + bytes ≤ endpoint.barSize 2 → s.pins.perstLow = false → s.reach 0 ≠ .silent → o + bytes ≤ 0x800 →
    Completes (.rcRead (.bar2 o) bytes) s fun t => t.out.readData = some (leNat ((List.range bytes).map fun k => s.msixByte (o + k))) ∧ t.regs = s.regs) ∧
  (∀ (off bytes v : Nat) (s : State), 2 ^ 24 < off + bytes → exec (.registerWrite (.bar0 off) bytes v) s = .fault .outsideBar0 ∧
    exec (.rcRead (.bar0 off) bytes) s = .fault .outsideBar0 ∧ exec (.extremumRead off bytes) s = .fault .outsideBar0)

/-! ## The non-volatile store and images -/

/-- NVM_STORE and NVM_READ begin, NVM_STORE refuses the read-only regions, whatever the range, which the model chooses in log 60, and both end with their data written and NVM_OK. NVM_STORE of region 4 with length 0 captures: it writes the copy that is not valid, or the one with the lower SEQ, its header last, with the SEQ that follows; more records than a copy holds are answered NVM_FULL (R93 to R97). That the one copy that is not valid is written, and of two with one SEQ the lower, is the model's choice of log 62. -/
def Obligations.NvmCommands : Prop :=
  (∀ (tag region offset length addr : Nat) (data : List Byte) (s : State), s.mailReady 4 tag [region, offset, length, addr] →
    (region ≤ 4 ∨ region = 7) → nvmInRange region offset length = true → (region ≤ 1 → s.get F.PTL_SWAP_BUSY 0 = 0) → s.pins.hostAllowed = true →
    data.length = length → Completes (.nvmStore tag region offset length addr data) s fun t =>
      t.nvmJob = some (.store tag region true (linesAt ((nvmRegion region).1 + offset) data)) ∧ t.nvm = s.nvm) ∧
  (∀ (tag region offset length addr : Nat) (data : List Byte) (s : State), s.mailReady 4 tag [region, offset, length, addr] →
    (region = 5 ∨ region = 6) → Completes (.nvmStore tag region offset length addr data) s fun t => t.answered 4 tag 0 2 ∧ t.nvm = s.nvm) ∧
  (∀ (tag offset addr : Nat) (data : List Byte) (s : State), s.mailReady 4 tag [4, offset, 0, addr] → offset % 64 = 0 → offset ≤ (nvmRegion 4).2 →
    let u := s.caddisRestart.mailBegin 4 tag [4, offset, 0, addr]
    Completes (.nvmStore tag 4 offset 0 addr data) s fun t => t.nvm = s.nvm ∧ u.regs = s.regs ∧
      (if u.paramRecords.length ≤ paramMost then t.nvmJob = some (.store tag 4 false (u.captureLines u.paramRecords)) else t.answered 4 tag 0 nvmFull)) ∧
  (∀ s : State, (s.captureLines s.paramRecords).getLast?.map (·.1) = some (paramAddr s.paramNext.1) ∧
    (∀ n, n < 2 → s.paramCopy n = none → s.paramCopy (1 - n) ≠ none → s.paramNext.1 = n) ∧
    (∀ a b, s.paramCopy 0 = some a → s.paramCopy 1 = some b → s.paramNext = if a.seq ≤ b.seq then (0, b.seq + 1) else (1, a.seq + 1))) ∧
  (∀ (tag region : Nat) (h : Bool) (lines : List (Nat × List Byte)) (reads : NvmReads) (s : State), s.caddisUp = true →
    s.nvmJob = some (.store tag region h lines) → reads.uncorrectable = [] → Completes (.nvmStoreDone ⟨none, reads⟩) s fun t => t.nvm = lines.foldl (fun m l => Mem.writeList m l.1 l.2) s.nvm ∧ t.nvmJob = none ∧ t.answered 4 tag 0 0) ∧
  (∀ (tag region offset length addr : Nat) (s : State), s.mailReady 5 tag [region, offset, length, addr] → nvmInRange region offset length = true →
    s.pins.hostAllowed = true → Completes (.nvmRead tag region offset length addr) s fun t =>
      t.nvmJob = some (.read tag region offset length addr) ∧ t.nvm = s.nvm) ∧
  (∀ (tag region offset length addr corrected : Nat) (s : State), s.caddisUp = true → s.nvmJob = some (.read tag region offset length addr) →
    Completes (.nvmReadDone none corrected) s fun t => t.nvmJob = none ∧ t.answered 5 tag 0 0 ∧ t.nvm = s.nvm ∧
      t.out.hostMem = (s.hostWrite addr (Mem.readList s.nvm ((nvmRegion region).1 + offset) length)).out.hostMem)

/-- PEAT_LOAD of a slot that validates boots the module with its image, of another answers its code; PEAT_SWAP_LAYER answers a conflict, or begins (R52, R53, R59, R62). -/
def Obligations.PeatCommands : Prop :=
  (∀ (tag slot : Nat) (i : Image) (b : BootFindings) (s : State), s.mailReady 2 tag [slot] → (s.validate slot).code = peatOk →
    (s.validate slot).image = some i → b.reads.uncorrectable = [] → s.nvmJob = none → bitOf (s.get F.TOP_BOOT_RAIL_MISSING 0) 0 = false → b.romOk = true → b.sramOk = true →
    b.nvmOk = true → Completes (.peatLoad tag slot b) s fun t => t.get F.TOP_BOOT_READY 0 = 1 ∧ t.image.serial = i.serial) ∧
  (∀ (tag slot : Nat) (b : BootFindings) (s : State), s.mailReady 2 tag [slot] →
    let v := (s.nvmSeen (readsOfSlot b.reads slot)).validate slot
    v.code ≠ peatOk → Completes (.peatLoad tag slot b) s fun t => t.answered 2 tag 0 v.code ∧ t.image = s.image ∧ t.path = s.path) ∧
  (∀ (tag slot mask ms q : Nat) (reads : NvmReads) (rest more : List Nat) (i : Image) (s : State), s.mailReady 3 tag [slot, mask, ms] →
    ((s.nvmSeen (readsOfSlot reads slot)).validate slot).image = some i →
    s.swapAllowed i mask = true → s.swapList i mask = 6 :: rest → s.layers.affected i.layers 6 = q :: more → (∀ x ∈ q :: more, s.quadUp x = true) →
    q < 4 → Completes (.peatSwapLayer tag ⟨slot, reads⟩ mask ms) s fun t => t.get F.PTL_SWAP_BUSY 0 = 1 ∧ t.get F.PTL_SWAP_LAYER 0 = 6 ∧
      t.get F.PTL_SWAP_QUIESCING 0 = 1 ∧ t.get F.PTL_SWAP_QUADRANT 0 = q) ∧
  (∀ (tag slot mask ms : Nat) (reads : NvmReads) (s : State), s.mailReady 3 tag [slot, mask, ms] →
    (∀ i, ((s.nvmSeen (readsOfSlot reads slot)).validate slot).image = some i → s.swapAllowed i mask = false) →
    Completes (.peatSwapLayer tag ⟨slot, reads⟩ mask ms) s fun t => t.answered 3 tag 0 peatConflict ∧ t.image = s.image ∧ t.path = s.path)

/-- A swap goes on: an awake tile switches and the last one ends it, a drained quadrant takes its part, a timeout empties its queues (R54, R57, R59, R60). -/
def Obligations.SwapProgress : Prop :=
  (∀ (i u : Nat) (l : Layers) (s : State), s.up = true → i < 32 → s.awake i = true → bitOf (s.get F.PTL_SWAP_PENDING_TILES 0) i = true →
    s.handover.goal = some l → s.latePorts l i = [] → u ≠ i → u ∈ s.tilesToSwitch → Completes (.swapTileSwitch i) s fun t =>
      bitOf (t.get F.PTL_SWAP_PENDING_TILES 0) i = false ∧ t.swap = s.swap) ∧
  (∀ (i type : Nat) (l : Layers) (j : SwapJob) (s : State), s.up = true → s.tilesToSwitch = [i] → s.handover.goal = some l → s.latePorts l i = [] →
    s.swap = some j → j.todo = [type] → (type = 3 ∨ type = 7) → Completes (.swapTileSwitch i) s fun t =>
      t.swap = none ∧ t.get F.PTL_SWAP_BUSY 0 = 0 ∧ t.get F.PTL_SWAP_DONE 0 = 1 ∧ t.answered 3 j.tag 0 0 ∧ t.image.serial = j.image.serial) ∧
  (∀ (type q : Nat) (j : SwapJob) (s : State), s.up = true → s.swap = some j → j.todo = [type] → j.quadrants = [q] → s.quiesced q = true →
    s.quadBusy q = false → Completes .quiesceDrained s fun t => t.swap = none ∧ t.get F.PTL_SWAP_QUIESCING 0 = 0 ∧ t.get F.PTL_SWAP_BUSY 0 = 0 ∧
      t.answered 3 j.tag 0 0) ∧
  (∀ (type q n : Nat) (rest more : List Nat) (j : SwapJob) (s : State), s.up = true → s.swap = some j → j.todo = type :: rest →
    j.quadrants = q :: n :: more → n < 4 → s.quiesced q = true → s.quadBusy q = false → Completes .quiesceDrained s fun t =>
      t.get F.PTL_SWAP_QUIESCING 0 = 1 ∧ t.get F.PTL_SWAP_QUADRANT 0 = n) ∧
  (∀ (q : Nat) (rest : List Nat) (j : SwapJob) (s : State), s.up = true → s.swap = some j → j.quadrants = q :: rest → s.quiesced q = true →
    Completes .quiesceTimeout s fun t => ∀ gq, queueQuad gq = q → t.queue gq = [])
end

