-- ==== Sys2Proof/Laws/SMap.lean ====
section
/-! SUPPORT. Laws of sparse maps and of byte memories: a read after a write, writes elsewhere, and the canonical form that every operation keeps. -/

namespace Sys2Proof.Machine

variable {α : Type}

/-! ## Reads after writes -/

@[simp] theorem SMap.find_put_same (m : SMap α) (i : Nat) (v : α) : SMap.find (SMap.put m i v) i = some v := by
  induction m with
  | nil => simp [SMap.put, SMap.find]
  | cons e m ih =>
    obtain ⟨k, w⟩ := e
    by_cases h : k = i
    · simp [SMap.put, SMap.find, h]
    · by_cases h' : i < k <;> simp [SMap.put, SMap.find, h, h', ih]

theorem SMap.find_put_ne (m : SMap α) {i j : Nat} (v : α) (h : j ≠ i) : SMap.find (SMap.put m i v) j = SMap.find m j := by
  induction m with
  | nil => simp [SMap.put, SMap.find, Ne.symm h]
  | cons e m ih =>
    obtain ⟨k, w⟩ := e
    by_cases hk : k = i
    · subst hk; simp [SMap.put, SMap.find, Ne.symm h]
    · by_cases h' : i < k
      · simp [SMap.put, SMap.find, hk, h', Ne.symm h]
      · by_cases hj : k = j
        · subst hj; simp [SMap.put, SMap.find, hk, h']
        · simp [SMap.put, SMap.find, hk, h', hj, ih]

@[simp] theorem SMap.find_filter_none (m : SMap α) (p : Nat → Bool) (i : Nat) (h : p i = false) :
    SMap.find (List.filter (fun e => p e.1) m) i = none := by
  induction m with
  | nil => rfl
  | cons e m ih =>
    obtain ⟨k, w⟩ := e
    by_cases hp : p k = true
    · have : k ≠ i := fun hk => by simp [hk, h] at hp
      simp [hp, SMap.find, this, ih]
    · simp [hp, ih]

theorem SMap.find_filter_keep (m : SMap α) (p : Nat → Bool) (i : Nat) (h : p i = true) :
    SMap.find (List.filter (fun e => p e.1) m) i = SMap.find m i := by
  induction m with
  | nil => rfl
  | cons e m ih =>
    obtain ⟨k, w⟩ := e
    by_cases hk : k = i
    · subst hk; simp [h, SMap.find]
    · by_cases hp : p k = true <;> simp [hp, SMap.find, hk, ih]

@[simp] theorem SMap.find_del_same (m : SMap α) (i : Nat) : SMap.find (SMap.del m i) i = none := by
  have := SMap.find_filter_none m (fun k => decide (k ≠ i)) i (by simp)
  simpa [SMap.del] using this

theorem SMap.find_del_ne (m : SMap α) {i j : Nat} (h : j ≠ i) : SMap.find (SMap.del m i) j = SMap.find m j := by
  have := SMap.find_filter_keep m (fun k => decide (k ≠ i)) j (by simpa using h)
  simpa [SMap.del] using this

@[simp] theorem SMap.findD_put_same (m : SMap α) (i : Nat) (v d : α) : SMap.findD (SMap.put m i v) i d = v := by
  simp [SMap.findD]

theorem SMap.findD_put_ne (m : SMap α) {i j : Nat} (v d : α) (h : j ≠ i) :
    SMap.findD (SMap.put m i v) j d = SMap.findD m j d := by simp [SMap.findD, SMap.find_put_ne m v h]

/-! ## The canonical form -/

/-- Rising keys, in the form that induction uses. -/
theorem SMap.wf_iff (m : SMap α) : SMap.wf m = true ↔ List.Pairwise (fun a b => a.1 < b.1) m := by
  induction m with
  | nil => simp [SMap.wf]
  | cons a m ih =>
    cases m with
    | nil => simp [SMap.wf]
    | cons b m =>
      rw [SMap.wf, Bool.and_eq_true, ih, decide_eq_true_eq, List.pairwise_cons (a := a)]
      constructor
      · rintro ⟨h, hp⟩
        refine ⟨fun c hc => ?_, hp⟩
        rcases List.mem_cons.mp hc with rfl | hc
        · exact h
        · exact Nat.lt_trans h ((List.pairwise_cons.mp hp).1 c hc)
      · exact fun ⟨h, hp⟩ => ⟨h b (by simp), hp⟩

theorem SMap.mem_put {m : SMap α} {i : Nat} {v : α} {e : Nat × α} (h : e ∈ SMap.put m i v) : e = (i, v) ∨ e ∈ m := by
  induction m with
  | nil => simpa [SMap.put] using h
  | cons a m ih =>
    obtain ⟨k, w⟩ := a
    unfold SMap.put at h
    split at h
    · rcases List.mem_cons.mp h with h | h
      · exact .inl h
      · exact .inr (by simp [h])
    · split at h
      · rcases List.mem_cons.mp h with h | h
        · exact .inl h
        · exact .inr h
      · rcases List.mem_cons.mp h with h | h
        · exact .inr (by simp [h])
        · exact (ih h).imp id fun h => by simp [h]

theorem SMap.wf_put (m : SMap α) (i : Nat) (v : α) (h : SMap.wf m = true) : SMap.wf (SMap.put m i v) = true := by
  rw [SMap.wf_iff] at h ⊢
  induction m with
  | nil => simp [SMap.put]
  | cons a m ih =>
    obtain ⟨k, w⟩ := a
    obtain ⟨ha, hm⟩ := List.pairwise_cons.mp h
    unfold SMap.put
    split
    · rename_i hk; subst hk; exact List.pairwise_cons.mpr ⟨ha, hm⟩
    · rename_i hk
      split
      · rename_i hi
        refine List.pairwise_cons.mpr ⟨fun e he => ?_, h⟩
        rcases List.mem_cons.mp he with rfl | he
        · exact hi
        · exact Nat.lt_trans hi (ha e he)
      · rename_i hi
        refine List.pairwise_cons.mpr ⟨fun e he => ?_, ih hm⟩
        rcases SMap.mem_put he with rfl | he
        · show k < i; omega
        · exact ha e he

theorem SMap.wf_filter (m : SMap α) (p : Nat × α → Bool) (h : SMap.wf m = true) : SMap.wf (List.filter p m) = true := by
  rw [SMap.wf_iff] at h ⊢
  exact h.filter p

theorem SMap.wf_del (m : SMap α) (i : Nat) (h : SMap.wf m = true) : SMap.wf (SMap.del m i) = true := SMap.wf_filter m _ h

theorem SMap.wf_drop (m : SMap α) (p : Nat → Bool) (h : SMap.wf m = true) : SMap.wf (SMap.drop m p) = true := SMap.wf_filter m _ h

/-! ## Byte memories -/

theorem Mem.wf_parts (m : Mem) : Mem.wf m = true ↔ SMap.wf m = true ∧ ∀ e ∈ m, e.2 ≠ 0 := by
  simp [Mem.wf]

@[simp] theorem Mem.read_write_same (m : Mem) (a : Nat) (b : Byte) : Mem.read (Mem.write m a b) a = b := by
  unfold Mem.read Mem.write
  split
  · rename_i h; simp [SMap.findD, h]
  · simp

theorem Mem.read_write_ne (m : Mem) {a c : Nat} (b : Byte) (h : c ≠ a) : Mem.read (Mem.write m a b) c = Mem.read m c := by
  unfold Mem.read Mem.write
  split
  · simp [SMap.findD, SMap.find_del_ne m h]
  · exact SMap.findD_put_ne m b 0 h

theorem Mem.wf_write (m : Mem) (a : Nat) (b : Byte) (h : Mem.wf m = true) : Mem.wf (Mem.write m a b) = true := by
  rw [Mem.wf_parts] at h ⊢
  unfold Mem.write
  split
  · exact ⟨SMap.wf_del m a h.1, fun e he => h.2 e (List.mem_filter.mp he).1⟩
  · rename_i hb
    refine ⟨SMap.wf_put m a b h.1, fun e he => ?_⟩
    rcases SMap.mem_put he with rfl | he
    · exact hb
    · exact h.2 e he

theorem Mem.wf_writeList (bs : List Byte) (m : Mem) (a : Nat) (h : Mem.wf m = true) : Mem.wf (Mem.writeList m a bs) = true := by
  induction bs generalizing m a with
  | nil => exact h
  | cons b bs ih => exact ih _ _ (Mem.wf_write m a b h)

theorem Mem.wf_drop (m : Mem) (p : Nat → Bool) (h : Mem.wf m = true) : Mem.wf (SMap.drop m p) = true := by
  rw [Mem.wf_parts] at h ⊢
  exact ⟨SMap.wf_drop m p h.1, fun e he => h.2 e (List.mem_filter.mp he).1⟩

/-- Bytes outside the written range read as before. -/
theorem Mem.read_writeList_out (bs : List Byte) (m : Mem) (a c : Nat) (h : c < a ∨ a + bs.length ≤ c) :
    Mem.read (Mem.writeList m a bs) c = Mem.read m c := by
  induction bs generalizing m a with
  | nil => rfl
  | cons b bs ih =>
    simp only [List.length_cons] at h
    rw [Mem.writeList, ih _ _ (by omega), Mem.read_write_ne _ _ (by omega)]

/-- A byte of the written range reads as written. -/
theorem Mem.read_writeList_in (bs : List Byte) (m : Mem) (a k : Nat) (h : k < bs.length) :
    Mem.read (Mem.writeList m a bs) (a + k) = bs[k] := by
  induction bs generalizing m a k with
  | nil => simp at h
  | cons b bs ih =>
    cases k with
    | zero => simp [Mem.writeList, Mem.read_writeList_out bs _ (a + 1) a (by omega)]
    | succ k =>
      have := ih (Mem.write m a b) (a + 1) k (by simpa using h)
      simpa [Mem.writeList, Nat.add_assoc, Nat.add_comm 1 k] using this

/-- Reading back what has been written, or the front of it, gives its bytes. -/
theorem Mem.readList_writeList (bs : List Byte) (m : Mem) (a n : Nat) (h : n ≤ bs.length) :
    Mem.readList (Mem.writeList m a bs) a n = bs.take n := by
  have get (n k : Nat) (c : Mem) : Mem.readList c (a + k) n = (List.range n).map fun j => Mem.read c (a + k + j) := by
    induction n generalizing k with
    | zero => rfl
    | succ n ih =>
      rw [Mem.readList, Nat.add_assoc, ih (k + 1), List.range_succ_eq_map, List.map_cons, List.map_map]
      rw [Nat.add_zero]
      congr 1
      refine List.map_congr_left fun j _ => ?_
      simp [Nat.add_assoc, Nat.add_comm 1 j]
  have := get n 0 (Mem.writeList m a bs)
  rw [Nat.add_zero] at this
  rw [this]
  apply List.ext_getElem
  · simp [h]
  · intro k h1 h2
    simp only [List.length_map, List.length_range] at h1
    simp [Mem.read_writeList_in bs m a k (by omega)]

end Sys2Proof.Machine
end

