-- ==== Sys2Proof/Laws/State.lean ====
section
/-! SUPPORT. What each named change of the state leaves alone, one lemma for a field and a change, and what it makes of the field it changes. -/

namespace Sys2Proof.Machine

/-! ## Register fields: read after write -/

/-- Fields of different numbers never share a place. -/
theorem Field.key_ne_id (f g : Field) (i j : Nat) (h : f.id % 1024 ≠ g.id % 1024) : f.key i ≠ g.key j := by
  unfold Field.key
  have := Nat.mod_lt f.id (show 0 < 1024 by decide)
  have := Nat.mod_lt g.id (show 0 < 1024 by decide)
  omega

/-- Instances of one field never share a place. -/
theorem Field.key_ne_index (f g : Field) (i j : Nat) (h : i ≠ j) : f.key i ≠ g.key j := by
  unfold Field.key
  have := Nat.mod_lt f.id (show 0 < 1024 by decide)
  have := Nat.mod_lt g.id (show 0 < 1024 by decide)
  omega

/-- A field reads as it was written, cut to its width. -/
@[simp] theorem State.get_set_same (s : State) (f : Field) (i v : Nat) : (s.set f i v).get f i = v % 2 ^ f.width := by
  simp [State.get, State.set]

/-- A stored value changes no reset value. -/
@[simp] theorem State.resetOf_set (s : State) (f g : Field) (i j v : Nat) : (s.set f i v).resetOf g j = s.resetOf g j := by
  unfold State.resetOf
  cases g.reset with
  | num n => rfl
  | special src => cases src <;> rfl

/-- Any other field reads as before. -/
theorem State.get_set_ne (s : State) {f g : Field} {i j : Nat} (v : Nat) (hk : g.key j ≠ f.key i) : (s.set f i v).get g j = s.get g j := by
  unfold State.get
  rw [State.resetOf_set]
  show (SMap.find (SMap.put s.regs (f.key i) (v % 2 ^ f.width)) (g.key j)).getD _ = _
  rw [SMap.find_put_ne _ _ hk]

/-- A field of another number reads as before. -/
theorem State.get_set_id (s : State) (f g : Field) (i j v : Nat) (hk : g.id % 1024 ≠ f.id % 1024) : (s.set f i v).get g j = s.get g j :=
  State.get_set_ne s v (Field.key_ne_id g f j i hk)

/-- Another instance reads as before. -/
theorem State.get_set_index (s : State) (f g : Field) (i j v : Nat) (hk : j ≠ i) : (s.set f i v).get g j = s.get g j :=
  State.get_set_ne s v (Field.key_ne_index g f j i hk)

/-! ## What set leaves alone -/

@[simp] theorem State.set_variant (s : State) (f : Field) (i v : Nat) : (s.set f i v).variant = s.variant := rfl
@[simp] theorem State.set_elapsed (s : State) (f : Field) (i v : Nat) : (s.set f i v).elapsed = s.elapsed := rfl
@[simp] theorem State.set_freeCtr (s : State) (f : Field) (i v : Nat) : (s.set f i v).freeCtr = s.freeCtr := rfl
@[simp] theorem State.set_nvm (s : State) (f : Field) (i v : Nat) : (s.set f i v).nvm = s.nvm := rfl
@[simp] theorem State.set_nvmCount (s : State) (f : Field) (i v : Nat) : (s.set f i v).nvmCount = s.nvmCount := rfl
@[simp] theorem State.set_nvmJob (s : State) (f : Field) (i v : Nat) : (s.set f i v).nvmJob = s.nvmJob := rfl
@[simp] theorem State.set_image (s : State) (f : Field) (i v : Nat) : (s.set f i v).image = s.image := rfl
@[simp] theorem State.set_swap (s : State) (f : Field) (i v : Nat) : (s.set f i v).swap = s.swap := rfl
@[simp] theorem State.set_handover (s : State) (f : Field) (i v : Nat) : (s.set f i v).handover = s.handover := rfl
@[simp] theorem State.set_pins (s : State) (f : Field) (i v : Nat) : (s.set f i v).pins = s.pins := rfl
@[simp] theorem State.set_boot (s : State) (f : Field) (i v : Nat) : (s.set f i v).boot = s.boot := rfl
@[simp] theorem State.set_sundew (s : State) (f : Field) (i v : Nat) : (s.set f i v).sundew = s.sundew := rfl
@[simp] theorem State.set_host (s : State) (f : Field) (i v : Nat) : (s.set f i v).host = s.host := rfl
@[simp] theorem State.set_clocks (s : State) (f : Field) (i v : Nat) : (s.set f i v).clocks = s.clocks := rfl
@[simp] theorem State.set_optics (s : State) (f : Field) (i v : Nat) : (s.set f i v).optics = s.optics := rfl
@[simp] theorem State.set_time (s : State) (f : Field) (i v : Nat) : (s.set f i v).time = s.time := rfl
@[simp] theorem State.set_exm (s : State) (f : Field) (i v : Nat) : (s.set f i v).exm = s.exm := rfl
@[simp] theorem State.set_path (s : State) (f : Field) (i v : Nat) : (s.set f i v).path = s.path := rfl
@[simp] theorem State.set_tcam (s : State) (f : Field) (i v : Nat) : (s.set f i v).tcam = s.tcam := rfl
@[simp] theorem State.set_tables (s : State) (f : Field) (i v : Nat) : (s.set f i v).tables = s.tables := rfl
@[simp] theorem State.set_gates (s : State) (f : Field) (i v : Nat) : (s.set f i v).gates = s.gates := rfl
@[simp] theorem State.set_keys (s : State) (f : Field) (i v : Nat) : (s.set f i v).keys = s.keys := rfl
@[simp] theorem State.set_drams (s : State) (f : Field) (i v : Nat) : (s.set f i v).drams = s.drams := rfl
@[simp] theorem State.set_tue (s : State) (f : Field) (i v : Nat) : (s.set f i v).tue = s.tue := rfl
@[simp] theorem State.set_probes (s : State) (f : Field) (i v : Nat) : (s.set f i v).probes = s.probes := rfl
@[simp] theorem State.set_out (s : State) (f : Field) (i v : Nat) : (s.set f i v).out = s.out := rfl
@[simp] theorem State.set_pending (s : State) (f : Field) (i v : Nat) : (s.set f i v).pending = s.pending := rfl

/-! ## What unset leaves alone -/

@[simp] theorem State.unset_variant (s : State) (f : Field) (i : Nat) : (s.unset f i).variant = s.variant := rfl
@[simp] theorem State.unset_elapsed (s : State) (f : Field) (i : Nat) : (s.unset f i).elapsed = s.elapsed := rfl
@[simp] theorem State.unset_freeCtr (s : State) (f : Field) (i : Nat) : (s.unset f i).freeCtr = s.freeCtr := rfl
@[simp] theorem State.unset_nvm (s : State) (f : Field) (i : Nat) : (s.unset f i).nvm = s.nvm := rfl
@[simp] theorem State.unset_nvmCount (s : State) (f : Field) (i : Nat) : (s.unset f i).nvmCount = s.nvmCount := rfl
@[simp] theorem State.unset_nvmJob (s : State) (f : Field) (i : Nat) : (s.unset f i).nvmJob = s.nvmJob := rfl
@[simp] theorem State.unset_image (s : State) (f : Field) (i : Nat) : (s.unset f i).image = s.image := rfl
@[simp] theorem State.unset_swap (s : State) (f : Field) (i : Nat) : (s.unset f i).swap = s.swap := rfl
@[simp] theorem State.unset_handover (s : State) (f : Field) (i : Nat) : (s.unset f i).handover = s.handover := rfl
@[simp] theorem State.unset_pins (s : State) (f : Field) (i : Nat) : (s.unset f i).pins = s.pins := rfl
@[simp] theorem State.unset_boot (s : State) (f : Field) (i : Nat) : (s.unset f i).boot = s.boot := rfl
@[simp] theorem State.unset_sundew (s : State) (f : Field) (i : Nat) : (s.unset f i).sundew = s.sundew := rfl
@[simp] theorem State.unset_host (s : State) (f : Field) (i : Nat) : (s.unset f i).host = s.host := rfl
@[simp] theorem State.unset_clocks (s : State) (f : Field) (i : Nat) : (s.unset f i).clocks = s.clocks := rfl
@[simp] theorem State.unset_optics (s : State) (f : Field) (i : Nat) : (s.unset f i).optics = s.optics := rfl
@[simp] theorem State.unset_time (s : State) (f : Field) (i : Nat) : (s.unset f i).time = s.time := rfl
@[simp] theorem State.unset_exm (s : State) (f : Field) (i : Nat) : (s.unset f i).exm = s.exm := rfl
@[simp] theorem State.unset_path (s : State) (f : Field) (i : Nat) : (s.unset f i).path = s.path := rfl
@[simp] theorem State.unset_tcam (s : State) (f : Field) (i : Nat) : (s.unset f i).tcam = s.tcam := rfl
@[simp] theorem State.unset_tables (s : State) (f : Field) (i : Nat) : (s.unset f i).tables = s.tables := rfl
@[simp] theorem State.unset_gates (s : State) (f : Field) (i : Nat) : (s.unset f i).gates = s.gates := rfl
@[simp] theorem State.unset_keys (s : State) (f : Field) (i : Nat) : (s.unset f i).keys = s.keys := rfl
@[simp] theorem State.unset_drams (s : State) (f : Field) (i : Nat) : (s.unset f i).drams = s.drams := rfl
@[simp] theorem State.unset_tue (s : State) (f : Field) (i : Nat) : (s.unset f i).tue = s.tue := rfl
@[simp] theorem State.unset_probes (s : State) (f : Field) (i : Nat) : (s.unset f i).probes = s.probes := rfl
@[simp] theorem State.unset_out (s : State) (f : Field) (i : Nat) : (s.unset f i).out = s.out := rfl
@[simp] theorem State.unset_pending (s : State) (f : Field) (i : Nat) : (s.unset f i).pending = s.pending := rfl

/-! ## What count leaves alone -/

@[simp] theorem State.count_variant (s : State) (f : Field) (i k : Nat) : (s.count f i k).variant = s.variant := rfl
@[simp] theorem State.count_elapsed (s : State) (f : Field) (i k : Nat) : (s.count f i k).elapsed = s.elapsed := rfl
@[simp] theorem State.count_freeCtr (s : State) (f : Field) (i k : Nat) : (s.count f i k).freeCtr = s.freeCtr := rfl
@[simp] theorem State.count_nvm (s : State) (f : Field) (i k : Nat) : (s.count f i k).nvm = s.nvm := rfl
@[simp] theorem State.count_nvmCount (s : State) (f : Field) (i k : Nat) : (s.count f i k).nvmCount = s.nvmCount := rfl
@[simp] theorem State.count_nvmJob (s : State) (f : Field) (i k : Nat) : (s.count f i k).nvmJob = s.nvmJob := rfl
@[simp] theorem State.count_image (s : State) (f : Field) (i k : Nat) : (s.count f i k).image = s.image := rfl
@[simp] theorem State.count_swap (s : State) (f : Field) (i k : Nat) : (s.count f i k).swap = s.swap := rfl
@[simp] theorem State.count_handover (s : State) (f : Field) (i k : Nat) : (s.count f i k).handover = s.handover := rfl
@[simp] theorem State.count_pins (s : State) (f : Field) (i k : Nat) : (s.count f i k).pins = s.pins := rfl
@[simp] theorem State.count_boot (s : State) (f : Field) (i k : Nat) : (s.count f i k).boot = s.boot := rfl
@[simp] theorem State.count_sundew (s : State) (f : Field) (i k : Nat) : (s.count f i k).sundew = s.sundew := rfl
@[simp] theorem State.count_host (s : State) (f : Field) (i k : Nat) : (s.count f i k).host = s.host := rfl
@[simp] theorem State.count_clocks (s : State) (f : Field) (i k : Nat) : (s.count f i k).clocks = s.clocks := rfl
@[simp] theorem State.count_optics (s : State) (f : Field) (i k : Nat) : (s.count f i k).optics = s.optics := rfl
@[simp] theorem State.count_time (s : State) (f : Field) (i k : Nat) : (s.count f i k).time = s.time := rfl
@[simp] theorem State.count_exm (s : State) (f : Field) (i k : Nat) : (s.count f i k).exm = s.exm := rfl
@[simp] theorem State.count_path (s : State) (f : Field) (i k : Nat) : (s.count f i k).path = s.path := rfl
@[simp] theorem State.count_tcam (s : State) (f : Field) (i k : Nat) : (s.count f i k).tcam = s.tcam := rfl
@[simp] theorem State.count_tables (s : State) (f : Field) (i k : Nat) : (s.count f i k).tables = s.tables := rfl
@[simp] theorem State.count_gates (s : State) (f : Field) (i k : Nat) : (s.count f i k).gates = s.gates := rfl
@[simp] theorem State.count_keys (s : State) (f : Field) (i k : Nat) : (s.count f i k).keys = s.keys := rfl
@[simp] theorem State.count_drams (s : State) (f : Field) (i k : Nat) : (s.count f i k).drams = s.drams := rfl
@[simp] theorem State.count_tue (s : State) (f : Field) (i k : Nat) : (s.count f i k).tue = s.tue := rfl
@[simp] theorem State.count_probes (s : State) (f : Field) (i k : Nat) : (s.count f i k).probes = s.probes := rfl
@[simp] theorem State.count_out (s : State) (f : Field) (i k : Nat) : (s.count f i k).out = s.out := rfl
@[simp] theorem State.count_pending (s : State) (f : Field) (i k : Nat) : (s.count f i k).pending = s.pending := rfl

/-! ## What setBit leaves alone -/

@[simp] theorem State.setBit_variant (s : State) (f : Field) (i b : Nat) : (s.setBit f i b).variant = s.variant := rfl
@[simp] theorem State.setBit_elapsed (s : State) (f : Field) (i b : Nat) : (s.setBit f i b).elapsed = s.elapsed := rfl
@[simp] theorem State.setBit_freeCtr (s : State) (f : Field) (i b : Nat) : (s.setBit f i b).freeCtr = s.freeCtr := rfl
@[simp] theorem State.setBit_nvm (s : State) (f : Field) (i b : Nat) : (s.setBit f i b).nvm = s.nvm := rfl
@[simp] theorem State.setBit_nvmCount (s : State) (f : Field) (i b : Nat) : (s.setBit f i b).nvmCount = s.nvmCount := rfl
@[simp] theorem State.setBit_nvmJob (s : State) (f : Field) (i b : Nat) : (s.setBit f i b).nvmJob = s.nvmJob := rfl
@[simp] theorem State.setBit_image (s : State) (f : Field) (i b : Nat) : (s.setBit f i b).image = s.image := rfl
@[simp] theorem State.setBit_swap (s : State) (f : Field) (i b : Nat) : (s.setBit f i b).swap = s.swap := rfl
@[simp] theorem State.setBit_handover (s : State) (f : Field) (i b : Nat) : (s.setBit f i b).handover = s.handover := rfl
@[simp] theorem State.setBit_pins (s : State) (f : Field) (i b : Nat) : (s.setBit f i b).pins = s.pins := rfl
@[simp] theorem State.setBit_boot (s : State) (f : Field) (i b : Nat) : (s.setBit f i b).boot = s.boot := rfl
@[simp] theorem State.setBit_sundew (s : State) (f : Field) (i b : Nat) : (s.setBit f i b).sundew = s.sundew := rfl
@[simp] theorem State.setBit_host (s : State) (f : Field) (i b : Nat) : (s.setBit f i b).host = s.host := rfl
@[simp] theorem State.setBit_clocks (s : State) (f : Field) (i b : Nat) : (s.setBit f i b).clocks = s.clocks := rfl
@[simp] theorem State.setBit_optics (s : State) (f : Field) (i b : Nat) : (s.setBit f i b).optics = s.optics := rfl
@[simp] theorem State.setBit_time (s : State) (f : Field) (i b : Nat) : (s.setBit f i b).time = s.time := rfl
@[simp] theorem State.setBit_exm (s : State) (f : Field) (i b : Nat) : (s.setBit f i b).exm = s.exm := rfl
@[simp] theorem State.setBit_path (s : State) (f : Field) (i b : Nat) : (s.setBit f i b).path = s.path := rfl
@[simp] theorem State.setBit_tcam (s : State) (f : Field) (i b : Nat) : (s.setBit f i b).tcam = s.tcam := rfl
@[simp] theorem State.setBit_tables (s : State) (f : Field) (i b : Nat) : (s.setBit f i b).tables = s.tables := rfl
@[simp] theorem State.setBit_gates (s : State) (f : Field) (i b : Nat) : (s.setBit f i b).gates = s.gates := rfl
@[simp] theorem State.setBit_keys (s : State) (f : Field) (i b : Nat) : (s.setBit f i b).keys = s.keys := rfl
@[simp] theorem State.setBit_drams (s : State) (f : Field) (i b : Nat) : (s.setBit f i b).drams = s.drams := rfl
@[simp] theorem State.setBit_tue (s : State) (f : Field) (i b : Nat) : (s.setBit f i b).tue = s.tue := rfl
@[simp] theorem State.setBit_probes (s : State) (f : Field) (i b : Nat) : (s.setBit f i b).probes = s.probes := rfl
@[simp] theorem State.setBit_out (s : State) (f : Field) (i b : Nat) : (s.setBit f i b).out = s.out := rfl
@[simp] theorem State.setBit_pending (s : State) (f : Field) (i b : Nat) : (s.setBit f i b).pending = s.pending := rfl

/-! ## What clrBit leaves alone -/

@[simp] theorem State.clrBit_variant (s : State) (f : Field) (i b : Nat) : (s.clrBit f i b).variant = s.variant := by unfold State.clrBit; split <;> rfl
@[simp] theorem State.clrBit_elapsed (s : State) (f : Field) (i b : Nat) : (s.clrBit f i b).elapsed = s.elapsed := by unfold State.clrBit; split <;> rfl
@[simp] theorem State.clrBit_freeCtr (s : State) (f : Field) (i b : Nat) : (s.clrBit f i b).freeCtr = s.freeCtr := by unfold State.clrBit; split <;> rfl
@[simp] theorem State.clrBit_nvm (s : State) (f : Field) (i b : Nat) : (s.clrBit f i b).nvm = s.nvm := by unfold State.clrBit; split <;> rfl
@[simp] theorem State.clrBit_nvmCount (s : State) (f : Field) (i b : Nat) : (s.clrBit f i b).nvmCount = s.nvmCount := by unfold State.clrBit; split <;> rfl
@[simp] theorem State.clrBit_nvmJob (s : State) (f : Field) (i b : Nat) : (s.clrBit f i b).nvmJob = s.nvmJob := by unfold State.clrBit; split <;> rfl
@[simp] theorem State.clrBit_image (s : State) (f : Field) (i b : Nat) : (s.clrBit f i b).image = s.image := by unfold State.clrBit; split <;> rfl
@[simp] theorem State.clrBit_swap (s : State) (f : Field) (i b : Nat) : (s.clrBit f i b).swap = s.swap := by unfold State.clrBit; split <;> rfl
@[simp] theorem State.clrBit_handover (s : State) (f : Field) (i b : Nat) : (s.clrBit f i b).handover = s.handover := by unfold State.clrBit; split <;> rfl
@[simp] theorem State.clrBit_pins (s : State) (f : Field) (i b : Nat) : (s.clrBit f i b).pins = s.pins := by unfold State.clrBit; split <;> rfl
@[simp] theorem State.clrBit_boot (s : State) (f : Field) (i b : Nat) : (s.clrBit f i b).boot = s.boot := by unfold State.clrBit; split <;> rfl
@[simp] theorem State.clrBit_sundew (s : State) (f : Field) (i b : Nat) : (s.clrBit f i b).sundew = s.sundew := by unfold State.clrBit; split <;> rfl
@[simp] theorem State.clrBit_host (s : State) (f : Field) (i b : Nat) : (s.clrBit f i b).host = s.host := by unfold State.clrBit; split <;> rfl
@[simp] theorem State.clrBit_clocks (s : State) (f : Field) (i b : Nat) : (s.clrBit f i b).clocks = s.clocks := by unfold State.clrBit; split <;> rfl
@[simp] theorem State.clrBit_optics (s : State) (f : Field) (i b : Nat) : (s.clrBit f i b).optics = s.optics := by unfold State.clrBit; split <;> rfl
@[simp] theorem State.clrBit_time (s : State) (f : Field) (i b : Nat) : (s.clrBit f i b).time = s.time := by unfold State.clrBit; split <;> rfl
@[simp] theorem State.clrBit_exm (s : State) (f : Field) (i b : Nat) : (s.clrBit f i b).exm = s.exm := by unfold State.clrBit; split <;> rfl
@[simp] theorem State.clrBit_path (s : State) (f : Field) (i b : Nat) : (s.clrBit f i b).path = s.path := by unfold State.clrBit; split <;> rfl
@[simp] theorem State.clrBit_tcam (s : State) (f : Field) (i b : Nat) : (s.clrBit f i b).tcam = s.tcam := by unfold State.clrBit; split <;> rfl
@[simp] theorem State.clrBit_tables (s : State) (f : Field) (i b : Nat) : (s.clrBit f i b).tables = s.tables := by unfold State.clrBit; split <;> rfl
@[simp] theorem State.clrBit_gates (s : State) (f : Field) (i b : Nat) : (s.clrBit f i b).gates = s.gates := by unfold State.clrBit; split <;> rfl
@[simp] theorem State.clrBit_keys (s : State) (f : Field) (i b : Nat) : (s.clrBit f i b).keys = s.keys := by unfold State.clrBit; split <;> rfl
@[simp] theorem State.clrBit_drams (s : State) (f : Field) (i b : Nat) : (s.clrBit f i b).drams = s.drams := by unfold State.clrBit; split <;> rfl
@[simp] theorem State.clrBit_tue (s : State) (f : Field) (i b : Nat) : (s.clrBit f i b).tue = s.tue := by unfold State.clrBit; split <;> rfl
@[simp] theorem State.clrBit_probes (s : State) (f : Field) (i b : Nat) : (s.clrBit f i b).probes = s.probes := by unfold State.clrBit; split <;> rfl
@[simp] theorem State.clrBit_out (s : State) (f : Field) (i b : Nat) : (s.clrBit f i b).out = s.out := by unfold State.clrBit; split <;> rfl
@[simp] theorem State.clrBit_pending (s : State) (f : Field) (i b : Nat) : (s.clrBit f i b).pending = s.pending := by unfold State.clrBit; split <;> rfl

/-! ## A single drawn value and a host write -/

@[simp] theorem State.draw_regs (s : State) : s.draw.2.regs = s.regs := rfl
@[simp] theorem State.hostWrite_regs (s : State) (a : Nat) (bs : List Byte) : (s.hostWrite a bs).regs = s.regs := rfl
@[simp] theorem State.draw_variant (s : State) : s.draw.2.variant = s.variant := rfl
@[simp] theorem State.hostWrite_variant (s : State) (a : Nat) (bs : List Byte) : (s.hostWrite a bs).variant = s.variant := rfl
@[simp] theorem State.draw_elapsed (s : State) : s.draw.2.elapsed = s.elapsed := rfl
@[simp] theorem State.hostWrite_elapsed (s : State) (a : Nat) (bs : List Byte) : (s.hostWrite a bs).elapsed = s.elapsed := rfl
@[simp] theorem State.hostWrite_freeCtr (s : State) (a : Nat) (bs : List Byte) : (s.hostWrite a bs).freeCtr = s.freeCtr := rfl
@[simp] theorem State.draw_nvm (s : State) : s.draw.2.nvm = s.nvm := rfl
@[simp] theorem State.hostWrite_nvm (s : State) (a : Nat) (bs : List Byte) : (s.hostWrite a bs).nvm = s.nvm := rfl
@[simp] theorem State.draw_nvmCount (s : State) : s.draw.2.nvmCount = s.nvmCount := rfl
@[simp] theorem State.hostWrite_nvmCount (s : State) (a : Nat) (bs : List Byte) : (s.hostWrite a bs).nvmCount = s.nvmCount := rfl
@[simp] theorem State.draw_nvmJob (s : State) : s.draw.2.nvmJob = s.nvmJob := rfl
@[simp] theorem State.hostWrite_nvmJob (s : State) (a : Nat) (bs : List Byte) : (s.hostWrite a bs).nvmJob = s.nvmJob := rfl
@[simp] theorem State.draw_image (s : State) : s.draw.2.image = s.image := rfl
@[simp] theorem State.hostWrite_image (s : State) (a : Nat) (bs : List Byte) : (s.hostWrite a bs).image = s.image := rfl
@[simp] theorem State.draw_swap (s : State) : s.draw.2.swap = s.swap := rfl
@[simp] theorem State.hostWrite_swap (s : State) (a : Nat) (bs : List Byte) : (s.hostWrite a bs).swap = s.swap := rfl
@[simp] theorem State.draw_handover (s : State) : s.draw.2.handover = s.handover := rfl
@[simp] theorem State.hostWrite_handover (s : State) (a : Nat) (bs : List Byte) : (s.hostWrite a bs).handover = s.handover := rfl
@[simp] theorem State.draw_pins (s : State) : s.draw.2.pins = s.pins := rfl
@[simp] theorem State.hostWrite_pins (s : State) (a : Nat) (bs : List Byte) : (s.hostWrite a bs).pins = s.pins := rfl
@[simp] theorem State.draw_boot (s : State) : s.draw.2.boot = s.boot := rfl
@[simp] theorem State.hostWrite_boot (s : State) (a : Nat) (bs : List Byte) : (s.hostWrite a bs).boot = s.boot := rfl
@[simp] theorem State.draw_sundew (s : State) : s.draw.2.sundew = s.sundew := rfl
@[simp] theorem State.hostWrite_sundew (s : State) (a : Nat) (bs : List Byte) : (s.hostWrite a bs).sundew = s.sundew := rfl
@[simp] theorem State.draw_host (s : State) : s.draw.2.host = s.host := rfl
@[simp] theorem State.hostWrite_host (s : State) (a : Nat) (bs : List Byte) : (s.hostWrite a bs).host = s.host := rfl
@[simp] theorem State.draw_clocks (s : State) : s.draw.2.clocks = s.clocks := rfl
@[simp] theorem State.hostWrite_clocks (s : State) (a : Nat) (bs : List Byte) : (s.hostWrite a bs).clocks = s.clocks := rfl
@[simp] theorem State.draw_optics (s : State) : s.draw.2.optics = s.optics := rfl
@[simp] theorem State.hostWrite_optics (s : State) (a : Nat) (bs : List Byte) : (s.hostWrite a bs).optics = s.optics := rfl
@[simp] theorem State.draw_time (s : State) : s.draw.2.time = s.time := rfl
@[simp] theorem State.hostWrite_time (s : State) (a : Nat) (bs : List Byte) : (s.hostWrite a bs).time = s.time := rfl
@[simp] theorem State.draw_exm (s : State) : s.draw.2.exm = s.exm := rfl
@[simp] theorem State.hostWrite_exm (s : State) (a : Nat) (bs : List Byte) : (s.hostWrite a bs).exm = s.exm := rfl
@[simp] theorem State.draw_path (s : State) : s.draw.2.path = s.path := rfl
@[simp] theorem State.hostWrite_path (s : State) (a : Nat) (bs : List Byte) : (s.hostWrite a bs).path = s.path := rfl
@[simp] theorem State.draw_tcam (s : State) : s.draw.2.tcam = s.tcam := rfl
@[simp] theorem State.hostWrite_tcam (s : State) (a : Nat) (bs : List Byte) : (s.hostWrite a bs).tcam = s.tcam := rfl
@[simp] theorem State.draw_tables (s : State) : s.draw.2.tables = s.tables := rfl
@[simp] theorem State.hostWrite_tables (s : State) (a : Nat) (bs : List Byte) : (s.hostWrite a bs).tables = s.tables := rfl
@[simp] theorem State.draw_gates (s : State) : s.draw.2.gates = s.gates := rfl
@[simp] theorem State.hostWrite_gates (s : State) (a : Nat) (bs : List Byte) : (s.hostWrite a bs).gates = s.gates := rfl
@[simp] theorem State.draw_keys (s : State) : s.draw.2.keys = s.keys := rfl
@[simp] theorem State.hostWrite_keys (s : State) (a : Nat) (bs : List Byte) : (s.hostWrite a bs).keys = s.keys := rfl
@[simp] theorem State.draw_drams (s : State) : s.draw.2.drams = s.drams := rfl
@[simp] theorem State.hostWrite_drams (s : State) (a : Nat) (bs : List Byte) : (s.hostWrite a bs).drams = s.drams := rfl
@[simp] theorem State.draw_tue (s : State) : s.draw.2.tue = s.tue := rfl
@[simp] theorem State.hostWrite_tue (s : State) (a : Nat) (bs : List Byte) : (s.hostWrite a bs).tue = s.tue := rfl
@[simp] theorem State.draw_probes (s : State) : s.draw.2.probes = s.probes := rfl
@[simp] theorem State.hostWrite_probes (s : State) (a : Nat) (bs : List Byte) : (s.hostWrite a bs).probes = s.probes := rfl
@[simp] theorem State.draw_out (s : State) : s.draw.2.out = s.out := rfl
@[simp] theorem State.draw_pending (s : State) : s.draw.2.pending = s.pending := rfl
@[simp] theorem State.hostWrite_pending (s : State) (a : Nat) (bs : List Byte) : (s.hostWrite a bs).pending = s.pending := rfl
@[simp] theorem State.draw_freeCtr (s : State) : s.draw.2.freeCtr = s.freeCtr + 1 := rfl

/-! ## Conditional changes -/

@[simp] theorem State.when_true (s : State) (f : State → State) : s.when true f = f s := rfl
@[simp] theorem State.when_false (s : State) (f : State → State) : s.when false f = s := rfl

/-- A conditional change under a condition that holds. -/
theorem State.when_pos (s : State) {b : Bool} (f : State → State) (h : b = true) : s.when b f = f s := by rw [h]; rfl

/-- A conditional change under a condition that does not hold. -/
theorem State.when_neg (s : State) {b : Bool} (f : State → State) (h : b = false) : s.when b f = s := by rw [h]; rfl

end Sys2Proof.Machine
end

