-- ==== Sys2Proof/Laws/Ops.lean ====
section
/-! SUPPORT. What the shared operations can do: interrupts, event bits, Sundew reports and claims. -/

namespace Sys2Proof.Machine

/-! ## Which parts of the state an operation can change -/

/-- Only registers, the host side and the outputs may differ: what an event or an interrupt changes. -/
def EventShell (s t : State) : Prop := ∃ r h o, t = { s with regs := r, host := h, out := o }

/-- Beside them Sundew may differ, and whether Caddis sleeps: what a report or a fence changes. -/
def ReportShell (s t : State) : Prop :=
  ∃ r h o d a, t = { s with regs := r, host := h, out := o, sundew := d, clocks := { s.clocks with caddisAsleep := a } }

theorem EventShell.refl (s : State) : EventShell s s := ⟨s.regs, s.host, s.out, rfl⟩

theorem ReportShell.refl (s : State) : ReportShell s s := ⟨s.regs, s.host, s.out, s.sundew, s.clocks.caddisAsleep, rfl⟩

theorem EventShell.trans {s t u : State} (h : EventShell s t) (k : EventShell t u) : EventShell s u := by
  obtain ⟨r, a, o, rfl⟩ := h
  obtain ⟨r', a', o', rfl⟩ := k
  exact ⟨r', a', o', rfl⟩

theorem ReportShell.trans {s t u : State} (h : ReportShell s t) (k : ReportShell t u) : ReportShell s u := by
  obtain ⟨r, a, o, d, w, rfl⟩ := h
  obtain ⟨r', a', o', d', w', rfl⟩ := k
  exact ⟨r', a', o', d', w', rfl⟩

theorem EventShell.report {s t : State} (h : EventShell s t) : ReportShell s t := by
  obtain ⟨r, a, o, rfl⟩ := h
  exact ⟨r, a, o, s.sundew, s.clocks.caddisAsleep, rfl⟩

theorem State.set_shell (s : State) (f : Field) (i v : Nat) : EventShell s (s.set f i v) := ⟨_, s.host, s.out, rfl⟩

theorem State.unset_shell (s : State) (f : Field) (i : Nat) : EventShell s (s.unset f i) := ⟨_, s.host, s.out, rfl⟩

theorem State.count_shell (s : State) (f : Field) (i k : Nat) : EventShell s (s.count f i k) := ⟨_, s.host, s.out, rfl⟩

theorem State.setBit_shell (s : State) (f : Field) (i b : Nat) : EventShell s (s.setBit f i b) := ⟨_, s.host, s.out, rfl⟩

theorem State.clrBit_shell (s : State) (f : Field) (i b : Nat) : EventShell s (s.clrBit f i b) := by
  unfold State.clrBit
  split
  · exact s.set_shell ..
  · exact .refl s

theorem State.message_shell (s : State) (n : Nat) : EventShell s (s.message n) := by
  unfold State.message
  dsimp only
  split
  · exact ⟨s.regs, _, s.out, rfl⟩
  · exact ⟨s.regs, s.host, _, rfl⟩

theorem State.cause_shell (s : State) (n : Nat) : EventShell s (s.cause n) := by
  unfold State.cause
  split
  · exact .refl s
  · exact (s.setBit_shell ..).trans (State.message_shell ..)

theorem State.eventBit_shell (s : State) (f : Field) (i b g : Nat) : EventShell s (s.eventBit f i b g) := by
  unfold State.eventBit
  dsimp only
  split
  · exact s.setBit_shell ..
  · exact (s.setBit_shell ..).trans (State.cause_shell ..)

theorem State.evC_shell (s : State) (f : Field) (i : Nat) : EventShell s (s.evC f i) := s.eventBit_shell ..

theorem State.evQ_shell (s : State) (f : Field) (q : Nat) : EventShell s (s.evQ f q) := s.eventBit_shell ..

theorem State.evT_shell (s : State) (f : Field) (t : Nat) : EventShell s (s.evT f t) := s.eventBit_shell ..

theorem State.evTim_shell (s : State) (f : Field) : EventShell s (s.evTim f) := (s.eventBit_shell ..).trans (State.cause_shell ..)

theorem State.evPrt_shell (s : State) (f : Field) (p : Nat) : EventShell s (s.evPrt f p) := (s.eventBit_shell ..).trans (State.cause_shell ..)

theorem State.evOpt_shell (s : State) (f : Field) (t : Nat) : EventShell s (s.evOpt f t) := s.eventBit_shell ..

theorem State.evSec_shell (s : State) (f : Field) (p : Nat) : EventShell s (s.evSec f p) := s.eventBit_shell ..

theorem State.logDue_shell (s : State) (n src : Nat) (c : Capture) : ReportShell s (s.logDue n src c) := by
  unfold State.logDue
  split
  · exact .refl s
  · split
    · exact (s.count_shell ..).report
    · exact ⟨s.regs, s.host, s.out, _, s.clocks.caddisAsleep, rfl⟩

theorem State.message512_shell (s : State) (m : Nat) : ReportShell s (s.message512 m) := by
  unfold State.message512
  split
  · exact ((s.evC_shell ..).trans (State.count_shell ..)).report
  · exact ReportShell.trans ⟨s.regs, s.host, s.out, _, s.clocks.caddisAsleep, rfl⟩ (State.cause_shell ..).report

theorem State.caddisRestart_shell (s : State) : ReportShell s s.caddisRestart := ⟨s.regs, s.host, s.out, s.sundew, _, rfl⟩

theorem State.restartWhen_shell (s : State) (b : Bool) : ReportShell s (s.when b State.caddisRestart) := by
  unfold State.when
  split
  · exact s.caddisRestart_shell
  · exact .refl s

theorem State.openCapture_shell (s : State) (src k m a x : Nat) : ReportShell s (s.openCapture src k m a x) := by
  unfold State.openCapture
  dsimp only
  have h (c : Capture) (d : Sundew) (b : Bool) : ReportShell s ((({ s with sundew := d }).logDue 1 src c).when b State.caddisRestart) :=
    (ReportShell.trans ⟨s.regs, s.host, s.out, _, s.clocks.caddisAsleep, rfl⟩ (State.logDue_shell ..)).trans (State.restartWhen_shell ..)
  split
  · exact (h ..).trans (State.message512_shell ..)
  · exact h ..

theorem State.report_shell (s : State) (src k m a x : Nat) : ReportShell s (s.report src k m a x) := by
  unfold State.report
  dsimp only
  split
  · split
    · exact ⟨s.regs, s.host, s.out, _, s.clocks.caddisAsleep, rfl⟩
    · exact State.openCapture_shell ..
  · exact State.openCapture_shell ..

theorem State.claimErr_shell (s : State) (k i m : Nat) : EventShell s (s.claimErr k i m) := by
  unfold State.claimErr
  split
  · exact s.count_shell ..
  · exact ((((s.set_shell ..).trans (State.set_shell ..)).trans (State.set_shell ..)).trans (State.set_shell ..)).trans (State.evC_shell ..)

/-! ## What they leave in the registers -/

/-- A read depends on nothing but the stored fields and what reset values rest on. -/
theorem State.get_congr {s t : State} (f : Field) (i : Nat) (hr : t.regs = s.regs) (hv : t.variant = s.variant) (hi : t.image = s.image)
    (hn : t.nvmCount = s.nvmCount) (hl : t.sundew.line = s.sundew.line) (hh : t.handover.search = s.handover.search) :
    t.get f i = s.get f i := by
  unfold State.get State.resetOf State.special State.searchOf
  rw [hr, hv, hi, hn, hl, hh]

@[simp] theorem State.message_regs (s : State) (n : Nat) : (s.message n).regs = s.regs := by
  unfold State.message
  dsimp only
  split <;> rfl

@[simp] theorem State.get_message (s : State) (n : Nat) (f : Field) (i : Nat) : (s.message n).get f i = s.get f i := by
  unfold State.message
  dsimp only
  split <;> rfl

/-- A cause changes no other field. -/
theorem State.get_cause (s : State) (n : Nat) (f : Field) (i : Nat) (h : f.id % 1024 ≠ F.HST_INT_CAUSE_CAUSE.id % 1024) :
    (s.cause n).get f i = s.get f i := by
  unfold State.cause
  split
  · rfl
  · rw [State.get_message]
    exact State.get_set_id s F.HST_INT_CAUSE_CAUSE f _ i _ h

/-- An event bit reads as set. -/
theorem State.get_eventBit_same (s : State) (f : Field) (i b g : Nat) (h : f.id % 1024 ≠ F.HST_INT_CAUSE_CAUSE.id % 1024) :
    (s.eventBit f i b g).get f i = orN (s.get f i) (2 ^ b) % 2 ^ f.width := by
  unfold State.eventBit
  dsimp only
  split
  · exact s.get_set_same ..
  · rw [State.get_cause _ _ _ _ h]
    exact s.get_set_same ..

/-- An event changes no other field. -/
theorem State.get_eventBit (s : State) (e f : Field) (i b g j : Nat) (h : f.id % 1024 ≠ F.HST_INT_CAUSE_CAUSE.id % 1024)
    (hk : f.id % 1024 ≠ e.id % 1024) :
    (s.eventBit e i b g).get f j = s.get f j := by
  unfold State.eventBit
  dsimp only
  split
  · exact State.get_set_id s e f i j _ hk
  · rw [State.get_cause _ _ _ _ h]
    exact State.get_set_id s e f i j _ hk

/-- A field that a report cannot change. -/
def ReportFree (f : Field) : Prop :=
  f.id % 1024 ≠ F.HST_INT_CAUSE_CAUSE.id % 1024 ∧ f.id % 1024 ≠ F.FLT_LOG_STAT_LOST.id % 1024 ∧
    f.id % 1024 ≠ F.FLT_STATUS_FIFO_OVERFLOW.id % 1024 ∧ f.id % 1024 ≠ F.FLT_STATUS_LOST.id % 1024

theorem State.get_logDue (s : State) (n src : Nat) (c : Capture) (f : Field) (i : Nat) (h : f.id % 1024 ≠ F.FLT_LOG_STAT_LOST.id % 1024) :
    (s.logDue n src c).get f i = s.get f i := by
  unfold State.logDue
  split
  · rfl
  · split
    · exact State.get_set_id s F.FLT_LOG_STAT_LOST f _ i _ h
    · rfl

theorem State.get_message512 (s : State) (m : Nat) (f : Field) (i : Nat) (h : ReportFree f) : (s.message512 m).get f i = s.get f i := by
  unfold State.message512
  split
  · unfold State.count State.evC State.event
    rw [State.get_set_id _ F.FLT_STATUS_LOST f _ i _ h.2.2.2]
    exact State.get_eventBit s F.FLT_STATUS_FIFO_OVERFLOW f 0 0 0 i h.1 h.2.2.1
  · rw [State.get_cause _ _ _ _ h.1]
    rfl

@[simp] theorem State.get_restartWhen (s : State) (b : Bool) (f : Field) (i : Nat) :
    (s.when b State.caddisRestart).get f i = s.get f i := by
  unfold State.when
  split <;> rfl

/-- A report changes no register but the fault block's own and a cause. -/
theorem State.get_report (s : State) (src k m a x : Nat) (f : Field) (i : Nat) (h : ReportFree f) :
    (s.report src k m a x).get f i = s.get f i := by
  have ho : (s.openCapture src k m a x).get f i = s.get f i := by
    unfold State.openCapture
    dsimp only
    split
    · rw [State.get_message512 _ _ _ _ h, State.get_restartWhen, State.get_logDue _ _ _ _ _ _ h.2.1]
      rfl
    · rw [State.get_restartWhen, State.get_logDue _ _ _ _ _ _ h.2.1]
      rfl
  unfold State.report
  dsimp only
  split
  · split
    · rfl
    · exact ho
  · exact ho

end Sys2Proof.Machine
end

