-- ==== Sys2Proof/Laws/PerInstr.lean ====
section
/-! SUPPORT. The statement made of every command in turn: a well-formed command names only units and values within their bounds. -/

namespace Sys2Proof.Laws.Sized

/-- The statement, of one command. -/
def Statement (i : Instr) : Prop := i.wf = true → ∀ x ∈ i.operands, x.1 < x.2

/-- What well-formedness says, number by number. -/
theorem of_wf (i : Instr) : Statement i := fun h x hx => of_decide_eq_true (List.all_eq_true.mp h x hx)

theorem vddHumInRange : Statement (.vddHumInRange) := of_wf _
theorem supplyLoss (linesWritten : Nat) : Statement (.supplyLoss linesWritten) := of_wf _
theorem porAssert : Statement (.porAssert) := of_wf _
theorem porRelease (b : BootFindings) : Statement (.porRelease b) := of_wf _
theorem resetNAssert : Statement (.resetNAssert) := of_wf _
theorem warmResetCmd (value : Nat) (b : BootFindings) : Statement (.warmResetCmd value b) := of_wf _
theorem quadrantReset (value : Nat) (b : BootFindings) : Statement (.quadrantReset value b) := of_wf _
theorem tileReset (value : Nat) (b : BootFindings) : Statement (.tileReset value b) := of_wf _
theorem drcReset (value : Nat) (b : BootFindings) : Statement (.drcReset value b) := of_wf _
theorem perstNAssert (linesWritten : Nat) : Statement (.perstNAssert linesWritten) := of_wf _
theorem hostAccessStop (linesWritten : Nat) : Statement (.hostAccessStop linesWritten) := of_wf _
theorem peatLoad (tag slot : Nat) (b : BootFindings) : Statement (.peatLoad tag slot b) := of_wf _
theorem peatSwapLayer (tag : Nat) (slot : SlotRead) (mask timeoutMs : Nat) : Statement (.peatSwapLayer tag slot mask timeoutMs) := of_wf _
theorem quiesceDrained : Statement (.quiesceDrained) := of_wf _
theorem quiesceTimeout : Statement (.quiesceTimeout) := of_wf _
theorem swapTileSwitch (tile : Nat) : Statement (.swapTileSwitch tile) := of_wf _
theorem nvmStore (tag region offset length hostAddr : Nat) (data : List Byte) : Statement (.nvmStore tag region offset length hostAddr data) := of_wf _
theorem nvmStoreDone (readBack : ReadBack) : Statement (.nvmStoreDone readBack) := of_wf _
theorem nvmRead (tag region offset length hostAddr : Nat) : Statement (.nvmRead tag region offset length hostAddr) := of_wf _
theorem nvmReadDone (uncorrectable : Option Nat) (corrected : Nat) : Statement (.nvmReadDone uncorrectable corrected) := of_wf _
theorem refclkLoss : Statement (.refclkLoss) := of_wf _
theorem refclkReturn : Statement (.refclkReturn) := of_wf _
theorem holdoverExpiry : Statement (.holdoverExpiry) := of_wf _
theorem clockRelock : Statement (.clockRelock) := of_wf _
theorem thermalSample (readings : List Int) : Statement (.thermalSample readings) := of_wf _
theorem railSkew (pair : Nat) : Statement (.railSkew pair) := of_wf _
theorem thermTrip : Statement (.thermTrip) := of_wf _
theorem clkQctrlWrite (q value : Nat) : Statement (.clkQctrlWrite q value) := of_wf _
theorem vidSettleExpiry (q : Nat) : Statement (.vidSettleExpiry q) := of_wf _
theorem tileDozeEntry (tile : Nat) : Statement (.tileDozeEntry tile) := of_wf _
theorem tileTorporEntry (tile : Nat) : Statement (.tileTorporEntry tile) := of_wf _
theorem torporEntered (tile : Nat) : Statement (.torporEntered tile) := of_wf _
theorem tileWake (tile : Nat) (sources : List Nat) : Statement (.tileWake tile sources) := of_wf _
theorem tileAwake (tile : Nat) : Statement (.tileAwake tile) := of_wf _
theorem timerPrewake (tile : Nat) : Statement (.timerPrewake tile) := of_wf _
theorem rouseDetect (seen : RousePattern) : Statement (.rouseDetect seen) := of_wf _
theorem darkToLight (seen : LightEdge) : Statement (.darkToLight seen) := of_wf _
theorem rouseTx (port : Nat) : Statement (.rouseTx port) := of_wf _
theorem caddisSleep : Statement (.caddisSleep) := of_wf _
theorem caddisWake : Statement (.caddisWake) := of_wf _
theorem sleepPolicyFull (tag : Nat) : Statement (.sleepPolicyFull tag) := of_wf _
theorem sleepPolicyLean (tag : Nat) : Statement (.sleepPolicyLean tag) := of_wf _
theorem sleepPolicyStandby (tag : Nat) : Statement (.sleepPolicyStandby tag) := of_wf _
theorem sleepPolicyHibernate (tag : Nat) : Statement (.sleepPolicyHibernate tag) := of_wf _
theorem hibernateExit (cause : HibExit) (b : BootFindings) : Statement (.hibernateExit cause b) := of_wf _
theorem linkUp (port deskew : Nat) : Statement (.linkUp port deskew) := of_wf _
theorem linkDown (port : Nat) : Statement (.linkDown port) := of_wf _
theorem holdExpiry (port : Nat) : Statement (.holdExpiry port) := of_wf _
theorem portAdminDown (port : Nat) : Statement (.portAdminDown port) := of_wf _
theorem portAdminUp (port : Nat) : Statement (.portAdminUp port) := of_wf _
theorem loopbackChange (port mode : Nat) : Statement (.loopbackChange port mode) := of_wf _
theorem rxFrame (port : Nat) (frame : List Byte) (fcsOk : Bool) (laneFault : Option Nat) (codewords : List Nat) : Statement (.rxFrame port frame fcsOk laneFault codewords) := of_wf _
theorem pauseExpiry (port cls : Nat) : Statement (.pauseExpiry port cls) := of_wf _
theorem pauseFrameSend (port : Nat) : Statement (.pauseFrameSend port) := of_wf _
theorem pauseRefresh (port cls : Nat) : Statement (.pauseRefresh port cls) := of_wf _
theorem prtFcTxWrite (port value : Nat) : Statement (.prtFcTxWrite port value) := of_wf _
theorem laserLit (engine fibre : Nat) : Statement (.laserLit engine fibre) := of_wf _
theorem laserLost (engine fibre : Nat) : Statement (.laserLost engine fibre) := of_wf _
theorem trackLimit (at_ : EngineLane) : Statement (.trackLimit at_) := of_wf _
theorem optCalibrate (tag engine : Nat) : Statement (.optCalibrate tag engine) := of_wf _
theorem optCalibrateDone (engine : Nat) (badLanes : List Nat) : Statement (.optCalibrateDone engine badLanes) := of_wf _
theorem causewayOpen (tag group : Nat) : Statement (.causewayOpen tag group) := of_wf _
theorem causewayClose (tag group : Nat) : Statement (.causewayClose tag group) := of_wf _
theorem bypassOpened (group : Nat) : Statement (.bypassOpened group) := of_wf _
theorem bypassClosed (group : Nat) : Statement (.bypassClosed group) := of_wf _
theorem elementFault (group : Nat) : Statement (.elementFault group) := of_wf _
theorem stagingRelease (port : Nat) : Statement (.stagingRelease port) := of_wf _
theorem parseDeal (tile : Nat) : Statement (.parseDeal tile) := of_wf _
theorem parseComplete (tile engine : Nat) (engineError : Bool) : Statement (.parseComplete tile engine engineError) := of_wf _
theorem reorderRelease (tile : Nat) (errors : LookupErrors) : Statement (.reorderRelease tile errors) := of_wf _
theorem learnServe : Statement (.learnServe) := of_wf _
theorem egressArrival (x : QuadWrite) : Statement (.egressArrival x) := of_wf _
theorem schedDecision (port : Nat) : Statement (.schedDecision port) := of_wf _
theorem rewriteCommit (port : Nat) (fault : RoutineFault) (laneFault : Option Nat) : Statement (.rewriteCommit port fault laneFault) := of_wf _
theorem rewriteRestart (port : Nat) : Statement (.rewriteRestart port) := of_wf _
theorem clusterReloadDone (tile cluster : Nat) : Statement (.clusterReloadDone tile cluster) := of_wf _
theorem frameTxDone (x : Departure) : Statement (.frameTxDone x) := of_wf _
theorem deepReadback (queue : Nat) (fault : DramFault) : Statement (.deepReadback queue fault) := of_wf _
theorem ageHeadCheck (quadrant : Nat) : Statement (.ageHeadCheck quadrant) := of_wf _
theorem sextonWalk (found : SextonFind) : Statement (.sextonWalk found) := of_wf _
theorem bufFreeWrite (quadrant value : Nat) : Statement (.bufFreeWrite quadrant value) := of_wf _
theorem bufQueueCfgWrite (queue value : Nat) : Statement (.bufQueueCfgWrite queue value) := of_wf _
theorem sweepPassStart (table : Nat) : Statement (.sweepPassStart table) := of_wf _
theorem scarabVisit (table : Nat) (badRow : Bool) : Statement (.scarabVisit table badRow) := of_wf _
theorem learnRecountDone : Statement (.learnRecountDone) := of_wf _
theorem exmSweepWrite (table value : Nat) : Statement (.exmSweepWrite table value) := of_wf _
theorem exmPortTablesWrite (port value : Nat) : Statement (.exmPortTablesWrite port value) := of_wf _
theorem suspectRowScrub (quadrant row : Nat) (readBackOk : Bool) : Statement (.suspectRowScrub quadrant row readBackOk) := of_wf _
theorem backgroundScrub (quadrant : Nat) (badRows : List Nat) : Statement (.backgroundScrub quadrant badRows) := of_wf _
theorem tcmPortL3Write (port value : Nat) : Statement (.tcmPortL3Write port value) := of_wf _
theorem topFenceWrite (value : Nat) : Statement (.topFenceWrite value) := of_wf _
theorem orderStrictWrite (word value : Nat) : Statement (.orderStrictWrite word value) := of_wf _
theorem tueRingTailWrite (ring value : Nat) (commands : List Nat) : Statement (.tueRingTailWrite ring value commands) := of_wf _
theorem nop (ring slot : Nat) : Statement (.nop ring slot) := of_wf _
theorem fence (ring slot : Nat) : Statement (.fence ring slot) := of_wf _
theorem epoch (ring slot : Nat) : Statement (.epoch ring slot) := of_wf _
theorem emInsert (ring slot : Nat) : Statement (.emInsert ring slot) := of_wf _
theorem emUpdate (ring slot : Nat) : Statement (.emUpdate ring slot) := of_wf _
theorem emDelete (ring slot : Nat) : Statement (.emDelete ring slot) := of_wf _
theorem emRead (ring slot : Nat) : Statement (.emRead ring slot) := of_wf _
theorem tcInsert (ring slot : Nat) : Statement (.tcInsert ring slot) := of_wf _
theorem tcWriteRow (ring slot : Nat) : Statement (.tcWriteRow ring slot) := of_wf _
theorem tcUpdateAction (ring slot : Nat) : Statement (.tcUpdateAction ring slot) := of_wf _
theorem tcDelete (ring slot : Nat) : Statement (.tcDelete ring slot) := of_wf _
theorem tcReadRow (ring slot : Nat) : Statement (.tcReadRow ring slot) := of_wf _
theorem objWrite (ring slot : Nat) : Statement (.objWrite ring slot) := of_wf _
theorem objRead (ring slot : Nat) : Statement (.objRead ring slot) := of_wf _
theorem cutOpen (ring slot : Nat) : Statement (.cutOpen ring slot) := of_wf _
theorem cutAdd (ring slot : Nat) : Statement (.cutAdd ring slot) := of_wf _
theorem cutArm (ring slot : Nat) : Statement (.cutArm ring slot) := of_wf _
theorem cutCancel (ring slot : Nat) : Statement (.cutCancel ring slot) := of_wf _
theorem tueWaitTimeout (ring slot : Nat) : Statement (.tueWaitTimeout ring slot) := of_wf _
theorem epochDrained : Statement (.epochDrained) := of_wf _
theorem epochTimeout (e : Nat) : Statement (.epochTimeout e) := of_wf _
theorem cutGapFound (cut : Nat) : Statement (.cutGapFound cut) := of_wf _
theorem cutWaitExpiry (cut : Nat) : Statement (.cutWaitExpiry cut) := of_wf _
theorem cutApply (cut : Nat) : Statement (.cutApply cut) := of_wf _
theorem cutDone (cut : Nat) : Statement (.cutDone cut) := of_wf _
theorem timeBeacon : Statement (.timeBeacon) := of_wf _
theorem timRateWrite (value : Nat) : Statement (.timRateWrite value) := of_wf _
theorem timStepForward : Statement (.timStepForward) := of_wf _
theorem timStepBack : Statement (.timStepBack) := of_wf _
theorem timStepSet : Statement (.timStepSet) := of_wf _
theorem timNowRead : Statement (.timNowRead) := of_wf _
theorem pinCapture (pin : CapPin) (rising : Bool) : Statement (.pinCapture pin rising) := of_wf _
theorem ppsOutEdge : Statement (.ppsOutEdge) := of_wf _
theorem timPpsOutWrite (widthReg : Bool) (value : Nat) : Statement (.timPpsOutWrite widthReg value) := of_wf _
theorem todOutSend : Statement (.todOutSend) := of_wf _
theorem todInRx (message : List Byte) : Statement (.todInRx message) := of_wf _
theorem tsfPop (tile value : Nat) : Statement (.tsfPop tile value) := of_wf _
theorem shaperRefill (tile : Nat) : Statement (.shaperRefill tile) := of_wf _
theorem gateChange (port : Nat) : Statement (.gateChange port) := of_wf _
theorem gateCancel (port : Nat) : Statement (.gateCancel port) := of_wf _
theorem gateListStart (port : Nat) : Statement (.gateListStart port) := of_wf _
theorem gateEntryTransition (port : Nat) : Statement (.gateEntryTransition port) := of_wf _
theorem sgChange (gate : Nat) : Statement (.sgChange gate) := of_wf _
theorem sgCancel (gate : Nat) : Statement (.sgCancel gate) := of_wf _
theorem sgListStart (gate : Nat) : Statement (.sgListStart gate) := of_wf _
theorem sgTransition (gate : Nat) : Statement (.sgTransition gate) := of_wf _
theorem schQmapWrite (port cls value : Nat) : Statement (.schQmapWrite port cls value) := of_wf _
theorem queueSample (x : QuadWrite) : Statement (.queueSample x) := of_wf _
theorem ringJoin (tag group : Nat) : Statement (.ringJoin tag group) := of_wf _
theorem ringLeave (tag group : Nat) : Statement (.ringLeave tag group) := of_wf _
theorem ringProbeSend (port : Nat) : Statement (.ringProbeSend port) := of_wf _
theorem probeTimeout (port : Nat) : Statement (.probeTimeout port) := of_wf _
theorem rngGroupCtxWrite (group value : Nat) : Statement (.rngGroupCtxWrite group value) := of_wf _
theorem rwePortDefaultWrite (port value : Nat) : Statement (.rwePortDefaultWrite port value) := of_wf _
theorem slotSwap (slot : Nat) : Statement (.slotSwap slot) := of_wf _
theorem swapTakesEffect (slot : Nat) : Statement (.swapTakesEffect slot) := of_wf _
theorem slotZeroize (slot : Nat) : Statement (.slotZeroize slot) := of_wf _
theorem slotClearStaged (slot : Nat) : Statement (.slotClearStaged slot) := of_wf _
theorem keyErased (slot : Nat) : Statement (.keyErased slot) := of_wf _
theorem stgCfgWrite (slot value : Nat) : Statement (.stgCfgWrite slot value) := of_wf _
theorem prtSecCfgWrite (port value : Nat) : Statement (.prtSecCfgWrite port value) := of_wf _
theorem secChannelSwitch (port : Nat) : Statement (.secChannelSwitch port) := of_wf _
theorem entropyHealthFail : Statement (.entropyHealthFail) := of_wf _
theorem drbgReseed (taken : Bool) : Statement (.drbgReseed taken) := of_wf _
theorem dramRefresh (stack pc : Nat) (fault : DramFault) : Statement (.dramRefresh stack pc fault) := of_wf _
theorem stackTempReport (stack : Nat) (celsius : Int) : Statement (.stackTempReport stack celsius) := of_wf _
theorem dramRetrain (tag stack timeoutMs : Nat) : Statement (.dramRetrain tag stack timeoutMs) := of_wf _
theorem dramRetrainDrained (stack : Nat) : Statement (.dramRetrainDrained stack) := of_wf _
theorem dramRetrainDone (stack : Nat) : Statement (.dramRetrainDone stack) := of_wf _
theorem pcPowerDown (stack pc : Nat) : Statement (.pcPowerDown stack pc) := of_wf _
theorem selfRefreshEntry (stack : Nat) : Statement (.selfRefreshEntry stack) := of_wf _
theorem selfRefreshExited (stack : Nat) : Statement (.selfRefreshExited stack) := of_wf _
theorem telemExport (stack value : Nat) : Statement (.telemExport stack value) := of_wf _
theorem telemExportDone (x : ExportEnd) : Statement (.telemExportDone x) := of_wf _
theorem faultReport (source kind address master accessType : Nat) : Statement (.faultReport source kind address master accessType) := of_wf _
theorem fenceComplete (source index : Nat) : Statement (.fenceComplete source index) := of_wf _
theorem fltFenceCmd (value : Nat) : Statement (.fltFenceCmd value) := of_wf _
theorem faultLogWrite : Statement (.faultLogWrite) := of_wf _
theorem faultLogFlush (tag : Nat) : Statement (.faultLogFlush tag) := of_wf _
theorem faultLogErase (tag : Nat) : Statement (.faultLogErase tag) := of_wf _
theorem fltMsgPop (value : Nat) : Statement (.fltMsgPop value) := of_wf _
theorem hstRingTailWrite (ring value : Nat) (descriptors : List Nat) : Statement (.hstRingTailWrite ring value descriptors) := of_wf _
theorem txDescriptor (ring : Nat) (data : Option (List Byte)) : Statement (.txDescriptor ring data) := of_wf _
theorem rxDelivery (x : Departure) : Statement (.rxDelivery x) := of_wf _
theorem dmaError (ring : Nat) : Statement (.dmaError ring) := of_wf _
theorem itrTimerExpiry (ring : Nat) : Statement (.itrTimerExpiry ring) := of_wf _
theorem mailboxDoorbell (value : Nat) : Statement (.mailboxDoorbell value) := of_wf _
theorem mailboxTake : Statement (.mailboxTake) := of_wf _
theorem fwmRespPop (value : Nat) : Statement (.fwmRespPop value) := of_wf _
theorem fwInfo (tag : Nat) : Statement (.fwInfo tag) := of_wf _
theorem patchStatus (tag : Nat) : Statement (.patchStatus tag) := of_wf _
theorem smbSetOffset (x : SmbOffset) : Statement (.smbSetOffset x) := of_wf _
theorem smbRead (pecOk : Bool) : Statement (.smbRead pecOk) := of_wf _
theorem smbWrite (value : Nat) (pecOk : Bool) : Statement (.smbWrite value pecOk) := of_wf _
theorem smbStatusRead : Statement (.smbStatusRead) := of_wf _
theorem jtagBypass (b : BootFindings) : Statement (.jtagBypass b) := of_wf _
theorem jtagIdcode (b : BootFindings) : Statement (.jtagIdcode b) := of_wf _
theorem jtagSamplePreload (scan : BoundaryScan) (b : BootFindings) : Statement (.jtagSamplePreload scan b) := of_wf _
theorem jtagExtest : Statement (.jtagExtest) := of_wf _
theorem jtagClamp : Statement (.jtagClamp) := of_wf _
theorem jtagHighz : Statement (.jtagHighz) := of_wf _
theorem registerWrite (at_ : BarAddr) (bytes value : Nat) : Statement (.registerWrite at_ bytes value) := of_wf _
theorem rcRead (at_ : BarAddr) (bytes : Nat) : Statement (.rcRead at_ bytes) := of_wf _
theorem extremumRead (offset bytes : Nat) : Statement (.extremumRead offset bytes) := of_wf _
theorem resetNRelease (b : BootFindings) : Statement (.resetNRelease b) := of_wf _
theorem hostAccessResume : Statement (.hostAccessResume) := of_wf _
theorem trainPeriodExpiry (stack : Nat) : Statement (.trainPeriodExpiry stack) := of_wf _
theorem tapReset (b : BootFindings) : Statement (.tapReset b) := of_wf _

end Sys2Proof.Laws.Sized
end

