-- ==== Sys2Proof/Laws/Reset.lean ====
section
/-! SUPPORT. What a mailbox row, a unit that goes into reset and the return of units can do. -/

namespace Sys2Proof.Machine

/-! ## The mailbox rows -/

/-- A mailbox row that nothing refuses is its own operation on the state as Caddis, restarted, takes it (R117, R523, R524). -/
theorem State.mailRun_runs (s : State) (op tag : Nat) (args : List Nat) (f : State → State) (hu : s.caddisUp = true)
    (hr : (s.mailBegin op tag args).mailRoom = true) (hn : (s.mailBegin op tag args).mailRefusal op args = none) :
    s.mailRun op tag args f = f (s.caddisRestart.mailBegin op tag args) := by
  have hr' : (s.caddisRestart.mailBegin op tag args).mailRoom = true := hr
  have hn' : (s.caddisRestart.mailBegin op tag args).mailRefusal op args = none := hn
  simp only [State.mailRun, hu, hr', hn', Bool.true_eq_false, if_false]

/-- A refused one answers its status and does nothing else. -/
theorem State.mailRun_refused (s : State) (op tag st : Nat) (args : List Nat) (f : State → State) (hu : s.caddisUp = true)
    (hr : (s.mailBegin op tag args).mailRoom = true) (hn : (s.mailBegin op tag args).mailRefusal op args = some st) :
    s.mailRun op tag args f = (s.caddisRestart.mailBegin op tag args).mailRespond op tag st 0 0 := by
  have hr' : (s.caddisRestart.mailBegin op tag args).mailRoom = true := hr
  have hn' : (s.caddisRestart.mailBegin op tag args).mailRefusal op args = some st := hn
  simp only [State.mailRun, hu, hr', hn', Bool.true_eq_false, if_false]

/-! ## Units in reset -/

/-- A unit that goes into reset changes the list of units in reset alone (R83). -/
theorem State.enterReset_shell (s : State) (u : ResetUnit) (b : BootFindings) :
    ∃ l, s.enterReset u b = { s with boot := { s.boot with inReset := l ++ [(u, b)] } } := ⟨_, rfl⟩

/-- With no unit in reset none returns. -/
theorem State.unitsBack_none (s : State) (h : s.boot.inReset = []) : s.unitsBack = s := by
  have e : ({ s with boot := { s.boot with inReset := [] } } : State) = s := by rw [← h]
  simp only [State.unitsBack, h, State.forAll, List.foldl, e]

/-- A tick with no unit in reset lets time pass and does nothing else. -/
theorem State.tick_none (s : State) (h : s.boot.inReset = []) : s.tick = s.tickTime := by
  simp only [State.tick, State.when, State.unitsBack_none s h, ite_self]

/-- An offset in the registers of a unit in reset is away while the module runs (Table 21.3). -/
theorem State.unitReach_away (s : State) (off : Nat) (h : s.resetAt off = true) : s.unitReach off = .away := by
  simp only [State.unitReach, h, if_true]

end Sys2Proof.Machine
end

