-- ==== Sys2Proof/Laws/Updates.lean ====
section
/-! SUPPORT. What each change of one port, queue, farm, shaper, stack, slot, table, row set, window, ring or tile's sleep leaves alone, one lemma for a field and a change, and that what was changed reads as it was written. -/

namespace Sys2Proof.Machine

/-! ## What was written reads back -/

/-- A map changed at a key holds there what the change made of its value. -/
@[simp] theorem SMap.findD_modify_same {α : Type} (m : SMap α) (i : Nat) (d : α) (f : α → α) :
    SMap.findD (SMap.modify m i d f) i d = f (SMap.findD m i d) := by
  simp [SMap.modify]

/-- Elsewhere it holds what it held. -/
theorem SMap.findD_modify_ne {α : Type} (m : SMap α) {i j : Nat} (d : α) (f : α → α) (h : j ≠ i) :
    SMap.findD (SMap.modify m i d f) j d = SMap.findD m j d := SMap.findD_put_ne _ _ _ h

@[simp] theorem State.live_withLive_same (s : State) (p : Nat) (f : PortLive → PortLive) : (s.withLive p f).live p = f (s.live p) := SMap.findD_modify_same _ _ _ _
theorem State.live_withLive_ne (s : State) {p j : Nat} (f : PortLive → PortLive) (h : j ≠ p) : (s.withLive p f).live j = s.live j := SMap.findD_modify_ne _ _ _ h
@[simp] theorem State.stack_withStack_same (s : State) (d : Nat) (f : Stack → Stack) : (s.withStack d f).stack d = f (s.stack d) := SMap.findD_modify_same _ _ _ _
theorem State.stack_withStack_ne (s : State) {d j : Nat} (f : Stack → Stack) (h : j ≠ d) : (s.withStack d f).stack j = s.stack j := SMap.findD_modify_ne _ _ _ h
@[simp] theorem State.slot_withSlot_same (s : State) (n : Nat) (f : KeySlot → KeySlot) : (s.withSlot n f).slot n = f (s.slot n) := SMap.findD_modify_same _ _ _ _
theorem State.slot_withSlot_ne (s : State) {n j : Nat} (f : KeySlot → KeySlot) (h : j ≠ n) : (s.withSlot n f).slot j = s.slot j := SMap.findD_modify_ne _ _ _ h
@[simp] theorem State.exmTable_withExmTable_same (s : State) (t : Nat) (f : ExmTable → ExmTable) : (s.withExmTable t f).exmTable t = f (s.exmTable t) := SMap.findD_modify_same _ _ _ _
theorem State.exmTable_withExmTable_ne (s : State) {t j : Nat} (f : ExmTable → ExmTable) (h : j ≠ t) : (s.withExmTable t f).exmTable j = s.exmTable j := SMap.findD_modify_ne _ _ _ h
@[simp] theorem State.hring_withRing_same (s : State) (i : Nat) (f : HostRing → HostRing) : (s.withRing i f).hring i = f (s.hring i) := SMap.findD_modify_same _ _ _ _
theorem State.hring_withRing_ne (s : State) {i j : Nat} (f : HostRing → HostRing) (h : j ≠ i) : (s.withRing i f).hring j = s.hring j := SMap.findD_modify_ne _ _ _ h
@[simp] theorem State.farm_withFarm_same (s : State) (t : Nat) (x : Farm) : (s.withFarm t x).farm t = x := SMap.findD_put_same _ _ _ _
theorem State.farm_withFarm_ne (s : State) {t j : Nat} (x : Farm) (h : j ≠ t) : (s.withFarm t x).farm j = s.farm j := SMap.findD_put_ne _ _ _ h
@[simp] theorem State.tileSleep_withSleep_same (s : State) (t : Nat) (x : TileSleep) : (s.withSleep t x).tileSleep t = x := SMap.findD_put_same _ _ _ _
theorem State.tileSleep_withSleep_ne (s : State) {t j : Nat} (x : TileSleep) (h : j ≠ t) : (s.withSleep t x).tileSleep j = s.tileSleep j := SMap.findD_put_ne _ _ _ h

/-- A list map with a key set to a list, the empty one not listed, reads that list there. -/
theorem SMap.findD_list_same {α : Type} (m : SMap (List α)) (i : Nat) (l : List α) :
    SMap.findD (if l.isEmpty then SMap.del m i else SMap.put m i l) i [] = l := by
  cases l with
  | nil => simp [SMap.findD]
  | cons a t => simp

/-- And elsewhere what it read before. -/
theorem SMap.findD_list_ne {α : Type} (m : SMap (List α)) {i j : Nat} (l : List α) (h : j ≠ i) :
    SMap.findD (if l.isEmpty then SMap.del m i else SMap.put m i l) j [] = SMap.findD m j [] := by
  split
  · unfold SMap.findD
    rw [SMap.find_del_ne m h]
  · exact SMap.findD_put_ne m l [] h

@[simp] theorem State.queue_withQueue_same (s : State) (gq : Nat) (l : List QEntry) : (s.withQueue gq l).queue gq = l := SMap.findD_list_same _ _ _
theorem State.queue_withQueue_ne (s : State) {gq j : Nat} (l : List QEntry) (h : j ≠ gq) : (s.withQueue gq l).queue j = s.queue j := SMap.findD_list_ne _ _ h
@[simp] theorem State.staged_withStaged_same (s : State) (p : Nat) (l : List Frame) : (s.withStaged p l).staged p = l := SMap.findD_list_same _ _ _
theorem State.staged_withStaged_ne (s : State) {p j : Nat} (l : List Frame) (h : j ≠ p) : (s.withStaged p l).staged j = s.staged j := SMap.findD_list_ne _ _ h

/-! ## What withLive leaves alone -/

@[simp] theorem State.get_withLive (s : State) (p : Nat) (f : PortLive → PortLive) (g : Field) (j : Nat) : (s.withLive p f).get g j = s.get g j := rfl
@[simp] theorem State.withLive_variant (s : State) (p : Nat) (f : PortLive → PortLive) : (s.withLive p f).variant = s.variant := rfl
@[simp] theorem State.withLive_elapsed (s : State) (p : Nat) (f : PortLive → PortLive) : (s.withLive p f).elapsed = s.elapsed := rfl
@[simp] theorem State.withLive_freeCtr (s : State) (p : Nat) (f : PortLive → PortLive) : (s.withLive p f).freeCtr = s.freeCtr := rfl
@[simp] theorem State.withLive_regs (s : State) (p : Nat) (f : PortLive → PortLive) : (s.withLive p f).regs = s.regs := rfl
@[simp] theorem State.withLive_nvm (s : State) (p : Nat) (f : PortLive → PortLive) : (s.withLive p f).nvm = s.nvm := rfl
@[simp] theorem State.withLive_nvmCount (s : State) (p : Nat) (f : PortLive → PortLive) : (s.withLive p f).nvmCount = s.nvmCount := rfl
@[simp] theorem State.withLive_nvmJob (s : State) (p : Nat) (f : PortLive → PortLive) : (s.withLive p f).nvmJob = s.nvmJob := rfl
@[simp] theorem State.withLive_image (s : State) (p : Nat) (f : PortLive → PortLive) : (s.withLive p f).image = s.image := rfl
@[simp] theorem State.withLive_swap (s : State) (p : Nat) (f : PortLive → PortLive) : (s.withLive p f).swap = s.swap := rfl
@[simp] theorem State.withLive_handover (s : State) (p : Nat) (f : PortLive → PortLive) : (s.withLive p f).handover = s.handover := rfl
@[simp] theorem State.withLive_pins (s : State) (p : Nat) (f : PortLive → PortLive) : (s.withLive p f).pins = s.pins := rfl
@[simp] theorem State.withLive_boot (s : State) (p : Nat) (f : PortLive → PortLive) : (s.withLive p f).boot = s.boot := rfl
@[simp] theorem State.withLive_sundew (s : State) (p : Nat) (f : PortLive → PortLive) : (s.withLive p f).sundew = s.sundew := rfl
@[simp] theorem State.withLive_host (s : State) (p : Nat) (f : PortLive → PortLive) : (s.withLive p f).host = s.host := rfl
@[simp] theorem State.withLive_clocks (s : State) (p : Nat) (f : PortLive → PortLive) : (s.withLive p f).clocks = s.clocks := rfl
@[simp] theorem State.withLive_optics (s : State) (p : Nat) (f : PortLive → PortLive) : (s.withLive p f).optics = s.optics := rfl
@[simp] theorem State.withLive_time (s : State) (p : Nat) (f : PortLive → PortLive) : (s.withLive p f).time = s.time := rfl
@[simp] theorem State.withLive_exm (s : State) (p : Nat) (f : PortLive → PortLive) : (s.withLive p f).exm = s.exm := rfl
@[simp] theorem State.withLive_tcam (s : State) (p : Nat) (f : PortLive → PortLive) : (s.withLive p f).tcam = s.tcam := rfl
@[simp] theorem State.withLive_tables (s : State) (p : Nat) (f : PortLive → PortLive) : (s.withLive p f).tables = s.tables := rfl
@[simp] theorem State.withLive_gates (s : State) (p : Nat) (f : PortLive → PortLive) : (s.withLive p f).gates = s.gates := rfl
@[simp] theorem State.withLive_keys (s : State) (p : Nat) (f : PortLive → PortLive) : (s.withLive p f).keys = s.keys := rfl
@[simp] theorem State.withLive_drams (s : State) (p : Nat) (f : PortLive → PortLive) : (s.withLive p f).drams = s.drams := rfl
@[simp] theorem State.withLive_tue (s : State) (p : Nat) (f : PortLive → PortLive) : (s.withLive p f).tue = s.tue := rfl
@[simp] theorem State.withLive_probes (s : State) (p : Nat) (f : PortLive → PortLive) : (s.withLive p f).probes = s.probes := rfl
@[simp] theorem State.withLive_out (s : State) (p : Nat) (f : PortLive → PortLive) : (s.withLive p f).out = s.out := rfl
@[simp] theorem State.withLive_pending (s : State) (p : Nat) (f : PortLive → PortLive) : (s.withLive p f).pending = s.pending := rfl

/-! ## What withQueue leaves alone -/

@[simp] theorem State.get_withQueue (s : State) (gq : Nat) (l : List QEntry) (g : Field) (j : Nat) : (s.withQueue gq l).get g j = s.get g j := rfl
@[simp] theorem State.withQueue_variant (s : State) (gq : Nat) (l : List QEntry) : (s.withQueue gq l).variant = s.variant := rfl
@[simp] theorem State.withQueue_elapsed (s : State) (gq : Nat) (l : List QEntry) : (s.withQueue gq l).elapsed = s.elapsed := rfl
@[simp] theorem State.withQueue_freeCtr (s : State) (gq : Nat) (l : List QEntry) : (s.withQueue gq l).freeCtr = s.freeCtr := rfl
@[simp] theorem State.withQueue_regs (s : State) (gq : Nat) (l : List QEntry) : (s.withQueue gq l).regs = s.regs := rfl
@[simp] theorem State.withQueue_nvm (s : State) (gq : Nat) (l : List QEntry) : (s.withQueue gq l).nvm = s.nvm := rfl
@[simp] theorem State.withQueue_nvmCount (s : State) (gq : Nat) (l : List QEntry) : (s.withQueue gq l).nvmCount = s.nvmCount := rfl
@[simp] theorem State.withQueue_nvmJob (s : State) (gq : Nat) (l : List QEntry) : (s.withQueue gq l).nvmJob = s.nvmJob := rfl
@[simp] theorem State.withQueue_image (s : State) (gq : Nat) (l : List QEntry) : (s.withQueue gq l).image = s.image := rfl
@[simp] theorem State.withQueue_swap (s : State) (gq : Nat) (l : List QEntry) : (s.withQueue gq l).swap = s.swap := rfl
@[simp] theorem State.withQueue_handover (s : State) (gq : Nat) (l : List QEntry) : (s.withQueue gq l).handover = s.handover := rfl
@[simp] theorem State.withQueue_pins (s : State) (gq : Nat) (l : List QEntry) : (s.withQueue gq l).pins = s.pins := rfl
@[simp] theorem State.withQueue_boot (s : State) (gq : Nat) (l : List QEntry) : (s.withQueue gq l).boot = s.boot := rfl
@[simp] theorem State.withQueue_sundew (s : State) (gq : Nat) (l : List QEntry) : (s.withQueue gq l).sundew = s.sundew := rfl
@[simp] theorem State.withQueue_host (s : State) (gq : Nat) (l : List QEntry) : (s.withQueue gq l).host = s.host := rfl
@[simp] theorem State.withQueue_clocks (s : State) (gq : Nat) (l : List QEntry) : (s.withQueue gq l).clocks = s.clocks := rfl
@[simp] theorem State.withQueue_optics (s : State) (gq : Nat) (l : List QEntry) : (s.withQueue gq l).optics = s.optics := rfl
@[simp] theorem State.withQueue_time (s : State) (gq : Nat) (l : List QEntry) : (s.withQueue gq l).time = s.time := rfl
@[simp] theorem State.withQueue_exm (s : State) (gq : Nat) (l : List QEntry) : (s.withQueue gq l).exm = s.exm := rfl
@[simp] theorem State.withQueue_tcam (s : State) (gq : Nat) (l : List QEntry) : (s.withQueue gq l).tcam = s.tcam := rfl
@[simp] theorem State.withQueue_tables (s : State) (gq : Nat) (l : List QEntry) : (s.withQueue gq l).tables = s.tables := rfl
@[simp] theorem State.withQueue_gates (s : State) (gq : Nat) (l : List QEntry) : (s.withQueue gq l).gates = s.gates := rfl
@[simp] theorem State.withQueue_keys (s : State) (gq : Nat) (l : List QEntry) : (s.withQueue gq l).keys = s.keys := rfl
@[simp] theorem State.withQueue_drams (s : State) (gq : Nat) (l : List QEntry) : (s.withQueue gq l).drams = s.drams := rfl
@[simp] theorem State.withQueue_tue (s : State) (gq : Nat) (l : List QEntry) : (s.withQueue gq l).tue = s.tue := rfl
@[simp] theorem State.withQueue_probes (s : State) (gq : Nat) (l : List QEntry) : (s.withQueue gq l).probes = s.probes := rfl
@[simp] theorem State.withQueue_out (s : State) (gq : Nat) (l : List QEntry) : (s.withQueue gq l).out = s.out := rfl
@[simp] theorem State.withQueue_pending (s : State) (gq : Nat) (l : List QEntry) : (s.withQueue gq l).pending = s.pending := rfl

/-! ## What withStaged leaves alone -/

@[simp] theorem State.get_withStaged (s : State) (p : Nat) (l : List Frame) (g : Field) (j : Nat) : (s.withStaged p l).get g j = s.get g j := rfl
@[simp] theorem State.withStaged_variant (s : State) (p : Nat) (l : List Frame) : (s.withStaged p l).variant = s.variant := rfl
@[simp] theorem State.withStaged_elapsed (s : State) (p : Nat) (l : List Frame) : (s.withStaged p l).elapsed = s.elapsed := rfl
@[simp] theorem State.withStaged_freeCtr (s : State) (p : Nat) (l : List Frame) : (s.withStaged p l).freeCtr = s.freeCtr := rfl
@[simp] theorem State.withStaged_regs (s : State) (p : Nat) (l : List Frame) : (s.withStaged p l).regs = s.regs := rfl
@[simp] theorem State.withStaged_nvm (s : State) (p : Nat) (l : List Frame) : (s.withStaged p l).nvm = s.nvm := rfl
@[simp] theorem State.withStaged_nvmCount (s : State) (p : Nat) (l : List Frame) : (s.withStaged p l).nvmCount = s.nvmCount := rfl
@[simp] theorem State.withStaged_nvmJob (s : State) (p : Nat) (l : List Frame) : (s.withStaged p l).nvmJob = s.nvmJob := rfl
@[simp] theorem State.withStaged_image (s : State) (p : Nat) (l : List Frame) : (s.withStaged p l).image = s.image := rfl
@[simp] theorem State.withStaged_swap (s : State) (p : Nat) (l : List Frame) : (s.withStaged p l).swap = s.swap := rfl
@[simp] theorem State.withStaged_handover (s : State) (p : Nat) (l : List Frame) : (s.withStaged p l).handover = s.handover := rfl
@[simp] theorem State.withStaged_pins (s : State) (p : Nat) (l : List Frame) : (s.withStaged p l).pins = s.pins := rfl
@[simp] theorem State.withStaged_boot (s : State) (p : Nat) (l : List Frame) : (s.withStaged p l).boot = s.boot := rfl
@[simp] theorem State.withStaged_sundew (s : State) (p : Nat) (l : List Frame) : (s.withStaged p l).sundew = s.sundew := rfl
@[simp] theorem State.withStaged_host (s : State) (p : Nat) (l : List Frame) : (s.withStaged p l).host = s.host := rfl
@[simp] theorem State.withStaged_clocks (s : State) (p : Nat) (l : List Frame) : (s.withStaged p l).clocks = s.clocks := rfl
@[simp] theorem State.withStaged_optics (s : State) (p : Nat) (l : List Frame) : (s.withStaged p l).optics = s.optics := rfl
@[simp] theorem State.withStaged_time (s : State) (p : Nat) (l : List Frame) : (s.withStaged p l).time = s.time := rfl
@[simp] theorem State.withStaged_exm (s : State) (p : Nat) (l : List Frame) : (s.withStaged p l).exm = s.exm := rfl
@[simp] theorem State.withStaged_tcam (s : State) (p : Nat) (l : List Frame) : (s.withStaged p l).tcam = s.tcam := rfl
@[simp] theorem State.withStaged_tables (s : State) (p : Nat) (l : List Frame) : (s.withStaged p l).tables = s.tables := rfl
@[simp] theorem State.withStaged_gates (s : State) (p : Nat) (l : List Frame) : (s.withStaged p l).gates = s.gates := rfl
@[simp] theorem State.withStaged_keys (s : State) (p : Nat) (l : List Frame) : (s.withStaged p l).keys = s.keys := rfl
@[simp] theorem State.withStaged_drams (s : State) (p : Nat) (l : List Frame) : (s.withStaged p l).drams = s.drams := rfl
@[simp] theorem State.withStaged_tue (s : State) (p : Nat) (l : List Frame) : (s.withStaged p l).tue = s.tue := rfl
@[simp] theorem State.withStaged_probes (s : State) (p : Nat) (l : List Frame) : (s.withStaged p l).probes = s.probes := rfl
@[simp] theorem State.withStaged_out (s : State) (p : Nat) (l : List Frame) : (s.withStaged p l).out = s.out := rfl
@[simp] theorem State.withStaged_pending (s : State) (p : Nat) (l : List Frame) : (s.withStaged p l).pending = s.pending := rfl

/-! ## What withFarm leaves alone -/

@[simp] theorem State.get_withFarm (s : State) (t : Nat) (x : Farm) (g : Field) (j : Nat) : (s.withFarm t x).get g j = s.get g j := rfl
@[simp] theorem State.withFarm_variant (s : State) (t : Nat) (x : Farm) : (s.withFarm t x).variant = s.variant := rfl
@[simp] theorem State.withFarm_elapsed (s : State) (t : Nat) (x : Farm) : (s.withFarm t x).elapsed = s.elapsed := rfl
@[simp] theorem State.withFarm_freeCtr (s : State) (t : Nat) (x : Farm) : (s.withFarm t x).freeCtr = s.freeCtr := rfl
@[simp] theorem State.withFarm_regs (s : State) (t : Nat) (x : Farm) : (s.withFarm t x).regs = s.regs := rfl
@[simp] theorem State.withFarm_nvm (s : State) (t : Nat) (x : Farm) : (s.withFarm t x).nvm = s.nvm := rfl
@[simp] theorem State.withFarm_nvmCount (s : State) (t : Nat) (x : Farm) : (s.withFarm t x).nvmCount = s.nvmCount := rfl
@[simp] theorem State.withFarm_nvmJob (s : State) (t : Nat) (x : Farm) : (s.withFarm t x).nvmJob = s.nvmJob := rfl
@[simp] theorem State.withFarm_image (s : State) (t : Nat) (x : Farm) : (s.withFarm t x).image = s.image := rfl
@[simp] theorem State.withFarm_swap (s : State) (t : Nat) (x : Farm) : (s.withFarm t x).swap = s.swap := rfl
@[simp] theorem State.withFarm_handover (s : State) (t : Nat) (x : Farm) : (s.withFarm t x).handover = s.handover := rfl
@[simp] theorem State.withFarm_pins (s : State) (t : Nat) (x : Farm) : (s.withFarm t x).pins = s.pins := rfl
@[simp] theorem State.withFarm_boot (s : State) (t : Nat) (x : Farm) : (s.withFarm t x).boot = s.boot := rfl
@[simp] theorem State.withFarm_sundew (s : State) (t : Nat) (x : Farm) : (s.withFarm t x).sundew = s.sundew := rfl
@[simp] theorem State.withFarm_host (s : State) (t : Nat) (x : Farm) : (s.withFarm t x).host = s.host := rfl
@[simp] theorem State.withFarm_clocks (s : State) (t : Nat) (x : Farm) : (s.withFarm t x).clocks = s.clocks := rfl
@[simp] theorem State.withFarm_optics (s : State) (t : Nat) (x : Farm) : (s.withFarm t x).optics = s.optics := rfl
@[simp] theorem State.withFarm_time (s : State) (t : Nat) (x : Farm) : (s.withFarm t x).time = s.time := rfl
@[simp] theorem State.withFarm_exm (s : State) (t : Nat) (x : Farm) : (s.withFarm t x).exm = s.exm := rfl
@[simp] theorem State.withFarm_tcam (s : State) (t : Nat) (x : Farm) : (s.withFarm t x).tcam = s.tcam := rfl
@[simp] theorem State.withFarm_tables (s : State) (t : Nat) (x : Farm) : (s.withFarm t x).tables = s.tables := rfl
@[simp] theorem State.withFarm_gates (s : State) (t : Nat) (x : Farm) : (s.withFarm t x).gates = s.gates := rfl
@[simp] theorem State.withFarm_keys (s : State) (t : Nat) (x : Farm) : (s.withFarm t x).keys = s.keys := rfl
@[simp] theorem State.withFarm_drams (s : State) (t : Nat) (x : Farm) : (s.withFarm t x).drams = s.drams := rfl
@[simp] theorem State.withFarm_tue (s : State) (t : Nat) (x : Farm) : (s.withFarm t x).tue = s.tue := rfl
@[simp] theorem State.withFarm_probes (s : State) (t : Nat) (x : Farm) : (s.withFarm t x).probes = s.probes := rfl
@[simp] theorem State.withFarm_out (s : State) (t : Nat) (x : Farm) : (s.withFarm t x).out = s.out := rfl
@[simp] theorem State.withFarm_pending (s : State) (t : Nat) (x : Farm) : (s.withFarm t x).pending = s.pending := rfl

/-! ## What withShaper leaves alone -/

@[simp] theorem State.get_withShaper (s : State) (p k : Nat) (f : Shaper → Shaper) (g : Field) (j : Nat) : (s.withShaper p k f).get g j = s.get g j := rfl
@[simp] theorem State.withShaper_variant (s : State) (p k : Nat) (f : Shaper → Shaper) : (s.withShaper p k f).variant = s.variant := rfl
@[simp] theorem State.withShaper_elapsed (s : State) (p k : Nat) (f : Shaper → Shaper) : (s.withShaper p k f).elapsed = s.elapsed := rfl
@[simp] theorem State.withShaper_freeCtr (s : State) (p k : Nat) (f : Shaper → Shaper) : (s.withShaper p k f).freeCtr = s.freeCtr := rfl
@[simp] theorem State.withShaper_regs (s : State) (p k : Nat) (f : Shaper → Shaper) : (s.withShaper p k f).regs = s.regs := rfl
@[simp] theorem State.withShaper_nvm (s : State) (p k : Nat) (f : Shaper → Shaper) : (s.withShaper p k f).nvm = s.nvm := rfl
@[simp] theorem State.withShaper_nvmCount (s : State) (p k : Nat) (f : Shaper → Shaper) : (s.withShaper p k f).nvmCount = s.nvmCount := rfl
@[simp] theorem State.withShaper_nvmJob (s : State) (p k : Nat) (f : Shaper → Shaper) : (s.withShaper p k f).nvmJob = s.nvmJob := rfl
@[simp] theorem State.withShaper_image (s : State) (p k : Nat) (f : Shaper → Shaper) : (s.withShaper p k f).image = s.image := rfl
@[simp] theorem State.withShaper_swap (s : State) (p k : Nat) (f : Shaper → Shaper) : (s.withShaper p k f).swap = s.swap := rfl
@[simp] theorem State.withShaper_handover (s : State) (p k : Nat) (f : Shaper → Shaper) : (s.withShaper p k f).handover = s.handover := rfl
@[simp] theorem State.withShaper_pins (s : State) (p k : Nat) (f : Shaper → Shaper) : (s.withShaper p k f).pins = s.pins := rfl
@[simp] theorem State.withShaper_boot (s : State) (p k : Nat) (f : Shaper → Shaper) : (s.withShaper p k f).boot = s.boot := rfl
@[simp] theorem State.withShaper_sundew (s : State) (p k : Nat) (f : Shaper → Shaper) : (s.withShaper p k f).sundew = s.sundew := rfl
@[simp] theorem State.withShaper_host (s : State) (p k : Nat) (f : Shaper → Shaper) : (s.withShaper p k f).host = s.host := rfl
@[simp] theorem State.withShaper_clocks (s : State) (p k : Nat) (f : Shaper → Shaper) : (s.withShaper p k f).clocks = s.clocks := rfl
@[simp] theorem State.withShaper_optics (s : State) (p k : Nat) (f : Shaper → Shaper) : (s.withShaper p k f).optics = s.optics := rfl
@[simp] theorem State.withShaper_time (s : State) (p k : Nat) (f : Shaper → Shaper) : (s.withShaper p k f).time = s.time := rfl
@[simp] theorem State.withShaper_exm (s : State) (p k : Nat) (f : Shaper → Shaper) : (s.withShaper p k f).exm = s.exm := rfl
@[simp] theorem State.withShaper_tcam (s : State) (p k : Nat) (f : Shaper → Shaper) : (s.withShaper p k f).tcam = s.tcam := rfl
@[simp] theorem State.withShaper_tables (s : State) (p k : Nat) (f : Shaper → Shaper) : (s.withShaper p k f).tables = s.tables := rfl
@[simp] theorem State.withShaper_gates (s : State) (p k : Nat) (f : Shaper → Shaper) : (s.withShaper p k f).gates = s.gates := rfl
@[simp] theorem State.withShaper_keys (s : State) (p k : Nat) (f : Shaper → Shaper) : (s.withShaper p k f).keys = s.keys := rfl
@[simp] theorem State.withShaper_drams (s : State) (p k : Nat) (f : Shaper → Shaper) : (s.withShaper p k f).drams = s.drams := rfl
@[simp] theorem State.withShaper_tue (s : State) (p k : Nat) (f : Shaper → Shaper) : (s.withShaper p k f).tue = s.tue := rfl
@[simp] theorem State.withShaper_probes (s : State) (p k : Nat) (f : Shaper → Shaper) : (s.withShaper p k f).probes = s.probes := rfl
@[simp] theorem State.withShaper_out (s : State) (p k : Nat) (f : Shaper → Shaper) : (s.withShaper p k f).out = s.out := rfl
@[simp] theorem State.withShaper_pending (s : State) (p k : Nat) (f : Shaper → Shaper) : (s.withShaper p k f).pending = s.pending := rfl

/-! ## What withStack leaves alone -/

@[simp] theorem State.get_withStack (s : State) (d : Nat) (f : Stack → Stack) (g : Field) (j : Nat) : (s.withStack d f).get g j = s.get g j := rfl
@[simp] theorem State.withStack_variant (s : State) (d : Nat) (f : Stack → Stack) : (s.withStack d f).variant = s.variant := rfl
@[simp] theorem State.withStack_elapsed (s : State) (d : Nat) (f : Stack → Stack) : (s.withStack d f).elapsed = s.elapsed := rfl
@[simp] theorem State.withStack_freeCtr (s : State) (d : Nat) (f : Stack → Stack) : (s.withStack d f).freeCtr = s.freeCtr := rfl
@[simp] theorem State.withStack_regs (s : State) (d : Nat) (f : Stack → Stack) : (s.withStack d f).regs = s.regs := rfl
@[simp] theorem State.withStack_nvm (s : State) (d : Nat) (f : Stack → Stack) : (s.withStack d f).nvm = s.nvm := rfl
@[simp] theorem State.withStack_nvmCount (s : State) (d : Nat) (f : Stack → Stack) : (s.withStack d f).nvmCount = s.nvmCount := rfl
@[simp] theorem State.withStack_nvmJob (s : State) (d : Nat) (f : Stack → Stack) : (s.withStack d f).nvmJob = s.nvmJob := rfl
@[simp] theorem State.withStack_image (s : State) (d : Nat) (f : Stack → Stack) : (s.withStack d f).image = s.image := rfl
@[simp] theorem State.withStack_swap (s : State) (d : Nat) (f : Stack → Stack) : (s.withStack d f).swap = s.swap := rfl
@[simp] theorem State.withStack_handover (s : State) (d : Nat) (f : Stack → Stack) : (s.withStack d f).handover = s.handover := rfl
@[simp] theorem State.withStack_pins (s : State) (d : Nat) (f : Stack → Stack) : (s.withStack d f).pins = s.pins := rfl
@[simp] theorem State.withStack_boot (s : State) (d : Nat) (f : Stack → Stack) : (s.withStack d f).boot = s.boot := rfl
@[simp] theorem State.withStack_sundew (s : State) (d : Nat) (f : Stack → Stack) : (s.withStack d f).sundew = s.sundew := rfl
@[simp] theorem State.withStack_host (s : State) (d : Nat) (f : Stack → Stack) : (s.withStack d f).host = s.host := rfl
@[simp] theorem State.withStack_clocks (s : State) (d : Nat) (f : Stack → Stack) : (s.withStack d f).clocks = s.clocks := rfl
@[simp] theorem State.withStack_optics (s : State) (d : Nat) (f : Stack → Stack) : (s.withStack d f).optics = s.optics := rfl
@[simp] theorem State.withStack_time (s : State) (d : Nat) (f : Stack → Stack) : (s.withStack d f).time = s.time := rfl
@[simp] theorem State.withStack_exm (s : State) (d : Nat) (f : Stack → Stack) : (s.withStack d f).exm = s.exm := rfl
@[simp] theorem State.withStack_path (s : State) (d : Nat) (f : Stack → Stack) : (s.withStack d f).path = s.path := rfl
@[simp] theorem State.withStack_tcam (s : State) (d : Nat) (f : Stack → Stack) : (s.withStack d f).tcam = s.tcam := rfl
@[simp] theorem State.withStack_tables (s : State) (d : Nat) (f : Stack → Stack) : (s.withStack d f).tables = s.tables := rfl
@[simp] theorem State.withStack_gates (s : State) (d : Nat) (f : Stack → Stack) : (s.withStack d f).gates = s.gates := rfl
@[simp] theorem State.withStack_keys (s : State) (d : Nat) (f : Stack → Stack) : (s.withStack d f).keys = s.keys := rfl
@[simp] theorem State.withStack_tue (s : State) (d : Nat) (f : Stack → Stack) : (s.withStack d f).tue = s.tue := rfl
@[simp] theorem State.withStack_probes (s : State) (d : Nat) (f : Stack → Stack) : (s.withStack d f).probes = s.probes := rfl
@[simp] theorem State.withStack_out (s : State) (d : Nat) (f : Stack → Stack) : (s.withStack d f).out = s.out := rfl
@[simp] theorem State.withStack_pending (s : State) (d : Nat) (f : Stack → Stack) : (s.withStack d f).pending = s.pending := rfl

/-! ## What withSlot leaves alone -/

@[simp] theorem State.get_withSlot (s : State) (n : Nat) (f : KeySlot → KeySlot) (g : Field) (j : Nat) : (s.withSlot n f).get g j = s.get g j := rfl
@[simp] theorem State.withSlot_variant (s : State) (n : Nat) (f : KeySlot → KeySlot) : (s.withSlot n f).variant = s.variant := rfl
@[simp] theorem State.withSlot_elapsed (s : State) (n : Nat) (f : KeySlot → KeySlot) : (s.withSlot n f).elapsed = s.elapsed := rfl
@[simp] theorem State.withSlot_freeCtr (s : State) (n : Nat) (f : KeySlot → KeySlot) : (s.withSlot n f).freeCtr = s.freeCtr := rfl
@[simp] theorem State.withSlot_regs (s : State) (n : Nat) (f : KeySlot → KeySlot) : (s.withSlot n f).regs = s.regs := rfl
@[simp] theorem State.withSlot_nvm (s : State) (n : Nat) (f : KeySlot → KeySlot) : (s.withSlot n f).nvm = s.nvm := rfl
@[simp] theorem State.withSlot_nvmCount (s : State) (n : Nat) (f : KeySlot → KeySlot) : (s.withSlot n f).nvmCount = s.nvmCount := rfl
@[simp] theorem State.withSlot_nvmJob (s : State) (n : Nat) (f : KeySlot → KeySlot) : (s.withSlot n f).nvmJob = s.nvmJob := rfl
@[simp] theorem State.withSlot_image (s : State) (n : Nat) (f : KeySlot → KeySlot) : (s.withSlot n f).image = s.image := rfl
@[simp] theorem State.withSlot_swap (s : State) (n : Nat) (f : KeySlot → KeySlot) : (s.withSlot n f).swap = s.swap := rfl
@[simp] theorem State.withSlot_handover (s : State) (n : Nat) (f : KeySlot → KeySlot) : (s.withSlot n f).handover = s.handover := rfl
@[simp] theorem State.withSlot_pins (s : State) (n : Nat) (f : KeySlot → KeySlot) : (s.withSlot n f).pins = s.pins := rfl
@[simp] theorem State.withSlot_boot (s : State) (n : Nat) (f : KeySlot → KeySlot) : (s.withSlot n f).boot = s.boot := rfl
@[simp] theorem State.withSlot_sundew (s : State) (n : Nat) (f : KeySlot → KeySlot) : (s.withSlot n f).sundew = s.sundew := rfl
@[simp] theorem State.withSlot_host (s : State) (n : Nat) (f : KeySlot → KeySlot) : (s.withSlot n f).host = s.host := rfl
@[simp] theorem State.withSlot_clocks (s : State) (n : Nat) (f : KeySlot → KeySlot) : (s.withSlot n f).clocks = s.clocks := rfl
@[simp] theorem State.withSlot_optics (s : State) (n : Nat) (f : KeySlot → KeySlot) : (s.withSlot n f).optics = s.optics := rfl
@[simp] theorem State.withSlot_time (s : State) (n : Nat) (f : KeySlot → KeySlot) : (s.withSlot n f).time = s.time := rfl
@[simp] theorem State.withSlot_exm (s : State) (n : Nat) (f : KeySlot → KeySlot) : (s.withSlot n f).exm = s.exm := rfl
@[simp] theorem State.withSlot_path (s : State) (n : Nat) (f : KeySlot → KeySlot) : (s.withSlot n f).path = s.path := rfl
@[simp] theorem State.withSlot_tcam (s : State) (n : Nat) (f : KeySlot → KeySlot) : (s.withSlot n f).tcam = s.tcam := rfl
@[simp] theorem State.withSlot_tables (s : State) (n : Nat) (f : KeySlot → KeySlot) : (s.withSlot n f).tables = s.tables := rfl
@[simp] theorem State.withSlot_gates (s : State) (n : Nat) (f : KeySlot → KeySlot) : (s.withSlot n f).gates = s.gates := rfl
@[simp] theorem State.withSlot_drams (s : State) (n : Nat) (f : KeySlot → KeySlot) : (s.withSlot n f).drams = s.drams := rfl
@[simp] theorem State.withSlot_tue (s : State) (n : Nat) (f : KeySlot → KeySlot) : (s.withSlot n f).tue = s.tue := rfl
@[simp] theorem State.withSlot_probes (s : State) (n : Nat) (f : KeySlot → KeySlot) : (s.withSlot n f).probes = s.probes := rfl
@[simp] theorem State.withSlot_out (s : State) (n : Nat) (f : KeySlot → KeySlot) : (s.withSlot n f).out = s.out := rfl
@[simp] theorem State.withSlot_pending (s : State) (n : Nat) (f : KeySlot → KeySlot) : (s.withSlot n f).pending = s.pending := rfl

/-! ## What withSlots leaves alone -/

@[simp] theorem State.get_withSlots (s : State) (m : SMap Nat) (g : Field) (j : Nat) : (s.withSlots m).get g j = s.get g j := rfl
@[simp] theorem State.withSlots_variant (s : State) (m : SMap Nat) : (s.withSlots m).variant = s.variant := rfl
@[simp] theorem State.withSlots_elapsed (s : State) (m : SMap Nat) : (s.withSlots m).elapsed = s.elapsed := rfl
@[simp] theorem State.withSlots_freeCtr (s : State) (m : SMap Nat) : (s.withSlots m).freeCtr = s.freeCtr := rfl
@[simp] theorem State.withSlots_regs (s : State) (m : SMap Nat) : (s.withSlots m).regs = s.regs := rfl
@[simp] theorem State.withSlots_nvm (s : State) (m : SMap Nat) : (s.withSlots m).nvm = s.nvm := rfl
@[simp] theorem State.withSlots_nvmCount (s : State) (m : SMap Nat) : (s.withSlots m).nvmCount = s.nvmCount := rfl
@[simp] theorem State.withSlots_nvmJob (s : State) (m : SMap Nat) : (s.withSlots m).nvmJob = s.nvmJob := rfl
@[simp] theorem State.withSlots_image (s : State) (m : SMap Nat) : (s.withSlots m).image = s.image := rfl
@[simp] theorem State.withSlots_swap (s : State) (m : SMap Nat) : (s.withSlots m).swap = s.swap := rfl
@[simp] theorem State.withSlots_handover (s : State) (m : SMap Nat) : (s.withSlots m).handover = s.handover := rfl
@[simp] theorem State.withSlots_pins (s : State) (m : SMap Nat) : (s.withSlots m).pins = s.pins := rfl
@[simp] theorem State.withSlots_boot (s : State) (m : SMap Nat) : (s.withSlots m).boot = s.boot := rfl
@[simp] theorem State.withSlots_sundew (s : State) (m : SMap Nat) : (s.withSlots m).sundew = s.sundew := rfl
@[simp] theorem State.withSlots_host (s : State) (m : SMap Nat) : (s.withSlots m).host = s.host := rfl
@[simp] theorem State.withSlots_clocks (s : State) (m : SMap Nat) : (s.withSlots m).clocks = s.clocks := rfl
@[simp] theorem State.withSlots_optics (s : State) (m : SMap Nat) : (s.withSlots m).optics = s.optics := rfl
@[simp] theorem State.withSlots_time (s : State) (m : SMap Nat) : (s.withSlots m).time = s.time := rfl
@[simp] theorem State.withSlots_path (s : State) (m : SMap Nat) : (s.withSlots m).path = s.path := rfl
@[simp] theorem State.withSlots_tcam (s : State) (m : SMap Nat) : (s.withSlots m).tcam = s.tcam := rfl
@[simp] theorem State.withSlots_tables (s : State) (m : SMap Nat) : (s.withSlots m).tables = s.tables := rfl
@[simp] theorem State.withSlots_gates (s : State) (m : SMap Nat) : (s.withSlots m).gates = s.gates := rfl
@[simp] theorem State.withSlots_keys (s : State) (m : SMap Nat) : (s.withSlots m).keys = s.keys := rfl
@[simp] theorem State.withSlots_drams (s : State) (m : SMap Nat) : (s.withSlots m).drams = s.drams := rfl
@[simp] theorem State.withSlots_tue (s : State) (m : SMap Nat) : (s.withSlots m).tue = s.tue := rfl
@[simp] theorem State.withSlots_probes (s : State) (m : SMap Nat) : (s.withSlots m).probes = s.probes := rfl
@[simp] theorem State.withSlots_out (s : State) (m : SMap Nat) : (s.withSlots m).out = s.out := rfl
@[simp] theorem State.withSlots_pending (s : State) (m : SMap Nat) : (s.withSlots m).pending = s.pending := rfl

/-! ## What withExmTable leaves alone -/

@[simp] theorem State.get_withExmTable (s : State) (t : Nat) (f : ExmTable → ExmTable) (g : Field) (j : Nat) : (s.withExmTable t f).get g j = s.get g j := rfl
@[simp] theorem State.withExmTable_variant (s : State) (t : Nat) (f : ExmTable → ExmTable) : (s.withExmTable t f).variant = s.variant := rfl
@[simp] theorem State.withExmTable_elapsed (s : State) (t : Nat) (f : ExmTable → ExmTable) : (s.withExmTable t f).elapsed = s.elapsed := rfl
@[simp] theorem State.withExmTable_freeCtr (s : State) (t : Nat) (f : ExmTable → ExmTable) : (s.withExmTable t f).freeCtr = s.freeCtr := rfl
@[simp] theorem State.withExmTable_regs (s : State) (t : Nat) (f : ExmTable → ExmTable) : (s.withExmTable t f).regs = s.regs := rfl
@[simp] theorem State.withExmTable_nvm (s : State) (t : Nat) (f : ExmTable → ExmTable) : (s.withExmTable t f).nvm = s.nvm := rfl
@[simp] theorem State.withExmTable_nvmCount (s : State) (t : Nat) (f : ExmTable → ExmTable) : (s.withExmTable t f).nvmCount = s.nvmCount := rfl
@[simp] theorem State.withExmTable_nvmJob (s : State) (t : Nat) (f : ExmTable → ExmTable) : (s.withExmTable t f).nvmJob = s.nvmJob := rfl
@[simp] theorem State.withExmTable_image (s : State) (t : Nat) (f : ExmTable → ExmTable) : (s.withExmTable t f).image = s.image := rfl
@[simp] theorem State.withExmTable_swap (s : State) (t : Nat) (f : ExmTable → ExmTable) : (s.withExmTable t f).swap = s.swap := rfl
@[simp] theorem State.withExmTable_handover (s : State) (t : Nat) (f : ExmTable → ExmTable) : (s.withExmTable t f).handover = s.handover := rfl
@[simp] theorem State.withExmTable_pins (s : State) (t : Nat) (f : ExmTable → ExmTable) : (s.withExmTable t f).pins = s.pins := rfl
@[simp] theorem State.withExmTable_boot (s : State) (t : Nat) (f : ExmTable → ExmTable) : (s.withExmTable t f).boot = s.boot := rfl
@[simp] theorem State.withExmTable_sundew (s : State) (t : Nat) (f : ExmTable → ExmTable) : (s.withExmTable t f).sundew = s.sundew := rfl
@[simp] theorem State.withExmTable_host (s : State) (t : Nat) (f : ExmTable → ExmTable) : (s.withExmTable t f).host = s.host := rfl
@[simp] theorem State.withExmTable_clocks (s : State) (t : Nat) (f : ExmTable → ExmTable) : (s.withExmTable t f).clocks = s.clocks := rfl
@[simp] theorem State.withExmTable_optics (s : State) (t : Nat) (f : ExmTable → ExmTable) : (s.withExmTable t f).optics = s.optics := rfl
@[simp] theorem State.withExmTable_time (s : State) (t : Nat) (f : ExmTable → ExmTable) : (s.withExmTable t f).time = s.time := rfl
@[simp] theorem State.withExmTable_path (s : State) (t : Nat) (f : ExmTable → ExmTable) : (s.withExmTable t f).path = s.path := rfl
@[simp] theorem State.withExmTable_tcam (s : State) (t : Nat) (f : ExmTable → ExmTable) : (s.withExmTable t f).tcam = s.tcam := rfl
@[simp] theorem State.withExmTable_tables (s : State) (t : Nat) (f : ExmTable → ExmTable) : (s.withExmTable t f).tables = s.tables := rfl
@[simp] theorem State.withExmTable_gates (s : State) (t : Nat) (f : ExmTable → ExmTable) : (s.withExmTable t f).gates = s.gates := rfl
@[simp] theorem State.withExmTable_keys (s : State) (t : Nat) (f : ExmTable → ExmTable) : (s.withExmTable t f).keys = s.keys := rfl
@[simp] theorem State.withExmTable_drams (s : State) (t : Nat) (f : ExmTable → ExmTable) : (s.withExmTable t f).drams = s.drams := rfl
@[simp] theorem State.withExmTable_tue (s : State) (t : Nat) (f : ExmTable → ExmTable) : (s.withExmTable t f).tue = s.tue := rfl
@[simp] theorem State.withExmTable_probes (s : State) (t : Nat) (f : ExmTable → ExmTable) : (s.withExmTable t f).probes = s.probes := rfl
@[simp] theorem State.withExmTable_out (s : State) (t : Nat) (f : ExmTable → ExmTable) : (s.withExmTable t f).out = s.out := rfl
@[simp] theorem State.withExmTable_pending (s : State) (t : Nat) (f : ExmTable → ExmTable) : (s.withExmTable t f).pending = s.pending := rfl

/-! ## What withRows leaves alone -/

@[simp] theorem State.get_withRows (s : State) (m : SMap TcamRow) (g : Field) (j : Nat) : (s.withRows m).get g j = s.get g j := rfl
@[simp] theorem State.withRows_variant (s : State) (m : SMap TcamRow) : (s.withRows m).variant = s.variant := rfl
@[simp] theorem State.withRows_elapsed (s : State) (m : SMap TcamRow) : (s.withRows m).elapsed = s.elapsed := rfl
@[simp] theorem State.withRows_freeCtr (s : State) (m : SMap TcamRow) : (s.withRows m).freeCtr = s.freeCtr := rfl
@[simp] theorem State.withRows_regs (s : State) (m : SMap TcamRow) : (s.withRows m).regs = s.regs := rfl
@[simp] theorem State.withRows_nvm (s : State) (m : SMap TcamRow) : (s.withRows m).nvm = s.nvm := rfl
@[simp] theorem State.withRows_nvmCount (s : State) (m : SMap TcamRow) : (s.withRows m).nvmCount = s.nvmCount := rfl
@[simp] theorem State.withRows_nvmJob (s : State) (m : SMap TcamRow) : (s.withRows m).nvmJob = s.nvmJob := rfl
@[simp] theorem State.withRows_image (s : State) (m : SMap TcamRow) : (s.withRows m).image = s.image := rfl
@[simp] theorem State.withRows_swap (s : State) (m : SMap TcamRow) : (s.withRows m).swap = s.swap := rfl
@[simp] theorem State.withRows_handover (s : State) (m : SMap TcamRow) : (s.withRows m).handover = s.handover := rfl
@[simp] theorem State.withRows_pins (s : State) (m : SMap TcamRow) : (s.withRows m).pins = s.pins := rfl
@[simp] theorem State.withRows_boot (s : State) (m : SMap TcamRow) : (s.withRows m).boot = s.boot := rfl
@[simp] theorem State.withRows_sundew (s : State) (m : SMap TcamRow) : (s.withRows m).sundew = s.sundew := rfl
@[simp] theorem State.withRows_host (s : State) (m : SMap TcamRow) : (s.withRows m).host = s.host := rfl
@[simp] theorem State.withRows_clocks (s : State) (m : SMap TcamRow) : (s.withRows m).clocks = s.clocks := rfl
@[simp] theorem State.withRows_optics (s : State) (m : SMap TcamRow) : (s.withRows m).optics = s.optics := rfl
@[simp] theorem State.withRows_time (s : State) (m : SMap TcamRow) : (s.withRows m).time = s.time := rfl
@[simp] theorem State.withRows_exm (s : State) (m : SMap TcamRow) : (s.withRows m).exm = s.exm := rfl
@[simp] theorem State.withRows_path (s : State) (m : SMap TcamRow) : (s.withRows m).path = s.path := rfl
@[simp] theorem State.withRows_tables (s : State) (m : SMap TcamRow) : (s.withRows m).tables = s.tables := rfl
@[simp] theorem State.withRows_gates (s : State) (m : SMap TcamRow) : (s.withRows m).gates = s.gates := rfl
@[simp] theorem State.withRows_keys (s : State) (m : SMap TcamRow) : (s.withRows m).keys = s.keys := rfl
@[simp] theorem State.withRows_drams (s : State) (m : SMap TcamRow) : (s.withRows m).drams = s.drams := rfl
@[simp] theorem State.withRows_tue (s : State) (m : SMap TcamRow) : (s.withRows m).tue = s.tue := rfl
@[simp] theorem State.withRows_probes (s : State) (m : SMap TcamRow) : (s.withRows m).probes = s.probes := rfl
@[simp] theorem State.withRows_out (s : State) (m : SMap TcamRow) : (s.withRows m).out = s.out := rfl
@[simp] theorem State.withRows_pending (s : State) (m : SMap TcamRow) : (s.withRows m).pending = s.pending := rfl

/-! ## What withWindow leaves alone -/

@[simp] theorem State.get_withWindow (s : State) (i q : Nat) (w : Window) (g : Field) (j : Nat) : (s.withWindow i q w).get g j = s.get g j := rfl
@[simp] theorem State.withWindow_variant (s : State) (i q : Nat) (w : Window) : (s.withWindow i q w).variant = s.variant := rfl
@[simp] theorem State.withWindow_elapsed (s : State) (i q : Nat) (w : Window) : (s.withWindow i q w).elapsed = s.elapsed := rfl
@[simp] theorem State.withWindow_freeCtr (s : State) (i q : Nat) (w : Window) : (s.withWindow i q w).freeCtr = s.freeCtr := rfl
@[simp] theorem State.withWindow_regs (s : State) (i q : Nat) (w : Window) : (s.withWindow i q w).regs = s.regs := rfl
@[simp] theorem State.withWindow_nvm (s : State) (i q : Nat) (w : Window) : (s.withWindow i q w).nvm = s.nvm := rfl
@[simp] theorem State.withWindow_nvmCount (s : State) (i q : Nat) (w : Window) : (s.withWindow i q w).nvmCount = s.nvmCount := rfl
@[simp] theorem State.withWindow_nvmJob (s : State) (i q : Nat) (w : Window) : (s.withWindow i q w).nvmJob = s.nvmJob := rfl
@[simp] theorem State.withWindow_image (s : State) (i q : Nat) (w : Window) : (s.withWindow i q w).image = s.image := rfl
@[simp] theorem State.withWindow_swap (s : State) (i q : Nat) (w : Window) : (s.withWindow i q w).swap = s.swap := rfl
@[simp] theorem State.withWindow_handover (s : State) (i q : Nat) (w : Window) : (s.withWindow i q w).handover = s.handover := rfl
@[simp] theorem State.withWindow_pins (s : State) (i q : Nat) (w : Window) : (s.withWindow i q w).pins = s.pins := rfl
@[simp] theorem State.withWindow_boot (s : State) (i q : Nat) (w : Window) : (s.withWindow i q w).boot = s.boot := rfl
@[simp] theorem State.withWindow_sundew (s : State) (i q : Nat) (w : Window) : (s.withWindow i q w).sundew = s.sundew := rfl
@[simp] theorem State.withWindow_host (s : State) (i q : Nat) (w : Window) : (s.withWindow i q w).host = s.host := rfl
@[simp] theorem State.withWindow_clocks (s : State) (i q : Nat) (w : Window) : (s.withWindow i q w).clocks = s.clocks := rfl
@[simp] theorem State.withWindow_optics (s : State) (i q : Nat) (w : Window) : (s.withWindow i q w).optics = s.optics := rfl
@[simp] theorem State.withWindow_time (s : State) (i q : Nat) (w : Window) : (s.withWindow i q w).time = s.time := rfl
@[simp] theorem State.withWindow_exm (s : State) (i q : Nat) (w : Window) : (s.withWindow i q w).exm = s.exm := rfl
@[simp] theorem State.withWindow_path (s : State) (i q : Nat) (w : Window) : (s.withWindow i q w).path = s.path := rfl
@[simp] theorem State.withWindow_tcam (s : State) (i q : Nat) (w : Window) : (s.withWindow i q w).tcam = s.tcam := rfl
@[simp] theorem State.withWindow_gates (s : State) (i q : Nat) (w : Window) : (s.withWindow i q w).gates = s.gates := rfl
@[simp] theorem State.withWindow_keys (s : State) (i q : Nat) (w : Window) : (s.withWindow i q w).keys = s.keys := rfl
@[simp] theorem State.withWindow_drams (s : State) (i q : Nat) (w : Window) : (s.withWindow i q w).drams = s.drams := rfl
@[simp] theorem State.withWindow_tue (s : State) (i q : Nat) (w : Window) : (s.withWindow i q w).tue = s.tue := rfl
@[simp] theorem State.withWindow_probes (s : State) (i q : Nat) (w : Window) : (s.withWindow i q w).probes = s.probes := rfl
@[simp] theorem State.withWindow_out (s : State) (i q : Nat) (w : Window) : (s.withWindow i q w).out = s.out := rfl
@[simp] theorem State.withWindow_pending (s : State) (i q : Nat) (w : Window) : (s.withWindow i q w).pending = s.pending := rfl

/-! ## What withRing leaves alone -/

@[simp] theorem State.get_withRing (s : State) (i : Nat) (f : HostRing → HostRing) (g : Field) (j : Nat) : (s.withRing i f).get g j = s.get g j := rfl
@[simp] theorem State.withRing_variant (s : State) (i : Nat) (f : HostRing → HostRing) : (s.withRing i f).variant = s.variant := rfl
@[simp] theorem State.withRing_elapsed (s : State) (i : Nat) (f : HostRing → HostRing) : (s.withRing i f).elapsed = s.elapsed := rfl
@[simp] theorem State.withRing_freeCtr (s : State) (i : Nat) (f : HostRing → HostRing) : (s.withRing i f).freeCtr = s.freeCtr := rfl
@[simp] theorem State.withRing_regs (s : State) (i : Nat) (f : HostRing → HostRing) : (s.withRing i f).regs = s.regs := rfl
@[simp] theorem State.withRing_nvm (s : State) (i : Nat) (f : HostRing → HostRing) : (s.withRing i f).nvm = s.nvm := rfl
@[simp] theorem State.withRing_nvmCount (s : State) (i : Nat) (f : HostRing → HostRing) : (s.withRing i f).nvmCount = s.nvmCount := rfl
@[simp] theorem State.withRing_nvmJob (s : State) (i : Nat) (f : HostRing → HostRing) : (s.withRing i f).nvmJob = s.nvmJob := rfl
@[simp] theorem State.withRing_image (s : State) (i : Nat) (f : HostRing → HostRing) : (s.withRing i f).image = s.image := rfl
@[simp] theorem State.withRing_swap (s : State) (i : Nat) (f : HostRing → HostRing) : (s.withRing i f).swap = s.swap := rfl
@[simp] theorem State.withRing_handover (s : State) (i : Nat) (f : HostRing → HostRing) : (s.withRing i f).handover = s.handover := rfl
@[simp] theorem State.withRing_pins (s : State) (i : Nat) (f : HostRing → HostRing) : (s.withRing i f).pins = s.pins := rfl
@[simp] theorem State.withRing_boot (s : State) (i : Nat) (f : HostRing → HostRing) : (s.withRing i f).boot = s.boot := rfl
@[simp] theorem State.withRing_sundew (s : State) (i : Nat) (f : HostRing → HostRing) : (s.withRing i f).sundew = s.sundew := rfl
@[simp] theorem State.withRing_clocks (s : State) (i : Nat) (f : HostRing → HostRing) : (s.withRing i f).clocks = s.clocks := rfl
@[simp] theorem State.withRing_optics (s : State) (i : Nat) (f : HostRing → HostRing) : (s.withRing i f).optics = s.optics := rfl
@[simp] theorem State.withRing_time (s : State) (i : Nat) (f : HostRing → HostRing) : (s.withRing i f).time = s.time := rfl
@[simp] theorem State.withRing_exm (s : State) (i : Nat) (f : HostRing → HostRing) : (s.withRing i f).exm = s.exm := rfl
@[simp] theorem State.withRing_path (s : State) (i : Nat) (f : HostRing → HostRing) : (s.withRing i f).path = s.path := rfl
@[simp] theorem State.withRing_tcam (s : State) (i : Nat) (f : HostRing → HostRing) : (s.withRing i f).tcam = s.tcam := rfl
@[simp] theorem State.withRing_tables (s : State) (i : Nat) (f : HostRing → HostRing) : (s.withRing i f).tables = s.tables := rfl
@[simp] theorem State.withRing_gates (s : State) (i : Nat) (f : HostRing → HostRing) : (s.withRing i f).gates = s.gates := rfl
@[simp] theorem State.withRing_keys (s : State) (i : Nat) (f : HostRing → HostRing) : (s.withRing i f).keys = s.keys := rfl
@[simp] theorem State.withRing_drams (s : State) (i : Nat) (f : HostRing → HostRing) : (s.withRing i f).drams = s.drams := rfl
@[simp] theorem State.withRing_tue (s : State) (i : Nat) (f : HostRing → HostRing) : (s.withRing i f).tue = s.tue := rfl
@[simp] theorem State.withRing_probes (s : State) (i : Nat) (f : HostRing → HostRing) : (s.withRing i f).probes = s.probes := rfl
@[simp] theorem State.withRing_out (s : State) (i : Nat) (f : HostRing → HostRing) : (s.withRing i f).out = s.out := rfl
@[simp] theorem State.withRing_pending (s : State) (i : Nat) (f : HostRing → HostRing) : (s.withRing i f).pending = s.pending := rfl

/-! ## What withSleep leaves alone -/

@[simp] theorem State.withSleep_variant (s : State) (t : Nat) (x : TileSleep) : (s.withSleep t x).variant = s.variant := rfl
@[simp] theorem State.withSleep_elapsed (s : State) (t : Nat) (x : TileSleep) : (s.withSleep t x).elapsed = s.elapsed := rfl
@[simp] theorem State.withSleep_freeCtr (s : State) (t : Nat) (x : TileSleep) : (s.withSleep t x).freeCtr = s.freeCtr := rfl
@[simp] theorem State.withSleep_regs (s : State) (t : Nat) (x : TileSleep) : (s.withSleep t x).regs = s.regs := rfl
@[simp] theorem State.withSleep_nvm (s : State) (t : Nat) (x : TileSleep) : (s.withSleep t x).nvm = s.nvm := rfl
@[simp] theorem State.withSleep_nvmCount (s : State) (t : Nat) (x : TileSleep) : (s.withSleep t x).nvmCount = s.nvmCount := rfl
@[simp] theorem State.withSleep_nvmJob (s : State) (t : Nat) (x : TileSleep) : (s.withSleep t x).nvmJob = s.nvmJob := rfl
@[simp] theorem State.withSleep_image (s : State) (t : Nat) (x : TileSleep) : (s.withSleep t x).image = s.image := rfl
@[simp] theorem State.withSleep_swap (s : State) (t : Nat) (x : TileSleep) : (s.withSleep t x).swap = s.swap := rfl
@[simp] theorem State.withSleep_handover (s : State) (t : Nat) (x : TileSleep) : (s.withSleep t x).handover = s.handover := rfl
@[simp] theorem State.withSleep_pins (s : State) (t : Nat) (x : TileSleep) : (s.withSleep t x).pins = s.pins := rfl
@[simp] theorem State.withSleep_boot (s : State) (t : Nat) (x : TileSleep) : (s.withSleep t x).boot = s.boot := rfl
@[simp] theorem State.withSleep_sundew (s : State) (t : Nat) (x : TileSleep) : (s.withSleep t x).sundew = s.sundew := rfl
@[simp] theorem State.withSleep_host (s : State) (t : Nat) (x : TileSleep) : (s.withSleep t x).host = s.host := rfl
@[simp] theorem State.withSleep_optics (s : State) (t : Nat) (x : TileSleep) : (s.withSleep t x).optics = s.optics := rfl
@[simp] theorem State.withSleep_time (s : State) (t : Nat) (x : TileSleep) : (s.withSleep t x).time = s.time := rfl
@[simp] theorem State.withSleep_exm (s : State) (t : Nat) (x : TileSleep) : (s.withSleep t x).exm = s.exm := rfl
@[simp] theorem State.withSleep_path (s : State) (t : Nat) (x : TileSleep) : (s.withSleep t x).path = s.path := rfl
@[simp] theorem State.withSleep_tcam (s : State) (t : Nat) (x : TileSleep) : (s.withSleep t x).tcam = s.tcam := rfl
@[simp] theorem State.withSleep_tables (s : State) (t : Nat) (x : TileSleep) : (s.withSleep t x).tables = s.tables := rfl
@[simp] theorem State.withSleep_gates (s : State) (t : Nat) (x : TileSleep) : (s.withSleep t x).gates = s.gates := rfl
@[simp] theorem State.withSleep_keys (s : State) (t : Nat) (x : TileSleep) : (s.withSleep t x).keys = s.keys := rfl
@[simp] theorem State.withSleep_drams (s : State) (t : Nat) (x : TileSleep) : (s.withSleep t x).drams = s.drams := rfl
@[simp] theorem State.withSleep_tue (s : State) (t : Nat) (x : TileSleep) : (s.withSleep t x).tue = s.tue := rfl
@[simp] theorem State.withSleep_probes (s : State) (t : Nat) (x : TileSleep) : (s.withSleep t x).probes = s.probes := rfl
@[simp] theorem State.withSleep_out (s : State) (t : Nat) (x : TileSleep) : (s.withSleep t x).out = s.out := rfl
@[simp] theorem State.withSleep_pending (s : State) (t : Nat) (x : TileSleep) : (s.withSleep t x).pending = s.pending := rfl

/-! ## What withOwed leaves alone -/

@[simp] theorem State.get_withOwed (s : State) (r n : Nat) (g : Field) (j : Nat) : (s.withOwed r n).get g j = s.get g j := rfl
@[simp] theorem State.withOwed_variant (s : State) (r n : Nat) : (s.withOwed r n).variant = s.variant := rfl
@[simp] theorem State.withOwed_elapsed (s : State) (r n : Nat) : (s.withOwed r n).elapsed = s.elapsed := rfl
@[simp] theorem State.withOwed_freeCtr (s : State) (r n : Nat) : (s.withOwed r n).freeCtr = s.freeCtr := rfl
@[simp] theorem State.withOwed_regs (s : State) (r n : Nat) : (s.withOwed r n).regs = s.regs := rfl
@[simp] theorem State.withOwed_nvm (s : State) (r n : Nat) : (s.withOwed r n).nvm = s.nvm := rfl
@[simp] theorem State.withOwed_nvmCount (s : State) (r n : Nat) : (s.withOwed r n).nvmCount = s.nvmCount := rfl
@[simp] theorem State.withOwed_nvmJob (s : State) (r n : Nat) : (s.withOwed r n).nvmJob = s.nvmJob := rfl
@[simp] theorem State.withOwed_image (s : State) (r n : Nat) : (s.withOwed r n).image = s.image := rfl
@[simp] theorem State.withOwed_swap (s : State) (r n : Nat) : (s.withOwed r n).swap = s.swap := rfl
@[simp] theorem State.withOwed_handover (s : State) (r n : Nat) : (s.withOwed r n).handover = s.handover := rfl
@[simp] theorem State.withOwed_pins (s : State) (r n : Nat) : (s.withOwed r n).pins = s.pins := rfl
@[simp] theorem State.withOwed_boot (s : State) (r n : Nat) : (s.withOwed r n).boot = s.boot := rfl
@[simp] theorem State.withOwed_sundew (s : State) (r n : Nat) : (s.withOwed r n).sundew = s.sundew := rfl
@[simp] theorem State.withOwed_host (s : State) (r n : Nat) : (s.withOwed r n).host = s.host := rfl
@[simp] theorem State.withOwed_clocks (s : State) (r n : Nat) : (s.withOwed r n).clocks = s.clocks := rfl
@[simp] theorem State.withOwed_optics (s : State) (r n : Nat) : (s.withOwed r n).optics = s.optics := rfl
@[simp] theorem State.withOwed_time (s : State) (r n : Nat) : (s.withOwed r n).time = s.time := rfl
@[simp] theorem State.withOwed_exm (s : State) (r n : Nat) : (s.withOwed r n).exm = s.exm := rfl
@[simp] theorem State.withOwed_path (s : State) (r n : Nat) : (s.withOwed r n).path = s.path := rfl
@[simp] theorem State.withOwed_tcam (s : State) (r n : Nat) : (s.withOwed r n).tcam = s.tcam := rfl
@[simp] theorem State.withOwed_tables (s : State) (r n : Nat) : (s.withOwed r n).tables = s.tables := rfl
@[simp] theorem State.withOwed_gates (s : State) (r n : Nat) : (s.withOwed r n).gates = s.gates := rfl
@[simp] theorem State.withOwed_keys (s : State) (r n : Nat) : (s.withOwed r n).keys = s.keys := rfl
@[simp] theorem State.withOwed_drams (s : State) (r n : Nat) : (s.withOwed r n).drams = s.drams := rfl
@[simp] theorem State.withOwed_probes (s : State) (r n : Nat) : (s.withOwed r n).probes = s.probes := rfl
@[simp] theorem State.withOwed_out (s : State) (r n : Nat) : (s.withOwed r n).out = s.out := rfl
@[simp] theorem State.withOwed_pending (s : State) (r n : Nat) : (s.withOwed r n).pending = s.pending := rfl

end Sys2Proof.Machine
end

