-- ==== Sys2Proof/Machine/Lands.lean ====
section
/-! DEFINITION. What the module drives on its output lands (Table 22.6, R521, R527, R542, R546, R549). -/

namespace Sys2Proof.Machine

/-- An output land that is no serial lane. -/
inductive Land where
  | vid (quadrant bit : Nat) | mfp (k : Nat) | tdo | intN (k : Nat) | thermTripN
  deriving DecidableEq, Repr

/-- What stands on an output land: a level, nothing where the module releases it, or what the pin's function sends (State.out). -/
inductive Level where
  | low | high | released | function
  deriving DecidableEq, Repr

/-- A bit as a level. -/
def Level.ofBit (b : Bool) : Level := if b then .high else .low

/-- A line that is open drain: low where it is asserted, else released. -/
def Level.openDrain (asserted : Bool) : Level := if asserted then .low else .released

/-- Open-drain lands, which lie outside the boundary scan of the CMOS pins (R527, Table 22.6). -/
def Land.openDrain : Land → Bool
  | .intN _ => true
  | .thermTripN => true
  | _ => false

/-- A number for a land in the boundary register. -/
def Land.number : Land → Nat
  | .vid q b => 2 * q + b
  | .mfp k => 8 + k
  | .tdo => 16
  | .intN k => 17 + k
  | .thermTripN => 19

/-- An MFP pin: an output of its function, low until the function is enabled, else an input (R546, Table 22.6). -/
def State.mfpLevel (s : State) (k : Nat) : Level :=
  match SMap.find s.layers.pins k with
  | none => .released
  | some fn =>
    if s.handover.floating.contains k then .released
    else if fn = pinPpsOut then (if s.on F.TIM_PPS_OUT_EN 0 then .function else .low)
    else if fn = pinTodOut then (if s.on F.TIM_TOD_OUT_EN 0 then .function else .low)
    else .released

/-- What the module's own logic puts on a land. -/
def State.ownLevel (s : State) : Land → Level
  | .vid q b => Level.ofBit (bitOf (SMap.findD s.pins.vid q 2) b)
  | .mfp k => s.mfpLevel k
  | .tdo => if s.out.tdo.isSome then .function else .released
  | .intN k => Level.openDrain (if k = 0 then s.intN0 else s.intN1)
  | .thermTripN => Level.openDrain s.pins.thermTrip

/-- What stands on a land: while POR_N is low every output is released but the VID codes; EXTEST and CLAMP drive the CMOS pins from the boundary register, and HIGHZ releases every output but TDO, a pin of the TAP (R527, R542, R546; log 101). -/
def State.land (s : State) (l : Land) : Level :=
  match s.pins.humPower, s.pins.porLow, l with
  | false, _, _ => .released
  | true, true, .vid q b => s.ownLevel (.vid q b)
  | true, true, _ => .released
  | true, false, l =>
    if s.pins.tap = .highz ∧ l ≠ .tdo then .released
    else if (s.pins.tap = .extest ∨ s.pins.tap = .clamp) ∧ l.openDrain = false ∧ l ≠ .tdo then
      Level.ofBit (bitOf s.pins.boundary (Config.boundaryCell l.number))
    else s.ownLevel l

end Sys2Proof.Machine
end

