-- ==== Sys2Proof/Tests/Slice0.lean ====
section
/-! SUPPORT. Tests: each clause of the statements is met by a concrete state on which the command does what the clause says, and WellFormed refuses an ill-formed term for each of its checks. -/

namespace Sys2Proof.Tests

open Sys2Proof.Machine

set_option Elab.async false

/-- A command answers a next state of which P holds. -/
def ok (c : Instr) (s : State) (P : State → Bool) : Bool :=
  match exec c s with
  | .next t => P t
  | _ => false

/-- A command answers exactly this state. -/
def is (c : Instr) (s t : State) : Bool := ok c s fun u => decide (u = t)

/-- A state with some register fields set. -/
def put (s : State) (l : List (Field × Nat × Nat)) : State := l.foldl (fun s x => s.set x.1 x.2.1 x.2.2) s

/-- The layers of the test image: ring ports 0 and 4, ports 16 and 17, one table of each kind used, regions, pools, gates, slots. -/
def labLayers : Layers where
  fabric := [⟨0, 4, 0, 0, 1518, false⟩, ⟨4, 4, 0, 0, 1518, false⟩, ⟨16, 1, 0, 0, 1518, false⟩, ⟨17, 1, 0, 0, 1518, false⟩]
  tables := [(0, ⟨.fdb, false, 0, 1, 0x1021, 1, 0x8005, 2, true, true, 1000⟩), (1, ⟨.hostRoute, true, 2, 1, 0x1021, 1, 0x8005, 2, true, false, 1000⟩)]
  search := { lpmRows := 16, regions := [(0, ⟨.acl, false, 16, 16⟩), (1, ⟨.stream, false, 32, 16⟩)], stageOrder := [.fdb] }
  buffer := { poolSize := [(0, 2048), (3, 2048)], poolCount := [(0, 8), (3, 8)], share := [(0, 64), (4, 1)] }
  time := { portUnit := [(16, 16)], streamUnit := [(0, 0)], gateListLen := [(16, 8)], tsfShare := [(16, 4)] }
  secure := [⟨0, 8, 1⟩]
  ring := [(0, ⟨true, 1, 1, 0x88B5⟩)]
  rewrite := { split := [(1, (0, 16))] }
  host := { owner := [(0, 0), (32, 0)], queues := [(0, [0, 1])] }
  pins := [(0, 1), (1, 2), (2, 3), (3, 4), (4, 5), (5, 6)]

/-- A booted module with the test image. -/
def lab : State :=
  let image := { State.reset.image with serial := 7, source := .slotA, layers := labLayers }
  let pins := { State.reset.pins with porLow := false }
  let boot := { State.reset.boot with cold := false }
  let s : State := { State.reset with pins := pins, boot := boot, image := image }
  (s.set F.TOP_BOOT_READY 0 1).set F.TOP_BOOT_STEP 0 9

/-- Findings of a boot that meets nothing wrong. -/
def good : BootFindings := {}

/-- Caddis takes a command: the parts of mailReady. -/
def ready (s : State) (op tag : Nat) (args : List Nat) : Bool :=
  s.caddisUp && (s.mailBegin op tag args).mailRoom && decide ((s.mailBegin op tag args).mailRefusal op args = none)

/-- The FIFO holds this response. -/
def said (t : State) (op tag status result : Nat) : Bool := t.host.resp.any fun r => r.opcode == op && r.tag == tag && r.status == status && r.result == result

/-! ## The machine as a whole -/

/-- The front of the queue runs with the rest, and an empty queue is one tick. -/
theorem test_step : step { lab with pending := [.caddisSleep, .caddisWake] } = exec .caddisSleep { lab with pending := [.caddisWake] } ∧
    (match step lab with
      | .next t => t.elapsed == 64 && t.pending == [] && t.time.master == 64 * 2 ^ 32 && t.time.phase == 1
      | _ => false) = true := ⟨rfl, by decide +kernel⟩

theorem test_resetField : R.BUF_PROFILE_ADM ∈ regs8 ∧ F.BUF_PROFILE_ADM_LIMIT ∈ R.BUF_PROFILE_ADM.fields ∧ F.BUF_PROFILE_ADM_LIMIT.reset = .num 65536 ∧
    State.reset.get F.BUF_PROFILE_ADM_LIMIT 3 = 65536 := by decide +kernel

/-- A store of one line into region 3 is in progress and its end comes next. -/
def storing : State := { lab with nvmJob := some (.store 5 3 false [(0x1100000, List.replicate 64 7)]), pending := [.nvmStoreDone ⟨none, {}⟩] }

/-- It meets the invariant of the store, and its step writes NVM. -/
theorem test_storing : storing.nvmSound ∧ (match step storing with
    | .next t => Mem.read t.nvm 0x1100000 != Mem.read storing.nvm 0x1100000 && Mem.wf t.nvm
    | _ => false) = true := by
  refine ⟨⟨⟨by decide +kernel, by decide +kernel⟩, ?_, by decide +kernel⟩, by decide +kernel⟩
  intro tag r h lines e
  obtain ⟨-, rfl, -, rfl⟩ : 5 = tag ∧ 3 = r ∧ false = h ∧ [(0x1100000, List.replicate 64 7)] = lines := by simpa [storing] using e
  decide +kernel

/-- A command leaves the queue, the time and TOP_BOOT as they are, a register write among them. -/
theorem test_writers : let s := { lab with pending := [.caddisWake] }
    let c : Instr := .registerWrite (.bar0 R.FLT_CAP_SEL.base) 8 1
    bootRow s c = false ∧ ok c s (fun t => t.pending == s.pending && t.variant == s.variant && t.elapsed == s.elapsed && t.time == s.time &&
      R.TOP_BOOT.fields.all (fun f => t.get f 0 == s.get f 0) && t.regs != s.regs) = true := by decide +kernel

/-! ## Power and resets -/

theorem test_vddHumInRange :
    let s : State := { State.reset with pins := { State.reset.pins with humPower := false } }
    is .vddHumInRange s { s with pins := { s.pins with humPower := true, vid := [], thermTrip := false } } = true := by decide +kernel

theorem test_supplyLoss : ok (.supplyLoss 0) lab (fun t => !t.pins.humPower && t.regs == [] && t.keys == [] && t.pending == lab.pending) = true := by
  decide +kernel

theorem test_porAssert : lab.pins.porLow = false ∧ ok .porAssert lab (fun t => t.pins.porLow && t.regs == [] && t.keys == []) = true := by
  decide +kernel

theorem test_porRelease : State.reset.pins.held = false ∧
    ok (.porRelease good) State.reset (fun t => t.get F.TOP_BOOT_READY 0 == 1 && t.get F.TOP_BOOT_STEP 0 == 9) = true := by decide +kernel

theorem test_porRelease_rail :
    ok (.porRelease { railMissing := 1 }) State.reset (fun t => t.get F.TOP_BOOT_HALT 0 == 1 && t.get F.TOP_BOOT_HALT_CODE 0 == 3) = true := by
  decide +kernel

theorem test_porRelease_rom :
    ok (.porRelease { romOk := false }) State.reset (fun t => t.get F.TOP_BOOT_HALT 0 == 1 && t.get F.TOP_BOOT_HALT_CODE 0 == 1) = true := by
  decide +kernel

theorem test_resetNAssert :
    ok .resetNAssert lab (fun t => t.pins.resetLow && t.keys == [] && t.get F.TOP_BOOT_READY 0 == 0) = true := by
  decide +kernel

theorem test_resetNRelease : let s := { lab with pins := { lab.pins with resetLow := true } }
    ok (.resetNRelease good) s (fun t => !t.pins.resetLow && t.get F.TOP_BOOT_READY 0 == 1 && t.get F.TOP_BOOT_STEP 0 == 9) = true := by decide +kernel

theorem test_warmResetCmd : bits 0xA55A000000000001 48 16 = 0xA55A ∧
    ok (.warmResetCmd 0xA55A000000000001 good) lab (fun t => t.get F.TOP_BOOT_READY 0 == 1 && t.get F.TOP_RESET_CAUSE_WARM_COUNT 0 == 1) = true := by
  decide +kernel

theorem test_warmResetCmd_key : is (.warmResetCmd 0xA55B000000000001 good) lab lab = true ∧ is (.quadrantReset 0x2 good) lab lab = true ∧
    is (.tileReset 0x3 good) lab lab = true ∧ is (.drcReset 0x4 good) lab lab = true := by decide +kernel

/-- A module with something in quadrant 0 and tile 1 for a reset to clear: a link, counters, frames, windows, rows, gates and a key. -/
def full : State := { put lab [(F.PRT_STATUS_LINK_UP, 16, 1), (F.PRT_CNT_COUNT, 64 * 16 + 3, 7), (F.PRT_LINK_HOLD_HOLD_US, 16, 9), (F.PRT_EVENT_LINK_UP, 16, 1)] with
  path := { lab.path with queues := [(768, [default]), (24576, [default])], staging := [(16, [default])] }
  tables := { lab.tables with windows := [(4, default), (5, default)] }
  tcam := { lab.tcam with rows := [(5, default), (16, default), (rowKey 1 5, { (default : TcamRow) with value := 9 }), (rowKey 1 70, default)] }
  gates := [(16, ⟨some ⟨[1], 0, 1000, false⟩, none⟩)], keys := [(0, { (default : KeySlot) with stagedKey := 5 })]
  boot := { lab.boot with param := [(R.PRT_LINK_HOLD.offset 16, 250)] } }

/-- A quadrant reset clears its column of Table 3.4 and reads as ones until it returns; the registers are then at reset or as PARAM has them. -/
theorem test_quadrantReset : ok (.quadrantReset 0xA55A000000000002 good) full (fun t => t.queue 768 == [] && t.queue 24576 == [] && t.staged 16 == [] &&
      t.get F.PRT_STATUS_LINK_UP 16 == 0 && (SMap.find t.gates 16).isNone && (t.slot 0).stagedKey == 0 && t.csw 0 == 0 && t.tables.windows == [(5, default)] &&
      t.reach (R.PRT_CNT.offset 0) == .away && t.reach (R.PRT_CNT.offset (64 * 128)) == .served &&
      (let r := t.unitsBack
       r.boot.inReset == [] && r.get F.PRT_CNT_COUNT (64 * 16 + 3) == 0 && r.get F.PRT_LINK_HOLD_HOLD_US 16 == 250 && r.get F.PRT_EVENT_LINK_UP 16 == 1)) = true := by
  decide +kernel

/-- As it returns its replicated rows come from quadrant 1. -/
theorem test_quadrantReset_rows : SMap.wf full.tcam.rows = true ∧ full.regionQuads 0 16 = [0, 1, 2, 3] ∧ full.regionQuads 0 0 = [0] ∧ full.otherQuad 0 = some 1 ∧
    ok (.quadrantReset 0xA55A000000000002 good) full (fun t => let r := t.unitsBack
    (SMap.find r.tcam.rows 5).any (·.value == 9) && (SMap.find r.tcam.rows 16).isNone && (SMap.find r.tcam.rows (rowKey 1 70)).isSome &&
    r.exm.slots == full.exm.slots && r.nvm == full.nvm) = true := by decide +kernel

theorem test_quadrantReset_refused : let s := lab.set F.PTL_SWAP_BUSY 0 1
    is (.quadrantReset 0xA55A000000000302 good) s (s.evC F.TOP_RESET_CAUSE_REFUSED 0) = true ∧
      is (.tileReset 0xA55A000000001F03 good) s (s.evC F.TOP_RESET_CAUSE_REFUSED 0) = true := by decide +kernel

theorem test_tileReset :
    ok (.tileReset 0xA55A000000000103 good) full (fun t => t.gates == [] && t.queue 768 == [] && t.queue 24576 != [] && t.staged 16 == [] &&
      t.get F.PRT_STATUS_LINK_UP 16 == 0 && t.reach (R.PRT_CNT.offset (64 * 16)) == .away && t.reach (R.PRT_CNT.offset 0) == .served &&
      (let r := t.unitsBack
       r.get F.PRT_CNT_COUNT (64 * 16 + 3) == 0 && r.get F.PRT_LINK_HOLD_HOLD_US 16 == 250 && r.get F.PRT_EVENT_LINK_UP 16 == 1 &&
       r.time.unaligned.contains 1 && r.tables.windows == full.tables.windows && r.tcam.rows == full.tcam.rows)) = true := by decide +kernel

/-- A DRC in reset reads STATE resetting; as it returns a stack with a share trains, one without does not, one that fails is fenced; each loses its frames and records. -/
theorem test_drcReset : let s := { put full [(F.DRC_SHARE_COUNT_MIB, 0, 64), (F.DRC_FREEZE_0_CAUSE, 0, 2)] with
      drams := [(0, { (default : Stack) with ring := [(0, 1)] })] }
    s.railMissing 6 = false ∧ s.hasShare 0 = true ∧ s.hasShare 1 = false ∧
    ok (.drcReset 0xA55A000000000004 good) s (fun t => t.get F.DRC_STATUS_STATE 0 == 6 && bitOf (t.get F.TOP_CAPACITY_DEEP_OFFLINE 0) 0 &&
      t.get F.DRC_FREEZE_0_CAUSE 0 == 0 && (t.stack 0).ring == [] &&
      (let r := t.unitsBack
       r.get F.DRC_STATUS_STATE 0 == 2 && r.get F.TOP_CAPACITY_DEEP_OFFLINE 0 == 0 && r.gates == s.gates && r.keys == s.keys && r.get F.PRT_STATUS_LINK_UP 16 == 1)) = true ∧
    ok (.drcReset 0xA55A000000000104 good) s (fun t => t.unitsBack.get F.DRC_STATUS_STATE 1 == 3) = true ∧
    ok (.drcReset 0xA55A000000000004 { badStacks := [0] }) s (fun t => t.unitsBack.get F.DRC_STATUS_FENCED 0 == 1) = true := by decide +kernel

/-! ## Clocks, temperature and rails -/

theorem test_refclkLoss : ok .refclkLoss lab (fun t => !t.pins.refclk && t.get F.CLK_STATUS_REFCLK_LOSS 0 == 1 && t.get F.CLK_STATUS_HOLDOVER 0 == 1) = true := by
  decide +kernel

def dark : State := { put lab [(F.CLK_STATUS_HOLDOVER, 0, 1)] with pins := { lab.pins with refclk := false } }

theorem test_refclkReturn : ok .refclkReturn dark (fun t => t.pins.refclk) = true := by decide +kernel

/-- An exit from hibernate that came without REFCLK boots the module when REFCLK returns (R103). -/
theorem test_refclkReturn_hib : let s := { dark.set F.HUM_DEVICE_STATE_STATE 0 3 with clocks := { dark.clocks with hibWake := some (1, good) } }
    s.pins.held = false ∧ ok .refclkReturn s (fun t => t.pins.refclk && t.get F.TOP_BOOT_READY 0 == 1 && t.get F.TOP_BOOT_STEP 0 == 9 &&
      t.get F.HUM_DEVICE_STATE_LAST_EXIT 0 == 1) = true := by decide +kernel

theorem test_holdoverExpiry : dark.get F.CLK_STATUS_HOLDOVER 0 = 1 ∧
    ok .holdoverExpiry dark (fun t => t.get F.CLK_STATUS_HOLDOVER_EXPIRED 0 == 1) = true := by decide +kernel

theorem test_clockRelock : let s := lab.set F.CLK_STATUS_HOLDOVER 0 1
    is .clockRelock s ({ s with clocks := { s.clocks with heldOff := false } }.set F.CLK_STATUS_HOLDOVER 0 0) = true := by decide +kernel

theorem test_railSkew : ok (.railSkew 3) lab (fun t => bitOf (t.get F.CLK_STATUS_RAIL_SKEW 0) 3 && (SMap.find t.sundew.caps 1).isSome) = true := by
  decide +kernel

theorem test_thermTrip : let s := lab.set F.HUM_TEMP_TJ 2 920
    s.tooHot = true ∧ ok .thermTrip s (fun t => t.pins.thermTrip && (SMap.find t.sundew.caps 1).isSome) = true := by decide +kernel

theorem test_thermalSample : let l : List Int := [400, 401, -8, 0, 300, 300, 300, 301, 1, 2, 3, 4, -16, -17, -18, -19]
    ok (.thermalSample l) lab (fun t => t.get F.HUM_TEMP_TJ 0 == 401 && t.get F.HUM_TEMP_TJ 3 == 2032) = true := by decide +kernel

theorem test_clkQctrlWrite : 0 ≤ lab.get F.CLK_QCTRL_FLOOR 1 ∧ ok (.clkQctrlWrite 1 (400 * 256)) lab (fun t =>
    t.get F.CLK_QCTRL_POINT 1 == 0 && t.get F.CLK_QCTRL_VID_SETTLE 1 == 400) = true := by decide +kernel

theorem test_clkQctrlWrite_floor : let s := lab.set F.CLK_QCTRL_FLOOR 1 0
    s.get F.CLK_QCTRL_FLOOR 1 < 1 ∧ ok (.clkQctrlWrite 1 (1 + 2 * 256)) s (fun t =>
    t.get F.CLK_QCTRL_POINT 1 == lab.get F.CLK_QCTRL_POINT 1 && t.get F.CLK_QCTRL_VID_SETTLE 1 == 10 && t.get F.CLK_STATUS_DVFS_REFUSED 0 == 1) = true := by
  decide +kernel

theorem test_clkQctrlWrite_busy : let s := lab.set F.CLK_QCTRL_CHANGING 1 1
    is (.clkQctrlWrite 1 0) s (s.evC F.CLK_STATUS_DVFS_REFUSED 0) = true := by decide +kernel

theorem test_vidSettleExpiry : let s := { put lab [(F.CLK_QCTRL_CHANGING, 1, 1)] with clocks := { lab.clocks with raising := [(1, 0)] } }
    SMap.find s.clocks.raising 1 = some 0 ∧
      ok (.vidSettleExpiry 1) s (fun t => t.get F.CLK_QCTRL_ACTUAL 1 == 0 && t.get F.CLK_QCTRL_CHANGING 1 == 0) = true := by decide +kernel

/-! ## Sleep -/

def idleLab : State := put lab [(F.PWQ_TILE_SLEEP_DOZE_IDLE, 1, 5), (F.PWQ_TILE_SLEEP_TORPOR_IDLE, 1, 5), (F.PWQ_PORT_SLEEP_TORPOR_OK, 16, 1), (F.PWQ_PORT_SLEEP_TORPOR_OK, 17, 1)]

theorem test_tileDozeEntry : idleLab.tileIdle 1 = true ∧ idleLab.gateWithin 1 2000 = false ∧ (idleLab.portsOf 1).all (fun p => idleLab.get F.PWQ_PORT_SLEEP_NO_DOZE p == 0) = true ∧
    is (.tileDozeEntry 1) idleLab (idleLab.set F.PWQ_TILE_SLEEP_STATE 1 1) = true := by decide +kernel

theorem test_tileTorporEntry : idleLab.torporAllowed 1 = true ∧
    is (.tileTorporEntry 1) idleLab (idleLab.set F.PWQ_TILE_SLEEP_STATE 1 3) = true := by decide +kernel

theorem test_torporEntered : ok (.torporEntered 1) (idleLab.set F.PWQ_TILE_SLEEP_STATE 1 3) (fun t => t.sleepOf 1 == 2) = true := by decide +kernel

/-- Of several sources the least that wakes the tile is recorded, whatever their order (R113). -/
theorem test_tileWake : let s := idleLab.set F.PWQ_TILE_SLEEP_STATE 1 2
    s.sourceWakes 1 8 = true ∧ s.sourceWakes 1 5 = true ∧
    ok (.tileWake 1 [8]) s (fun t => (t.tileSleep 1).waking == some 8 && t.get F.PWQ_TILE_SLEEP_LAST_WAKE 1 == 8 && t.sleepOf 1 == 2) = true ∧
    ok (.tileWake 1 [8, 5]) s (fun t => (t.tileSleep 1).waking == some 5 && t.get F.PWQ_TILE_SLEEP_LAST_WAKE 1 == 5) = true := by decide +kernel

theorem test_tileAwake : let s := { idleLab.set F.PWQ_TILE_SLEEP_STATE 1 1 with clocks := { lab.clocks with tiles := [(1, ⟨some 8, false⟩)] } }
    (s.tileSleep 1).waking = some 8 ∧ ok (.tileAwake 1) s (fun t => t.sleepOf 1 == 0 && (t.tileSleep 1).waking == none) = true := by decide +kernel

/-- A hold that has 2 µs left wakes no tile yet, and one that is due does (R111). -/
theorem test_timerPrewake : let s := put idleLab [(F.PWQ_TILE_SLEEP_STATE, 1, 1), (F.PRT_STATUS_HOLD, 17, 1)]
    s.timerWithin 1 1000 = true ∧ ok (.timerPrewake 1) s (fun t => (t.tileSleep 1).waking == some 6) = true ∧
    is (.timerPrewake 1) (s.withLive 17 fun l => { l with holdUntil := nsUnits 2000 }) (s.withLive 17 fun l => { l with holdUntil := nsUnits 2000 }) = true := by
  decide +kernel

/-- Sixteen on-periods of 1 µs with what lies between them, and the off-period after the last. -/
def rouse : List (Bool × Nat) := (List.replicate 16 [(true, 1000), (false, 1000)]).flatten

theorem test_rouseDetect : let s := put idleLab [(F.PWQ_TILE_SLEEP_STATE, 1, 2), (F.PRT_CFG_ADMIN_UP, 17, 1)]
    (s.portOfLane 17).isSome = true ∧ (s.rouseSeen ⟨17, rouse⟩).1 = true ∧ (s.rouseSeen ⟨17, rouse.take 31 ++ [(false, 1500)]⟩).1 = false ∧
    ok (.rouseDetect ⟨17, rouse⟩) s (fun t => (t.tileSleep 1).waking == some 3) = true := by decide +kernel

theorem test_darkToLight : let s := put idleLab [(F.PWQ_TILE_SLEEP_STATE, 1, 2), (F.PRT_CFG_ADMIN_UP, 17, 1), (F.PWQ_PORT_SLEEP_DARK_WAKE, 17, 1)]
    ok (.darkToLight ⟨17, 100000, 10000⟩) s (fun t => (t.tileSleep 1).waking == some 4) = true := by decide +kernel

theorem test_rouseTx : let s := { put lab [(F.PRT_CFG_ADMIN_UP, 16, 1), (F.OPT_STATUS_LASER_OK, 1, 3), (F.OPT_STATUS_CAL_DONE, 1, 1)] with clocks := { lab.clocks with rouse := [16] } }
    s.clocks.rouse.contains 16 = true ∧ s.portDark 16 = false ∧ s.laneLight 16 = true ∧ ok (.rouseTx 16) s (fun t => t.out.rouse == [16] && t.clocks.rouse == []) = true := by decide +kernel

theorem test_caddisSleep : lab.caddisIdle = true ∧ ok .caddisSleep lab (fun t => t.clocks.caddisAsleep) = true := by decide +kernel

theorem test_caddisWake : ok .caddisWake { lab with clocks := { lab.clocks with caddisAsleep := true } } (fun t => !t.clocks.caddisAsleep) = true := by
  decide +kernel

theorem test_sleepPolicy : ready lab 12 1 [0] = true ∧ ready lab 12 1 [3] = true ∧
    ok (.sleepPolicyFull 1) (lab.set F.HUM_DEVICE_STATE_STATE 0 1) (fun t => t.get F.HUM_DEVICE_STATE_STATE 0 == 0) = true ∧
    ok (.sleepPolicyLean 1) lab (fun t => t.get F.HUM_DEVICE_STATE_STATE 0 == 1) = true := by decide +kernel

theorem test_sleepPolicyStandby : ok (.sleepPolicyStandby 1) lab (fun t => t.get F.HUM_DEVICE_STATE_STATE 0 == 2) = true := by decide +kernel

theorem test_sleepPolicyHibernate : ok (.sleepPolicyHibernate 1) lab (fun t =>
    t.get F.HUM_DEVICE_STATE_STATE 0 == 3 && t.keys == [] && t.path.queues == [] && !t.pins.hostAllowed) = true := by decide +kernel

theorem test_hibernateExit : let s := put lab [(F.HUM_DEVICE_STATE_STATE, 0, 3), (F.HUM_HIB_WAKE_PPS_WAKE, 0, 1)]
    (s.exitCode .ppsIn).1 = some 3 ∧ ok (.hibernateExit .ppsIn good) s (fun t => t.get F.TOP_BOOT_READY 0 == 1 && t.get F.TOP_BOOT_STEP 0 == 9) = true := by
  decide +kernel

/-! ## Ports -/

/-- Port 16 up, ports 0 and 4 of the ring up, its laser fibres lit. -/
def lit : State := put lab [(F.PRT_CFG_ADMIN_UP, 16, 1), (F.PRT_CFG_ADMIN_UP, 17, 1), (F.PRT_STATUS_LINK_UP, 16, 1), (F.PRT_STATUS_LINK_UP, 0, 1),
  (F.PRT_STATUS_LINK_UP, 4, 1), (F.OPT_STATUS_LASER_OK, 0, 3), (F.OPT_STATUS_LASER_OK, 1, 3), (F.OPT_STATUS_CAL_DONE, 0, 1), (F.OPT_STATUS_CAL_DONE, 1, 1)]

theorem test_linkUp : (lit.port 17).all (lit.canLink 17) = true ∧ ok (.linkUp 17 9) lit (fun t =>
    t.get F.PRT_STATUS_LINK_UP 17 == 1 && t.get F.PRT_EVENT_LINK_UP 17 == 1 && !(t.live 17).flushing) = true := by decide +kernel

/-- The port goes down and starts its hold, which is over at once where it has no length (R139). -/
theorem test_linkDown : ok (.linkDown 16) (put lit [(F.PRT_LINK_HOLD_HOLD_US, 16, 50), (F.PRT_STATUS_RX_PAUSED, 16, 3)]) (fun t =>
      t.get F.PRT_STATUS_LINK_UP 16 == 0 && t.get F.PRT_EVENT_LINK_DOWN 16 == 1 && t.get F.PRT_STATUS_ACTIVE_WIDTH 16 == 0 &&
      t.get F.PRT_STATUS_RX_PAUSED 16 == 0 && t.get F.PRT_STATUS_HOLD 16 == 1 && (t.live 16).holdUntil == nsUnits 50000) = true ∧
    ok (.linkDown 16) (lit.set F.PRT_LINK_HOLD_HOLD_US 16 0) (fun t => t.get F.PRT_STATUS_HOLD 16 == 0 && t.get F.PRT_EVENT_HOLD_EXPIRED 16 == 1) = true := by
  decide +kernel

/-- Near-end loopback ignores what the port receives (R136). -/
theorem test_linkDown_loopback : let s := lit.set F.PRT_CFG_LOOPBACK 16 1
    is (.linkDown 16) s s = true := by decide +kernel

theorem test_holdExpiry : ok (.holdExpiry 17) (lit.set F.PRT_STATUS_HOLD 17 1) (fun t =>
    t.get F.PRT_STATUS_HOLD 17 == 0 && t.get F.PRT_EVENT_HOLD_EXPIRED 17 == 1 && (t.live 17).flushing) = true := by decide +kernel

theorem test_portAdminDown : is (.portAdminDown 17) lit ((lit.set F.PRT_CFG_ADMIN_UP 17 0).glowOff 17) = true ∧
    ok (.portAdminDown 16) lit (fun t => t.get F.PRT_CFG_ADMIN_UP 16 == 0 && t.get F.PRT_STATUS_LINK_UP 16 == 0 && t.get F.PRT_EVENT_LINK_DOWN 16 == 1 &&
      t.txSignal 16 16 == .dark) = true := by decide +kernel

theorem test_portAdminUp : let s := put lab [(F.PRT_LINK_HOLD_HOLD_US, 17, 50), (F.PRT_CFG_ADMIN_UP, 17, 0)]
    ok (.portAdminUp 17) s (fun t => t.get F.PRT_CFG_ADMIN_UP 17 == 1 && t.get F.PRT_STATUS_HOLD 17 == 1) = true ∧
    ok (.portAdminUp 17) (s.set F.PRT_LINK_HOLD_HOLD_US 17 0) (fun t =>
      t.get F.PRT_STATUS_HOLD 17 == 0 && t.get F.PRT_EVENT_HOLD_EXPIRED 17 == 1 && (t.live 17).flushing) = true ∧
    is (.portAdminUp 16) lit (lit.set F.PRT_CFG_ADMIN_UP 16 1) = true := by decide +kernel

/-- A lane is dark without laser light, without calibration, and in a torpid tile (R134, R170, R171). What a port that is down receives is a free value (log 46), so of its signal the hypotheses alone are met. -/
theorem test_txSignal : let s := lit.set F.PRT_STATUS_LINK_UP 16 0
    (put lit [(F.OPT_STATUS_LASER_OK, 1, 2)]).txSignal 16 16 = .dark ∧ (put lit [(F.OPT_STATUS_CAL_DONE, 1, 0)]).txSignal 16 16 = .dark ∧
    (put lit [(F.PWQ_TILE_SLEEP_STATE, 1, 2)]).txSignal 16 16 = .dark ∧
    s.laneDark 16 16 = false ∧ s.get F.PRT_STATUS_LINK_UP 16 = 0 ∧ s.get F.PRT_CFG_LOOPBACK 16 ≠ 1 := by decide +kernel

theorem test_loopbackChange : is (.loopbackChange 17 2) lit (lit.set F.PRT_CFG_LOOPBACK 17 2) = true ∧
    ok (.loopbackChange 16 1) lit (fun t => t.get F.PRT_EVENT_LINK_DOWN 16 == 1 && t.get F.PRT_CFG_LOOPBACK 16 == 1 && t.get F.PRT_STATUS_LINK_UP 16 == 0) = true ∧
    is (.loopbackChange 16 3) lit lit = true ∧ is (.loopbackChange 16 0) lit lit = true := by decide +kernel

theorem test_pauseExpiry : let s := (lit.set F.PRT_STATUS_RX_PAUSED 16 9).withLive 16 fun l => { l with pauseIn := 8 }
    ok (.pauseExpiry 16 3) s (fun t => t.get F.PRT_STATUS_RX_PAUSED 16 == 1 && (t.live 16).pauseIn == 0) = true := by decide +kernel

theorem test_pauseFrameSend : let s := lit.withLive 16 fun l => { l with pauses := [(8, 100)] }
    ok (.pauseFrameSend 16) s (fun t => t.out.frames == [(16, s.pauseFrame 16 8 100, true)] && (t.live 16).pauses == []) = true := by decide +kernel

theorem test_pauseRefresh : let s := put lit [(F.PRT_CFG_FC_MODE, 16, 2), (F.PRT_STATUS_TX_XOFF, 16, 8), (F.PRT_FC_TX_XON, 16, 0)]
    let f : Frame := { (default : Frame) with port := 16, cls := 3, bytes := List.replicate 60 0 }
    let s := { s with path := { s.path with bufs := [(0, { (default : Buf) with frame := f })] } }
    s.get F.PRT_FC_TX_XON 16 * 256 < s.occupancy 16 (fun x => bitOf (s.fcMask 16 3) x) ∧
    ok (.pauseRefresh 16 3) s (fun t => (t.live 16).pauses == [(8, s.get F.PRT_FC_TX_QUANTA 16)]) = true := by decide +kernel

theorem test_prtFcTxWrite : ok (.prtFcTxWrite 16 (5 + 4 * 2 ^ 20 + 2 ^ 40)) lab (fun t =>
    t.get F.PRT_FC_TX_XOFF 16 == 5 && t.get F.PRT_FC_TX_XON 16 == 4 && t.get F.PRT_FC_TX_QUANTA 16 == 1) = true := by decide +kernel

theorem test_prtFcTxWrite_refused : is (.prtFcTxWrite 16 (4 + 4 * 2 ^ 20 + 2 ^ 40)) lab (lab.evPrt F.PRT_EVENT_FC_CFG_ERR 16) = true ∧
    is (.prtFcTxWrite 16 (5 + 4 * 2 ^ 20)) lab (lab.evPrt F.PRT_EVENT_FC_CFG_ERR 16) = true := by decide +kernel

/-! ## Optics, the Causeway and the ring -/

theorem test_laserLit : ok (.laserLit 2 1) lab (fun t => t.get F.OPT_STATUS_LASER_OK 2 == 2) = true := by decide +kernel

/-- The power that a lost fibre shows is a free value, so this meets the hypotheses alone. -/
theorem test_laserLost : lit.up = true ∧ optical lit.variant 1 = true ∧ bitOf (lit.get F.OPT_STATUS_LASER_OK 1) 1 = true := by decide +kernel

theorem test_trackLimit : ok (.trackLimit ⟨1, 5⟩) lit (fun t => t.get F.OPT_EVENT_TRACK_LIMIT 1 == 1 && (SMap.find t.sundew.caps (srcTile 1 2)).isSome) = true := by
  decide +kernel

theorem test_optCalibrate : ready lit 8 5 [1] = true ∧ lit.engineDark 1 = false ∧
    ok (.optCalibrate 5 1) lit (fun t => SMap.find t.optics.cal 1 == some 5) = true := by decide +kernel

theorem test_optCalibrateDone : let s := { lit with optics := { lit.optics with cal := [(1, 5)] } }
    ok (.optCalibrateDone 1 []) s (fun t => SMap.find t.optics.cal 1 == none && said t 8 5 0 0) = true ∧
    ok (.optCalibrateDone 1 [3]) s (fun t => SMap.find t.optics.cal 1 == none && said t 8 5 0 3) = true := by decide +kernel

theorem test_causewayOpen : let s := lit.set F.CSW_STATUS_JOINED 0 1
    ready s 11 5 [0, 1] = true ∧ s.get F.CSW_STATUS_MEMBER 0 = 1 ∧ s.cswReady 0 = true ∧
    ok (.causewayOpen 5 0) s (fun t => t.csw 0 == 1 && t.optics.opening == [(0, 5)]) = true := by decide +kernel

theorem test_bypassOpened : let s := { lit.set F.CSW_STATUS_STATE 0 1 with optics := { lit.optics with opening := [(0, 5)] } }
    ok (.bypassOpened 0) s (fun t => t.csw 0 == 2 && said t 11 5 0 0) = true := by decide +kernel

theorem test_bypassClosed : let s := lab.set F.CSW_STATUS_STATE 3 3
    (ringPorts 3).all (fun p => s.get F.PRT_STATUS_LINK_UP p == 0) = true ∧ ok (.bypassClosed 3) s (fun t => t.csw 3 == 0) = true := by decide +kernel

/-- An element fault closes the group with cause 7, and an open answers CSW_FAULT from then on (R178). -/
theorem test_elementFault : let s := put lit [(F.CSW_STATUS_STATE, 0, 2), (F.CSW_STATUS_JOINED, 0, 1)]
    ok (.elementFault 0) s (fun t => t.optics.faulted == [0] && t.get F.CSW_EVENT_ELEMENT_FAULT 0 == 1 && t.csw 0 == 3 && t.get F.CSW_STATUS_CLOSE_CAUSE 0 == 7) = true ∧
    ok (.causewayOpen 5 0) { s with optics := { s.optics with faulted := [0] } } (fun t => said t 11 5 0 4 && t.csw 0 == 2) = true := by decide +kernel

theorem test_causewayClose : let s := lit.set F.CSW_STATUS_STATE 0 2
    ready s 11 5 [0, 0] = true ∧ ok (.causewayClose 5 0) s (fun t => t.csw 0 == 3 && said t 11 5 0 0) = true := by decide +kernel

theorem test_ringJoin : ready lit 9 5 [0] = true ∧ lit.get F.RNG_GROUP_CFG_MEMBER 0 = 1 ∧
    ok (.ringJoin 5 0) lit (fun t => t.get F.CSW_STATUS_JOINED 0 == 1 && t.get F.RNG_GROUP_STATUS_NEXT_SEQ 0 == 0 && said t 9 5 0 0) = true := by
  decide +kernel

/-- Group 0 joined. -/
def joined : State := lit.set F.CSW_STATUS_JOINED 0 1

theorem test_ringLeave : ready joined 10 5 [0] = true ∧
    ok (.ringLeave 5 0) joined (fun t => t.get F.CSW_STATUS_JOINED 0 == 0 && said t 10 5 0 0) = true := by decide +kernel

theorem test_ringProbeSend : joined.agentOn 4 = some 0 ∧
    ok (.ringProbeSend 4) joined (fun t => (SMap.find t.probes 4).any fun x => x.waiting == [0] && x.number == 0) = true := by decide +kernel

theorem test_probeTimeout : let s := { joined with probes := [(4, ⟨4, 0, [3, 4]⟩)] }
    ok (.probeTimeout 4) s (fun t => SMap.find t.probes 4 == some ⟨4, 0, [4]⟩ && t.get F.RNG_CNT_COUNT 5 == 1) = true := by decide +kernel

theorem test_rngGroupCtxWrite : ok (.rngGroupCtxWrite 0 (65535 + 2 ^ 32)) lab (fun t =>
    t.get F.RNG_GROUP_CTX_CTX_BASE 0 == 65535 && t.get F.RNG_GROUP_CTX_NODE_LOW 0 == 0 && t.get F.RNG_GROUP_CTX_NODE_COUNT 0 == 1) = true ∧
    is (.rngGroupCtxWrite 0 (65535 + 2 ^ 33)) lab (lab.evC F.RNG_EVENT_CFG_REFUSED 0) = true := by decide +kernel

/-! ## The frame path -/

/-- A frame of 60 bytes without FCS, of an EtherType that no rule names. -/
def plain : List Byte := [2, 0, 0, 0, 0, 1, 2, 0, 0, 0, 0, 2, 0x12, 0x34] ++ List.replicate 46 0

/-- Port 16 up with nothing else configured. -/
def rxLab : State := put lab [(F.PRT_CFG_ADMIN_UP, 16, 1), (F.PRT_STATUS_LINK_UP, 16, 1)]

/-- Port 16 with FEC in use. -/
def fecLab : State := { rxLab with image := { rxLab.image with layers := { labLayers with fabric := [⟨16, 1, 0, 1, 1518, false⟩] } } }

theorem test_rxFrame_runt : ok (.rxFrame 16 (plain.take 40) true none []) rxLab (fun t => t.get F.PRT_CNT_COUNT (64 * 16 + 9) == 1) = true ∧
    ok (.rxFrame 16 (plain.take 59) true none [2, 1, 5]) fecLab (fun t => t.get F.PRT_CNT_COUNT (64 * 16 + 10) == 1 && t.get F.PRT_CNT_COUNT (64 * 16 + 16) == 1) = true := by decide +kernel

theorem test_rxFrame : (rxLab.port 16).all (fun c => rxLab.earlyOf 16 c.mtu (rxLab.parse 16 plain) 64 == none) = true ∧
    ok (.rxFrame 16 plain true none []) rxLab (fun t => (t.staged 16).map (fun f => (f.port, f.bytes, f.mark)) == [(16, plain, 0)]) = true := by
  decide +kernel

/-- Frame 5 of port 16. -/
def five : Frame := { (default : Frame) with id := 5, port := 16, bytes := plain }

theorem test_stagingRelease : let s := rxLab.withStaged 16 [five]
    s.quiesced (quadOf 16) = false ∧
    ok (.stagingRelease 16) s (fun t => t.staged 16 == [] && (t.farm 1).heads.map (fun f => (f.id, f.bytes)) == [(5, plain)]) = true := by decide +kernel

theorem test_parseDeal : let s := rxLab.withFarm 1 ⟨[five], [], 47⟩
    s.nextEngine 1 = some 47 ∧ ok (.parseDeal 1) s (fun t => t.farm 1 == ⟨[], [⟨five, s.parseCfg 16, some 47, 0, false, none⟩], 0⟩) = true := by decide +kernel

theorem test_parseComplete : let s := rxLab.withFarm 1 ⟨[], [⟨five, rxLab.parseCfg 16, some 3, 0, false, none⟩], 4⟩
    (parseWith (rxLab.parseCfg 16) 16 plain).2.2 = false ∧ ok (.parseComplete 1 3 false) s (fun t => (t.farm 1).entries.map (fun x => (x.done, x.frame.id)) == [(true, 5)]) = true := by
  decide +kernel

theorem test_reorderRelease : let d : Direct := ⟨16, 3, 0, 0⟩
    let s := rxLab.withFarm 1 ⟨[], [⟨{ five with direct := some d }, rxLab.parseCfg 16, none, 0, true, none⟩], 4⟩
    ok (.reorderRelease 1 {}) s (fun t => (t.farm 1).entries == [] &&
      t.path.crossing.map (fun c => (c.quadrant, c.target == .directed d, c.frame.id, c.frame.epoch)) == [(0, true, 5, 0)]) = true := by decide +kernel

theorem test_reorderRelease_trap : let v : ParseVec := { (default : ParseVec) with mcastCtrl := true }
    let s := rxLab.withFarm 1 ⟨[], [⟨{ five with vec := v }, rxLab.parseCfg 16, none, 0, true, none⟩], 4⟩
    ok (.reorderRelease 1 {}) s (fun t => (t.farm 1).entries == [] &&
      t.path.crossing.map (fun c => (c.quadrant, match c.target with | .host h _ r => (h, r) | _ => (9, 9), c.frame.id)) == [(0, (0, 1), 5)]) = true := by
  decide +kernel

/-! Ordinary lookups. -/

/-- Port 16 with every stage in force: an FDB, host routes and (S,G) entries in banks of their own, LPM rows 0 to 15, an ACL and a stream region. -/
def look : State :=
  let t (k : TableKind) (b : Nat) : TableCfg := ⟨k, false, b, 1, 0x1021, 1, 0x8005, 2, true, true, 1000⟩
  put { rxLab with image := { rxLab.image with layers := { labLayers with
    tables := [(0, t .fdb 0), (1, t .hostRoute 2), (2, t .sg 3)]
    search := { labLayers.search with stageOrder := [.acl, .sg, .host, .lpm, .fdb] } } } }
    [(F.TCM_ROUTER_MAC_VALID, 0, 1), (F.TCM_ROUTER_MAC_ADDR, 0, 0x020000000001), (F.TCM_PORT_L3_RMAC_MASK, 16, 1), (F.TCM_PORT_L3_ROUTE_EN, 16, 1)]

/-- With an entry in an exact-match table. -/
def entered (s : State) (n payload : Nat) : State :=
  (SMap.find s.layers.tables n).elim s fun c => (s.emInsert n c (fun _ => false) payload false false false false).1

/-- With a narrow row that matches everything. -/
def anyRow (s : State) (n action : Nat) : State := { s with tcam := { s.tcam with rows := SMap.put s.tcam.rows n ⟨false, 0, 0, action, 0⟩ } }

/-- Frame 5 alone and completed in the farm of tile 1. -/
def farmed (s : State) (f : Frame) : State := s.withFarm 1 ⟨[], [⟨f, s.parseCfg 16, none, 0, true, none⟩], 4⟩

/-- The decision of a frame of port 16. -/
def decided (s : State) (f : Frame) : Decision := (s.stages f 0 {}).1.decision

/-- What crosses, as quadrant and target. -/
def crossed (t : State) : List (Nat × Target) := t.path.crossing.map fun c => (c.quadrant, c.target)

/-- Frames that a port has lost under a code. -/
def lost (t : State) (code : Nat) : Nat := t.get F.BUF_DROP_CNT_COUNT code

/-- An IPv4 frame of port 16 for the router's address, with a TTL; its destination address is all zero. -/
def routed (ttl : Nat) : Frame := { five with vec := { five.vec with outer := { five.vec.outer with l3 := 1, offL3 := 14, ttl := ttl } } }

/-- The payload of an FDB entry for frame 5 that names port 17. -/
def fdbPayload : Nat := (look.fid five * 2 ^ 48 + five.da) * 2 ^ 52 + 17 * 2 ^ 34

/-- A frame that no entry names floods: to its group where that is valid, else nowhere (R243). -/
theorem test_lookup_flood : let s := farmed (look.putObj 3 0 (2 ^ 192 + 2 ^ 21 + 5)) five
    look.routing five = (false, false) ∧ look.get F.EXM_PORT_TABLES_SID_EN 16 = 0 ∧ look.get F.EXM_PORT_TABLES_SIDW_EN 16 = 0 ∧ s.trapReason five = none ∧ s.get F.EXM_PORT_LEARN_LEARN_EN 16 = 0 ∧
    takeReleased [] (s.farm 1).entries = some (five, []) ∧ decided look five = .group 0 ∧
    ok (.reorderRelease 1 {}) s (fun t => (t.farm 1).entries == [] && crossed t == [(0, .group 5 1 false)]) = true ∧
    ok (.reorderRelease 1 {}) (farmed look five) (fun t => crossed t == [] && lost t cNoRoute == 1) = true := by decide +kernel

/-- An FDB entry that names port 17 sends the frame there; a stream filter with a limit of one byte discards it. -/
theorem test_lookup_fdb : let s := entered look 0 fdbPayload
    let g : Frame := { five with vec := { five.vec with len := 64 } }
    let s' := (put (anyRow s 32 (2 ^ 31)) [(F.TCM_PORT_L3_SF_EN, 16, 1), (F.TCM_PORT_L3_SF_REGION, 16, 1)]).putObj 8 0 1
    (s.portLookup 16 F.EXM_PORT_TABLES_FDB_T F.EXM_PORT_TABLES_FDB_EN (s.fid five * 2 ^ 48 + five.da)).1.any (fun e => s.toFdb e.payload 0 == .port 17 none) = true ∧
    decided s five = .port 17 none ∧
    ok (.reorderRelease 1 {}) (farmed s five) (fun t =>
      crossed t == [(0, .unicast 17 (s.get F.RWE_PORT_DEFAULT_RECIPE 17) (s.get F.RWE_PORT_DEFAULT_PARAM 17))]) = true ∧
    ok (.reorderRelease 1 {}) (farmed s' g) (fun t => crossed t == [] && lost t cStreamGate == 1) = true := by decide +kernel

/-- An LPM row gives the next hop 7, port 17 with recipe 3; a TTL of 1 is trapped or discarded; without a row there is no route (R242). -/
theorem test_lookup_lpm : let s := (anyRow look 5 (7 * 2 ^ 42)).putObj 0 7 (17 * 2 ^ 52 + 3 * 2 ^ 26)
    s.routing (routed 64) = (true, false) ∧ s.searchRegion 0 16 .lpm = some (0, 16) ∧
    decided s (routed 64) = .port 17 (some (3, 0)) ∧ decided s (routed 1) = .discard cTtlZero ∧
    decided (s.set F.TCM_PORT_L3_TTL_TRAP 16 1) (routed 1) = .host 3 ∧ decided look (routed 64) = .discard cNoRoute ∧
    ok (.reorderRelease 1 {}) (farmed (s.set F.TCM_PORT_L3_TTL_TRAP 16 1) (routed 1)) (fun t =>
      t.path.crossing.map (fun c => (c.quadrant, match c.target with | .host h _ r => (h, r) | _ => (9, 9))) == [(0, (0, 3))]) = true := by decide +kernel

/-- A host route that stands before the LPM sends its address to the host (NH_KIND 2). -/
theorem test_lookup_hostRoute : let s := entered { look with image := { look.image with layers := { look.layers with
      search := { look.layers.search with stageOrder := [.host, .lpm] } } } } 1 (2 * 2 ^ 68)
    (s.portLookup 16 F.EXM_PORT_TABLES_HR4_T F.EXM_PORT_TABLES_HR4_EN (s.vrf (routed 64) * 2 ^ 32 + (routed 64).dip)).1.isSome = true ∧
    decided s (routed 64) = .host 4 := by decide +kernel

/-- A routed multicast frame goes to the group of its (S,G) entry, and nowhere where it comes in at another port than the RPF port. -/
theorem test_lookup_sg : let bytes : List Byte := [1, 0, 0x5E, 0, 0, 1] ++ plain.drop 6 |>.take 30 |>.append ([0xE0, 0, 0, 1] ++ List.replicate 26 0)
    let f : Frame := { routed 64 with bytes := bytes }
    let s := look.set F.TCM_PORT_L3_MCAST_ROUTE_EN 16 1
    let key := (s.vrf f * 2 ^ 32 + f.sip) * 2 ^ 32 + f.dip
    s.routing f = (false, true) ∧ decided (entered s 2 (key * 2 ^ 38 + 9 * 2 ^ 22)) f = .group 9 ∧
    decided (entered s 2 (key * 2 ^ 38 + 9 * 2 ^ 22 + 2 ^ 11 + 17 * 2 ^ 12)) f = .discard cNoRoute ∧
    decided (entered s 2 (key * 2 ^ 38 + 9 * 2 ^ 22 + 2 ^ 11 + 16 * 2 ^ 12)) f = .group 9 := by decide +kernel

/-- The ACL ahead of the rest: it denies, or sends to port 17. -/
theorem test_lookup_acl : let s := put look [(F.TCM_PORT_L3_ACL_EN, 16, 1)]
    s.searchRegion 0 (s.get F.TCM_PORT_L3_ACL_REGION 16) .acl = some (16, 16) ∧
    decided (anyRow s 20 (2 ^ 61)) five = .discard cAclDeny ∧ decided (anyRow s 20 (5 * 2 ^ 61 + 17 * 2 ^ 41)) five = .port 17 none ∧
    ok (.reorderRelease 1 {}) (farmed (anyRow s 20 (2 ^ 61)) five) (fun t => crossed t == [] && lost t cAclDeny == 1) = true := by decide +kernel

/-- What the objects of ECMP groups and LAGs hold is a free value (log 13), so this meets the one hypothesis that the state decides. -/
theorem test_lookup_members : (look.putObj 1 4 1).objWritten 1 4 = true ∧ (look.putObj 2 4 1).objWritten 2 4 = true := by decide +kernel

/-- A frame longer than its filter's limit is discarded, one within it passes its gate, which is open without a list. -/
theorem test_filter : let s := look.putObj 8 3 (100 + 2 ^ 14)
    (s.filter 3 101 5).1 = .drop cStreamGate ∧ (s.filter 3 100 5).1 = .pass 5 none := by decide +kernel

/-- A meter without tokens marks red, one with peak tokens alone yellow, one with both green (R383). -/
theorem test_meter : (look.meter 2 64 0).1 = 2 ∧ ((look.putObj 7 2 (100 * 2 ^ 152 + 100 * 2 ^ 72)).meter 2 64 0).1 = 1 ∧
    ((look.putObj 7 2 (100 * 2 ^ 152 + 100 * 2 ^ 72 + 100 * 2 ^ 128 + 100 * 2 ^ 48)).meter 2 64 0).1 = 0 := by decide +kernel

theorem test_bufQueueCfgWrite : lab.deepOk 799 = true ∧ ok (.bufQueueCfgWrite 799 (64 + 63)) lab (fun t =>
    t.get F.BUF_QUEUE_CFG_DEEP 799 == 1 && t.get F.BUF_QUEUE_CFG_PROFILE 799 == 63) = true := by decide +kernel

theorem test_bufQueueCfgWrite_refused : ok (.bufQueueCfgWrite 800 64) lab (fun t =>
    t.get F.BUF_QUEUE_CFG_DEEP 800 == 0 && t.get F.BUF_EVENT_DEEP_REFUSED 0 == 1) = true := by decide +kernel

theorem test_ageHeadCheck : let s := { lab with path := { lab.path with dequeued := [800, 6144] } }
    ok (.ageHeadCheck 0) s (fun t => t.path.dequeued == [6144]) = true := by decide +kernel

/-- Of two frames in a queue that has not dequeued the one past the profile's age limit is discarded, the other stays; the same queue is left alone where it has dequeued. -/
theorem test_ageHeadCheck_aged : let f (t : Nat) : Frame := { five with rxQ := t, cls := 0 }
    let b (t : Nat) : Buf := { (default : Buf) with frame := f t, size := 2048, holders := 1 }
    let e (h : Nat) : QEntry := { (default : QEntry) with buf := h }
    let aged := put lab [(F.BUF_PROFILE_AGE_AGE_LIMIT, lab.profileOf 800, 1)]
    let s := { aged with time := { lab.time with master := 10 ^ 9 * unitNs }, path := { lab.path with bufs := [(0, b 0), (1, b (4 * 10 ^ 9))], queues := [(800, [e 0, e 1])] } }
    s.isAged 800 (b 0) = true ∧ s.isAged 800 (b (4 * 10 ^ 9)) = false ∧
    ok (.ageHeadCheck 0) s (fun t => t.queue 800 == [e 1] && t.get F.BUF_DROP_CNT_COUNT cAged == 1) = true ∧
    ok (.ageHeadCheck 0) { s with path := { s.path with dequeued := [800] } } (fun t => t.queue 800 == [e 0, e 1]) = true := by decide +kernel

/-- A sheltered buffer without a reference is marked, its mark stays for two intervals, then it is reclaimed; one that a queue holds loses its mark. -/
theorem test_sextonWalk : let b : Buf := { (default : Buf) with region := 1, frame := five, size := 2048 }
    let m : Buf := { b with marked := some 0 }
    let s (b : Buf) : State := { lab with path := { lab.path with bufs := [(0, b)] } }
    let ms := nsUnits (1000000 * lab.get F.BUF_SEXTON_CTRL_INTERVAL_MS 0)
    (s b).referenced 0 b = false ∧ ok (.sextonWalk ⟨0, []⟩) (s b) (fun t => t.buf 0 == some m) = true ∧
    ok (.sextonWalk ⟨0, []⟩) { s m with elapsed := 2 * ms - 1 } (fun t => t.buf 0 == some m) = true ∧
    ok (.sextonWalk ⟨0, []⟩) { s m with elapsed := 2 * ms } (fun t => t.buf 0 == none && t.get F.BUF_EVENT_SEXTON_LEAK 0 == 1) = true ∧
    ok (.sextonWalk ⟨0, []⟩) { s m with path := { (s m).path with queues := [(800, [default])] } } (fun t => t.buf 0 == some b) = true := by decide +kernel

theorem test_bufFreeWrite : let b : Buf := { (default : Buf) with frame := five, size := 2048, hostOwned := true }
    let s := { lab with path := { lab.path with bufs := [(0, b)] } }
    handleQuad 0 = 0 ∧ ok (.bufFreeWrite 0 0) s (fun t => (t.buf 0).all fun b => !b.hostOwned) = true := by decide +kernel

theorem test_bufFreeWrite_foreign : let s : State := { lab with path := { lab.path with bufs := [(9, { (default : Buf) with frame := five, size := 2048 })] } }
    ok (.bufFreeWrite 0 9) lab (fun t => t.get F.BUF_FOREIGN_FREE_VALID 0 == 1 && t.get F.BUF_FOREIGN_FREE_HANDLE 0 == 9 && t.get F.BUF_EVENT_BPM_FOREIGN_FREE 0 == 1) = true ∧
    ok (.bufFreeWrite 0 9) s (fun t => t.get F.BUF_FOREIGN_FREE_VALID 0 == 1 && t.get F.BUF_FOREIGN_FREE_HANDLE 0 == 9 && t.path == s.path) = true := by decide +kernel

/-! ## Exact match and the TCAMs -/

theorem test_learnServe : let r : LearnReq := { (default : LearnReq) with table := 0, port := 16, fid := 1, mac := 0x20000000002 }
    let s := { lab with exm := { lab.exm with queue := [r] } }
    lab.atLimit 16 = false ∧ s.learnBlocked r = false ∧ (SMap.find labLayers.tables 0).all (fun c => (lab.emInsert 0 c (lab.pinnedKey 0) r.payload false false false false).2 == .ok) = true ∧
    ok .learnServe s (fun t => t.exm.slots.length == 1 && t.exm.queue == []) = true := by decide +kernel

theorem test_sweepPassStart : let s := lab.set F.EXM_SWEEP_AGE_EN 0 1
    ok (.sweepPassStart 0) s (fun t => (t.exmTable 0).next == some 0 && (t.exmTable 0).clock == 1) = true := by decide +kernel

theorem test_scarabVisit : let s := (lab.set F.EXM_SWEEP_AGE_EN 0 1).withExmTable 0 fun x => { x with next := some 4 }
    ok (.scarabVisit 0 false) s (fun t => (t.exmTable 0).next == some 5) = true := by decide +kernel

/-- A visit clears HIT, else sets CLEAR_SEEN, else removes the entry; a static entry stays as it is (R225). -/
theorem test_scarabVisit_entry : (SMap.find labLayers.tables 0).all (fun c =>
    let p : Place := ⟨(visitBucket c 4).1, (visitBucket c 4).2, 1⟩
    let e (static hit clear : Bool) : Entry := { static := static, hit := hit, clear := clear, table := 0, stamp := 0, payload := 0x77 * 2 ^ 52 }
    let after (e : Entry) (r : Option Entry) : Bool :=
      let s := ((lab.set F.EXM_SWEEP_AGE_EN 0 1).withExmTable 0 fun x => { x with next := some 4 }).emPut c.wide p e
      decide (s.emAt c.wide p = some e) && ok (.scarabVisit 0 false) s fun t => decide (t.emAt c.wide p = r)
    after (e false true true) (some (e false false true)) && after (e false false false) (some (e false false true)) &&
      after (e false false true) none && after (e true true true) (some (e true true true))) = true := by decide +kernel

theorem test_learnRecountDone : let s := { lab.set F.EXM_EVENT_RECOUNT 0 1 with exm := { lab.exm with recount := [0] } }
    ok .learnRecountDone s (fun t => t.get F.EXM_EVENT_RECOUNT 0 == 0 && t.exm.recount == []) = true := by decide +kernel

theorem test_exmSweepWrite : lab.sweepAllowed 0 (1 + 2 * 3600000) = true ∧ ok (.exmSweepWrite 0 (1 + 2 * 3600000)) lab (fun t =>
    t.get F.EXM_SWEEP_AGE_EN 0 == 1 && t.get F.EXM_SWEEP_PERIOD_MS 0 == 3600000) = true := by decide +kernel

theorem test_exmSweepWrite_refused : let s : State := { lab with image := { lab.image with layers := { labLayers with
      tables := [(0, ⟨.fdb, false, 0, 128, 0x1021, 1, 0x8005, 2, true, true, 1000⟩), (2, ⟨.fdb, false, 128, 128, 0x1021, 1, 0x8005, 2, true, true, 1000⟩)] } } }
    let s := put s [(F.EXM_SWEEP_AGE_EN, 2, 1), (F.EXM_SWEEP_PERIOD_MS, 2, 1)]
    s.sweepAllowed 0 (1 + 2) = false ∧ is (.exmSweepWrite 0 (1 + 2)) s (s.evC F.EXM_EVENT_SWEEP_REFUSED 0) = true := by decide +kernel

theorem test_exmPortTablesWrite : labLayers.portTablesBad 0 = false ∧ ok (.exmPortTablesWrite 16 0) lab (fun t =>
    t.get F.EXM_PORT_TABLES_FDB_EN 16 == 0) = true := by decide +kernel

theorem test_exmPortTablesWrite_refused : let v := 2 ^ F.EXM_PORT_TABLES_MTR_EN.lsb
    labLayers.portTablesBad v = true ∧ is (.exmPortTablesWrite 16 v) lab (lab.evC F.EXM_EVENT_PORT_TABLE_REFUSED 0) = true := by decide +kernel

theorem test_suspectRowScrub : let s := { lab with tcam := { lab.tcam with suspect := [rowKey 0 5] } }
    ok (.suspectRowScrub 0 5 true) s (fun t => t.tcam.suspect == []) = true := by decide +kernel

theorem test_backgroundScrub : let s := { lab with tcam := { lab.tcam with suspect := [rowKey 0 5, rowKey 1 5] } }
    ok (.backgroundScrub 0 []) s (fun t => t.tcam.suspect == [rowKey 1 5]) = true := by decide +kernel

theorem test_tcmPortL3Write : ok (.tcmPortL3Write 16 (2 ^ F.TCM_PORT_L3_ACL_EN.lsb)) lab (fun t => t.get F.TCM_PORT_L3_ACL_EN 16 == 1) = true ∧
    ok (.tcmPortL3Write 512 (2 ^ F.TCM_PORT_L3_SF_EN.lsb + 2 ^ F.TCM_PORT_L3_SF_REGION.lsb)) lab (fun t => t.get F.TCM_PORT_L3_SF_EN 128 == 1) = true := by
  decide +kernel

theorem test_tcmPortL3Write_refused : is (.tcmPortL3Write 18 (2 ^ F.TCM_PORT_L3_ACL_EN.lsb)) lab lab = true ∧
    ok (.tcmPortL3Write 16 (2 ^ F.TCM_PORT_L3_SF_EN.lsb)) lab (fun t => t.get F.PTL_CLAIM_ERR_VALID 0 == 1 && t.get F.TCM_PORT_L3_SF_EN 16 == 0) = true := by
  decide +kernel

/-! ## Ordering and the table update engine -/

theorem test_topFenceWrite : ok (.topFenceWrite 1) lab (fun t => t.get F.TOP_FENCE_COUNT 0 == 1) = true := by decide +kernel

theorem test_orderStrictWrite : ok (.orderStrictWrite 8 15) lab (fun t => t.get F.TUE_ORDER_STRICT_PORT 8 == 15) = true ∧
    ok (.orderStrictWrite 0 (2 ^ 18 + 2 ^ 17)) lab (fun t => t.get F.TUE_ORDER_STRICT_PORT 0 == 2 ^ 17) = true := by decide +kernel

theorem test_tueRingTailWrite : ok (.tueRingTailWrite 7 1 [0]) lab (fun t => t.get F.TUE_RING_TAIL_TAIL 7 == 1) = true := by decide +kernel

/-- Ring 0 has accepted one command, in slot 0. -/
def given (s : State) (op flags space quad index arg body : Nat) : State :=
  let w := op * 2 ^ 1016 + flags * 2 ^ 1008 + 9 * 2 ^ 992 + space * 2 ^ 984 + quad * 2 ^ 982 + index * 2 ^ 960 + arg * 2 ^ 896 + body
  { s with tue := { s.tue with flight := [(0, [{ (default : TueCmd) with word := w, seq := 1 }])] } }

/-- No general check refuses the command. -/
def clean (s : State) (op : Nat) : Bool :=
  (s.inSlot 0 0).any fun x => x.cmd.opcode == op && !s.tueBlocked 0 x && !s.badTarget x.cmd && !s.abortedCmd x.cmd && !s.cutArmed x.cmd

/-- The command in the slot has gone with STATUS TUE_DONE, a result and a body. -/
def done (s t : State) (result body : Nat) : Bool :=
  (s.inSlot 0 0).any fun x =>
    t.out.hostMem == (s.hostWrite (s.cplAddr 0) (leBytes (s.doneRecord 0 x result body) 128)).out.hostMem && t.get F.TUE_CPL_HEAD_HEAD 0 == 1 && t.tueFlight 0 == []

theorem test_nop : let s := given lab oNop 0 0 0 0 0 0
    clean s oNop = true ∧ ok (.nop 0 0) s (fun t => done s t 0 0) = true := by decide +kernel

theorem test_fence : let s := given lab oFence 0 0 0 0 0 0
    clean s oFence = true ∧ ok (.fence 0 0) s (fun t => done s t 0 0) = true := by decide +kernel

theorem test_epoch : let s := given lab oEpoch 0 0 0 0 0 0
    clean s oEpoch = true ∧ ok (.epoch 0 0) s (fun t => t.get F.TUE_EPOCH_CURRENT 0 == 1 && t.tue.epochs.map PendEpoch.epoch == [0]) = true := by
  decide +kernel

/-- An FDB entry of FID 1 for port 16. -/
def fdb : Nat := 0x20000000002 + 2 ^ 80 + 16 * 2 ^ 34

theorem test_emInsert : let s := given lab oEmInsert 0 0 0 0 0 (16 * 2 ^ 34)
    clean s oEmInsert = true ∧ (SMap.find labLayers.tables 0).all (fun c => !s.emBad c (16 * 2 ^ 34) && (s.emInsert 0 c (s.pinnedKey 0) (16 * 2 ^ 34) false false false false).2 == .ok) = true ∧
    ok (.emInsert 0 0) s (fun t => t.exm.slots.length == 1) = true := by decide +kernel

/-- The same entry stored. -/
def stored : State := (SMap.find labLayers.tables 0).elim lab fun c => (lab.emInsert 0 c (fun _ => false) (16 * 2 ^ 34) false false false false).1

theorem test_emUpdate : let s := given stored oEmUpdate 0 0 0 0 0 (17 * 2 ^ 34)
    clean s oEmUpdate = true ∧ (SMap.find labLayers.tables 0).all (fun c => !s.emBad c (17 * 2 ^ 34) && (s.emUpdate 0 c (17 * 2 ^ 34) false).2 == .ok) = true ∧
    ok (.emUpdate 0 0) s (fun t => t.exm.slots.length == 1 && t.exm.slots != s.exm.slots) = true := by decide +kernel

theorem test_emDelete : let s := given stored oEmDelete 0 0 0 0 0 (16 * 2 ^ 34)
    clean s oEmDelete = true ∧ (SMap.find labLayers.tables 0).all (fun c => (s.emDelete 0 c (16 * 2 ^ 34)).2 == .ok) = true ∧
    ok (.emDelete 0 0) s (fun t => t.exm.slots == []) = true := by decide +kernel

theorem test_emRead : let s := given stored oEmRead 0 0 0 0 0 (16 * 2 ^ 34)
    clean s oEmRead = true ∧ ok (.emRead 0 0) s (fun t => done s t 0 (16 * 2 ^ 34)) = true := by decide +kernel

/-- A row of the stream region, its body. -/
def rowBody : Nat := 4 * 2 ^ 157 * 2 ^ 736 + 7 * 2 ^ 157 * 2 ^ 416 + 5 * 2 ^ 176

theorem test_tcInsert : let s := given lab oTcInsert 0 1 0 0 0 rowBody
    clean s oTcInsert = true ∧ s.tcBad .stream (tcEntry rowBody) = false ∧
    ok (.tcInsert 0 0) s (fun t => t.tcam.rows.map (·.2) == [tcEntry rowBody]) = true := by decide +kernel

theorem test_tcWriteRow : let s := given lab oTcWriteRow 0 1 0 47 0 rowBody
    clean s oTcWriteRow = true ∧ ok (.tcWriteRow 0 0) s (fun t => t.tcam.rows == [(47, tcEntry rowBody)]) = true := by decide +kernel

/-- The row stored at row 32. -/
def rowed : State := { lab with tcam := { lab.tcam with rows := [(32, tcEntry rowBody)] } }

theorem test_tcUpdateAction : let s := given rowed oTcUpdateAction 0 1 0 0 0 (rowBody + 2 ^ 223)
    clean s oTcUpdateAction = true ∧ ok (.tcUpdateAction 0 0) s (fun t => t.tcam.rows == [(32, { tcEntry rowBody with action := 2 ^ 31 })]) = true := by
  decide +kernel

theorem test_tcDelete : let s := given rowed oTcDelete 0 1 0 0 0 rowBody
    clean s oTcDelete = true ∧ ok (.tcDelete 0 0) s (fun t => t.tcam.rows == []) = true := by decide +kernel

theorem test_tcReadRow : let s := given rowed oTcReadRow 0 1 0 32 0 0
    clean s oTcReadRow = true ∧ ok (.tcReadRow 0 0) s (fun t => done s t 0 rowBody) = true := by decide +kernel

/-- What the statement of the table commands asks of the tables, met command by command: a free place, a place found, a free row, a row found. -/
theorem test_placesFound : (SMap.find labLayers.tables 0).all (fun c =>
      let k := keyOf c (16 * 2 ^ 34)
      lab.emFind 0 c k == none && ((lab.emFree c (bucketOf c 0 k)).orElse fun _ => lab.emFree c (bucketOf c 1 k)).isSome &&
        (stored.emFind 0 c k).any fun p => (stored.emAt c.wide p).isSome) = true ∧
    (let w := sortWays (lab.groups 0 32 16 (lab.regionKind 0 1)) (groupOf (lab.regionKind 0 1) (tcEntry rowBody)) 32 16
        (lab.rowFree 0 (lab.regionQuads 0 1) fun _ => false) (lab.entryOut (lab.regionQuads 0 1))
     lab.regionRows 0 1 = some (32, 16) ∧ (pickWay w).any (fun w => w.moves == [] &&
        (roomFor (lab.rowFree 0 (lab.regionQuads 0 1) fun _ => false) 32 16 (tcEntry rowBody).wide w.free).isSome) = true) ∧
    lab.pins.hostAllowed = true ∧ (tcEntry rowBody).wide = false ∧ (lab.row 0 47).isNone = true ∧ lab.secondRow 0 47 = false ∧
    (given rowed oTcDelete 0 1 0 0 0 rowBody).inSlot 0 0 ≠ none ∧
    ((given rowed oTcDelete 0 1 0 0 0 rowBody).inSlot 0 0).all (fun x => rowed.foundRow x.cmd == some (32, tcEntry rowBody)) = true := by decide +kernel

theorem test_objWrite : let s := given lab oObjWrite 0 0x00 0 3 0 0
    clean s oObjWrite = true ∧ ok (.objWrite 0 0) s (fun t => t.tables == (s.objStore 0 3 0).tables) = true := by decide +kernel

theorem test_objRead : let s := given lab oObjRead 0 0x00 0 3 0 0
    clean s oObjRead = true ∧ ok (.objRead 0 0) s (fun t => done s t 0 (s.objRead 0 3)) = true := by decide +kernel

theorem test_cutOpen : let s := given lab oCutOpen 0 0 0 0 255 0
    ok (.cutOpen 0 0) s (fun t => t.cut 255 == some { (default : Cut) with state := 1, uid := 1 }) = true := by decide +kernel

/-- Cut 1 open with one change. -/
def opened : State := lab.withCut 1 (some { (default : Cut) with state := 1, changes := [{ (default : CutChange) with opcode := oObjWrite, index := 3 }] })

theorem test_cutAdd : let s := given opened oCutAdd 0 1 0 47 (1 + oTcWriteRow * 256) rowBody
    cutInner oTcWriteRow = true ∧ ok (.cutAdd 0 0) s (fun t => (t.cut 1).any fun z => z.changes.length == 2) = true := by decide +kernel

theorem test_cutArm : let s := given opened oCutArm 0 0 0 0 1 100
    (s.inSlot 0 0).all (fun x => (s.cut 1).all fun y => !s.armBad x.cmd y) = true ∧
    ok (.cutArm 0 0) s (fun t => (t.cut 1).any fun z => z.state == 2 && z.t == 400 && z.tx == some 400) = true := by decide +kernel

theorem test_cutCancel : let s := given opened oCutCancel 0 0 0 0 1 0
    ok (.cutCancel 0 0) s (fun t => t.cut 1 == none) = true := by decide +kernel

theorem test_cutGapFound : let c : Cut := { (default : Cut) with state := 2, mode := 2, lastLook := 0, gapNs := 64, waitNs := 10000, stream := 1, watch := 16 }
    let s := { lab.withCut 1 (some c) with elapsed := nsUnits 2000, time := { lab.time with master := 2000 * unitNs } }
    s.gapAt c ≤ c.waitEnd ∧ s.gapAt c ≤ s.nowQ ∧ s.gapAt c = 256 ∧ ok (.cutGapFound 1) s (fun t => t.cut 1 == some { c with tx := some (256 + 80) }) = true := by decide +kernel

theorem test_cutWaitExpiry : let c : Cut := { (default : Cut) with state := 2, mode := 1, waitNs := 100, stream := 1, watch := 16 }
    let s := { lab.withCut 1 (some c) with elapsed := nsUnits 2000, time := { lab.time with master := 2000 * unitNs } }
    c.waitEnd ≤ s.nowQ ∧ ok (.cutWaitExpiry 1) s (fun t => t.cut 1 == some { c with tx := some c.waitEnd, waitExpired := true }) = true := by decide +kernel

theorem test_cutApply : let c : Cut := { (default : Cut) with state := 2, tx := some 0 }
    ok (.cutApply 1) (lab.withCut 1 (some c)) (fun t => (t.cut 1).any fun z => z.state == 3 && !z.isPartial) = true := by decide +kernel

theorem test_cutDone : ok (.cutDone 1) (lab.withCut 1 (some { (default : Cut) with state := 3 })) (fun t => t.cut 1 == none) = true := by decide +kernel

theorem test_tueWaitTimeout : let w := oNop * 2 ^ 1016 + 2 ^ 1015
    let s := put { lab with tue := { lab.tue with flight := [(0, [{ (default : TueCmd) with word := w, seq := 1 }, { (default : TueCmd) with slot := 1, word := w, seq := 2, waitUs := 10 }])] } } []
    (s.inSlot 0 1).any (fun x => s.tueBlocked 0 x) = true ∧
    ok (.tueWaitTimeout 0 1) s (fun t => t.get F.TUE_EVENT_WAIT_TIMEOUT 0 == 1 && (t.tueFlight 0).map (·.slot) == [0]) = true := by decide +kernel

/-- Epoch 0 has ended and drains. -/
def draining : State := { put lab [(F.TUE_EPOCH_CURRENT, 0, 1)] with tue := { lab.tue with epochs := [⟨0, 0, 9, true⟩] } }

theorem test_epochDrained : draining.liveFrames 0 = 0 ∧ ok .epochDrained draining (fun t => t.tue.epochs == [] && t.get F.TUE_EPOCH_DRAINED 0 == 0) = true := by
  decide +kernel

theorem test_epochTimeout : let s := { draining with path := { draining.path with crossing := [default] } }
    s.liveFrames 0 = 1 ∧ ok (.epochTimeout 0) s (fun t => t.get F.TUE_EVENT_EPOCH_TIMEOUT 0 == 1 && t.tue.epochs.map PendEpoch.epoch == [0]) = true := by
  decide +kernel

/-! ## Egress: scheduling, rewrite and transmission -/

/-- A copy of a frame for host queue 0 of host port 0 waits to cross. -/
def crossing : State :=
  let c : Copy := { (default : Copy) with frame := five, quadrant := 0, target := .host 0 0 3 }
  put { rxLab with path := { rxLab.path with crossing := [c] } } [(F.BUF_SHELTER_STAT_COUNT, 8, 8), (F.BUF_POOL_STAT_FREE, 0, 8)]

/-- A copy is admitted with the free bytes of its cycle. The buffer that it takes is a free value that no evaluation goes through, so this meets the hypotheses alone. -/
theorem test_egressArrival : crossing.nextCopy 0 = some 0 ∧
    (let u := ({ crossing with path := { crossing.path with crossing := [] } } : State).xbarMark 0
     let y := u.cycleOf 0 { (default : Copy) with frame := five, quadrant := 0, target := .host 0 0 3 }
     let w : State := { u with path := { u.path with cycles := SMap.put u.path.cycles 0 y } }
     let a := w.asks y.free five (hostQueue 0 0) 3
     w.refusal five (hostQueue 0 0) a.1 a.2 = none ∧ (w.allocFor (hostQueue 0 0) 3 a.1 five).1.isSome = true) := by decide +kernel

/-- Frame 5 for port 17 waits to cross. -/
def bound : State := { crossing with path := { crossing.path with crossing := [{ (default : Copy) with frame := five, quadrant := 0, target := .unicast 17 3 7 }] } }

/-- The same to a port queue; and refused there where the admission limit is nothing, which is counted as QUEUE_FULL. -/
theorem test_egressArrival_unicast : bound.nextCopy 0 = some 0 ∧ bound.ringGroup 17 = none ∧ (bound.live 17).flushing = false ∧
    (let u := ({ bound with path := { bound.path with crossing := [] } } : State).xbarMark 0
     let y := u.cycleOf 0 { (default : Copy) with frame := five, quadrant := 0, target := .unicast 17 3 7 }
     let w : State := { u with path := { u.path with cycles := SMap.put u.path.cycles 0 y } }
     let gq := w.ucastQueue 17 0 0
     let a := w.asks y.free five gq (w.regionOf gq)
     w.refusal five gq a.1 a.2 = none ∧ (w.allocFor gq (w.regionOf gq) a.1 five).1.isSome = true) ∧
    ok (.egressArrival ⟨0, 0, .none⟩) (bound.set F.BUF_PROFILE_ADM_LIMIT (bound.profileOf (bound.ucastQueue 17 0 0)) 0) (fun t =>
      t.path.queues == [] && t.path.bufs == [] && lost t cQueueFull == 1) = true := by decide +kernel

/-- A copy that its merge context has seen is counted as a duplicate and goes no further. -/
theorem test_egressArrival_merge : let g : Frame := { five with vec := { five.vec with rtag := true, rtagSeq := 8 } }
    let c : Copy := { (default : Copy) with frame := g, quadrant := 0, target := .unicast 17 3 7, merge := some (2, 0) }
    let s := ({ bound with path := { bound.path with crossing := [c] } } : State).putObj 6 2 (1 + 64 * 8 + 2 ^ 18)
    let s := s.withWindowFor g 2 0 ⟨8, 1, 1, false, 0, 0⟩
    (s.mergeStep g 0 2 0).1 = false ∧ ok (.egressArrival ⟨0, 0, .none⟩) s (fun t => t.path.crossing == [] && t.path.queues == [] && lost t cMergeDup == 1) = true := by
  decide +kernel

/-- The check: the first frame after a take-any, the one after it, an older one once, and no frame twice. -/
theorem test_mergeCheck : let v := 1 + 64 * 8
    let w : Window := ⟨8, 5, 3, false, 0, 0⟩
    w.expired v 0 = false ∧ (mergeCheck v { w with takeAny := true } 9 0 0).pass = true ∧ (mergeCheck v w 9 0 0).pass = true ∧ (mergeCheck v w 9 0 0).window.rseq = 9 ∧
    (mergeCheck v w 7 0 0).pass = true ∧ (mergeCheck v w 6 0 0).pass = false ∧ (mergeCheck v w 8 0 0).pass = false := by decide +kernel

theorem test_egressArrival_quiesced : let s := put crossing [(F.PTL_SWAP_QUIESCING, 0, 1), (F.PTL_SWAP_QUADRANT, 0, 0)]
    s.quiesced 0 = true ∧ s.nextCopy 0 = some 0 ∧ ok (.egressArrival ⟨0, 0, .corrected 1⟩) s (fun t =>
      t.path.crossing == [] && t.path.queues == [] && t.path.bufs == [] && lost t cFencedUnit == 1) = true := by decide +kernel

/-- Frame 5 stands in queue 768, the first of port 16. -/
def queued : State :=
  let b : Buf := { (default : Buf) with frame := five, size := 2048, holders := 1 }
  let e : QEntry := { (default : QEntry) with buf := 3, closer := true }
  { rxLab with path := { rxLab.path with bufs := [(3, b)], queues := [(768, [e])] } }

theorem test_schedDecision : queued.dealerBusy 1 = false ∧ ((queued.choose 16 [7, 6, 5, 4, 3, 2, 1, 0]).2.map fun x => x.1) = some 768 ∧
    ok (.schedDecision 16) queued (fun t => t.path.dequeues == 1 && (t.live 16).rewriting.map (fun r => (r.entry.buf, r.order)) == [(3, 0)] && t.queue 768 == []) = true := by
  decide +kernel

/-- Queues 770 and 771 of class 0, the second of the better rank, and queue 769 of class 1: the higher class goes first, and in class 0 the better rank (R362, R364). -/
def classes : State :=
  let e : QEntry := { (default : QEntry) with buf := 3, closer := true }
  put { queued with path := { queued.path with queues := [(769, [e]), (770, [e]), (771, [e])] } }
    [(F.SCH_QUEUE_CFG_CLASS, 769, 1), (F.SCH_QUEUE_CFG_RANK, 770, 5), (F.SCH_QUEUE_CFG_RANK, 771, 1)]

theorem test_schedDecision_class : classes.classQueues 16 1 = [769] ∧ classes.selectQueue 16 1 = some 769 ∧
    classes.selectQueue 16 0 = some 771 ∧ classes.discipline 16 0 = .strict ∧ (classes.classOpen 16 1 = true) ∧ classes.selectQueue 16 2 = none ∧
    ok (.schedDecision 16) classes (fun t => t.queue 769 == [] && (t.queue 771).length == 1 && (t.live 16).rewriting.map (fun r => r.queue) == [769]) = true ∧
    ok (.schedDecision 16) (classes.withQueue 769 []) (fun t => t.queue 771 == [] && (t.queue 770).length == 1) = true := by decide +kernel

/-- By finish tag, and by deadline (R365, R366). -/
theorem test_selectQueue : let by_ (x : Discipline) : State := { classes with image := { classes.image with layers := { labLayers with sched := { labLayers.sched with discipline := [(128, x)] } } } }
    let w := by_ .wfq
    let d := by_ .edf
    let e (n : Nat) : QEntry := { (default : QEntry) with buf := 3, closer := true, deadline := n }
    let d := (d.withQueue 770 [e 2]).withQueue 771 [e (2 ^ 32 - 3)]
    w.discipline 16 0 = .wfq ∧ { w with path := { w.path with tags := [(771, { (default : Tags) with finish := 9 })] } }.selectQueue 16 0 = some 770 ∧
    d.discipline 16 0 = .edf ∧ d.selectQueue 16 0 = some 771 := by decide +kernel

/-- Frame 5 in a rewrite engine of tile 1. -/
def editing (r : Rewriting) : State :=
  let r := { r with entry := { r.entry with buf := 3, closer := true } }
  ({ queued with path := { queued.path with queues := [] } }.withLive 16 fun l => { l with rewriting := [r] }).set F.RWE_RECIPE_LOADED 256 1

theorem test_rewriteCommit : let s := editing default
    s.seqBlocked 1 { (default : Rewriting) with entry := { (default : QEntry) with buf := 3, closer := true } } = false ∧ s.ringGroup 16 = none ∧
    ok (.rewriteCommit 16 .none none) s (fun t => (t.live 16).wire.map (fun w => w.sent) == [plain] && (t.live 16).rewriting == []) = true := by decide +kernel

theorem test_rewriteCommit_badTarget : let s := (editing default).set F.RWE_RECIPE_LOADED 256 0
    ok (.rewriteCommit 16 .none none) s (fun t => t.get F.RWE_EVENT_BAD_TARGET 1 == 1 && (t.live 16).wire == []) = true := by decide +kernel

theorem test_rewriteRestart : let s := editing { (default : Rewriting) with waiting := true, abandoned := true }
    s.nextCluster 1 (some 0) = some 1 ∧ s.dealOrder 1 true = [(0, 16)] ∧ ok (.rewriteRestart 16) s (fun t => (t.live 16).rewriting.map (fun r => (r.waiting, r.cluster)) == [(false, 1)]) = true := by
  decide +kernel

theorem test_clusterReloadDone : let s := lab.set F.RWE_STATUS_RELOADING 31 (2 ^ 5)
    ok (.clusterReloadDone 31 5) s (fun t => t.get F.RWE_STATUS_RELOADING 31 == 0) = true := by decide +kernel

theorem test_frameTxDone : let w : OnWire := { (default : OnWire) with entry := { (default : QEntry) with buf := 3, closer := true }, queue := 768, sent := plain.take 40 }
    let s := { queued with path := { queued.path with queues := [] } }.withLive 16 fun l => { l with wire := [w] }
    ok (.frameTxDone ⟨16, .none⟩) s (fun t => t.out.frames == [(16, fit 60 (plain.take 40), true)] && (t.live 16).wire == []) = true := by decide +kernel

theorem test_rwePortDefaultWrite : let s := lab.set F.RWE_RECIPE_LOADED (256 + 1) 1
    s.paramIndex 1 15 = some 15 ∧ ok (.rwePortDefaultWrite 16 (1 + 15 * 256)) s (fun t => t.get F.RWE_PORT_DEFAULT_RECIPE 16 == 1 && t.get F.RWE_PORT_DEFAULT_PARAM 16 == 15) = true := by
  decide +kernel

theorem test_rwePortDefaultWrite_refused : lab.get F.RWE_RECIPE_LOADED (256 + 200) = 0 ∧
    is (.rwePortDefaultWrite 16 200) lab (lab.evT F.RWE_EVENT_DEFAULT_REFUSED 1) = true := by decide +kernel

/-- Recipe 1 is loaded and reads its entry, and tile 31 has no share: refused. -/
theorem test_rwePortDefaultWrite_share : let s := lab.set F.RWE_RECIPE_LOADED (256 * 1 + 1) 1
    readsParam 1 = true ∧ s.paramIndex 1 100 = none ∧ is (.rwePortDefaultWrite 16 (1 + 100 * 256)) s (s.evT F.RWE_EVENT_DEFAULT_REFUSED 1) = true := by decide +kernel

theorem test_schQmapWrite : (List.range 8).all (fun k => lab.queueClass (48 * 16 + 24 + k) == 0) = true ∧
    ok (.schQmapWrite 16 0 (24 + 3 * 32)) lab (fun t => t.get F.SCH_QMAP_UQ_BASE 128 == lab.get F.SCH_QMAP_UQ_BASE 128) = true ∧
    ok (.schQmapWrite 16 0 (28 + 2 * 32)) lab (fun t => t.get F.SCH_QMAP_UQ_BASE 128 == 28 && t.get F.SCH_QMAP_SPAN 128 == 2) = true := by decide +kernel

theorem test_schQmapWrite_refused : is (.schQmapWrite 16 0 (29 + 2 * 32)) lab (lab.evT F.SCH_EVENT_CFG_REFUSED 1) = true ∧
    lab.queueClass (48 * 16 + 31) ≠ 7 ∧ is (.schQmapWrite 16 7 31) lab (lab.evT F.SCH_EVENT_CFG_REFUSED 1) = true := by decide +kernel

/-! ## DRAM and telemetry -/

/-- Both stacks in service. -/
def dram : State :=
  let x : Stack := { (default : Stack) with trainedAt := some 40 }
  { put lab [(F.DRC_STATUS_STATE, 0, 2), (F.DRC_STATUS_STATE, 1, 2)] with drams := [(0, x), (1, x)] }

/-- Where the frame lands is a free value, so this meets the hypotheses alone. -/
theorem test_deepReadback : let e : QEntry := { (default : QEntry) with buf := 2 ^ 26 }
    let s := { dram with path := { dram.path with bufs := [(2 ^ 26, { (default : Buf) with frame := five, size := 2048 })], queues := [(768, [e])] } }
    s.firstDeep 768 = some (0, e) ∧ s.get F.DRC_STATUS_STATE (s.stackOf e.buf) = 2 ∧
      s.depth 768 ≤ s.get F.BUF_PROFILE_AGE_DEEP_THRESH (s.profileOf 768) * 128 ∧
      (s.stack (s.stackOf e.buf)).blocks (s.bursts e.buf (s.entrySize e)) = false ∧ (s.alloc (queueQuad 768) 0 five).1.isSome = true := by decide +kernel

/-- A write of the frame's last burst is still pending: the read waits behind it (R460). -/
theorem test_deepReadback_waits : let e : QEntry := { (default : QEntry) with buf := 2 ^ 26 }
    let s := { dram with path := { dram.path with bufs := [(2 ^ 26, { (default : Buf) with frame := five, size := 2048 })], queues := [(768, [e])] } }
    let l := s.bursts e.buf (s.entrySize e)
    let s := l.getLast?.elim s fun b => s.withStack (s.stackOf e.buf) fun x => { x with writes := [(b.1, [⟨b.2, false⟩])] }
    (s.stack (s.stackOf e.buf)).blocks l = true ∧
      ok (.deepReadback 768 .none) s (fun t => (t.stack (s.stackOf e.buf)).waits == [.readback 768 e.buf .none] && t.path.queues == s.path.queues) = true := by
  decide +kernel

theorem test_dramRefresh : let s := dram.withStack 1 fun x => { x with pcDown := [31, 3] }
    ok (.dramRefresh 1 31 .none) s (fun t => (t.stack 1).pcDown == [3]) = true := by decide +kernel

theorem test_stackTempReport : ok (.stackTempReport 0 (-5)) dram (fun t => t.get F.DRC_STATUS_TEMP 0 == 251 && t.get F.DRC_STATUS_REFRESH 0 == 0) = true ∧
    ok (.stackTempReport 1 96) dram (fun t => t.get F.DRC_STATUS_TEMP 1 == 96 && t.get F.DRC_STATUS_REFRESH 1 == 2) = true := by decide +kernel

theorem test_trainPeriodExpiry : ok (.trainPeriodExpiry 0) (dram.set F.DRC_CFG_TRAIN_PERIOD_S 0 60) (fun t => t.get F.DRC_EVENT_RETRAIN_DUE 0 == 1) = true := by
  decide +kernel

theorem test_pcPowerDown : ok (.pcPowerDown 0 31) dram (fun t => (t.stack 0).pcDown == [31]) = true := by decide +kernel

theorem test_selfRefreshEntry : let s := dram.set F.DRC_CFG_SR_EN 1 1
    s.mayRefreshItself 1 = true ∧ ok (.selfRefreshEntry 1) s (fun t => t.get F.DRC_STATUS_STATE 1 == 3) = true := by decide +kernel

theorem test_selfRefreshExited : let s := dram.set F.DRC_STATUS_STATE 1 4
    is (.selfRefreshExited 1) s (s.set F.DRC_STATUS_STATE 1 2) = true := by decide +kernel

theorem test_dramRetrain : ready dram 7 5 [0, 10] = true ∧ dram.hasShare 0 = true ∧
    ok (.dramRetrain 5 0 10) dram (fun t => (t.stack 0).retrain == some (5, true)) = true := by decide +kernel

theorem test_dramRetrainDrained : let s := dram.withStack 0 fun x => { x with retrain := some (5, true) }
    s.deepIn 0 = [] ∧ ok (.dramRetrainDrained 0) s (fun t => (t.stack 0).retrain == some (5, false) && t.get F.DRC_STATUS_STATE 0 == 1) = true := by
  decide +kernel

theorem test_dramRetrainDone : let s := (dram.withStack 0 fun x => { x with retrain := some (5, false) }).set F.DRC_EVENT_RETRAIN_DUE 0 1
    ok (.dramRetrainDone 0) s (fun t => (t.stack 0).retrain == none && t.get F.DRC_STATUS_STATE 0 == 2 && t.get F.DRC_EVENT_RETRAIN_DUE 0 == 0 && said t 7 5 0 0) = true := by
  decide +kernel

theorem test_queueSample : let s := lab.set F.SMP_CTRL_PERIOD_NS 0 1000
    s.quadAsleep 0 = false ∧ s.telemOn 0 = false ∧ ok (.queueSample ⟨0, 0, .none⟩) s (fun t => t.get F.SMP_CNT_COUNT 0 == 1) = true := by decide +kernel

theorem test_telemExport : dram.telemSize 0 = 65536 ∧ ok (.telemExport 0 (65535 + 2 ^ 31 + 65536 * 2 ^ 32)) dram (fun t =>
    t.get F.DRC_TELEM_EXPORT_CTRL_BUSY 0 == 1 && (t.stack 0).exporting == some (0, 65535, 65536)) = true := by decide +kernel

theorem test_telemExportDone : let s := (dram.withStack 0 fun x => { x with exporting := some (4096, 65535, 2), ring := [(0, 7)] }).set F.DRC_TELEM_EXPORT_CTRL_BUSY 0 1
    ok (.telemExportDone ⟨0, .none⟩) s (fun t => t.get F.DRC_TELEM_EXPORT_CTRL_DONE 0 == 1 && t.get F.DRC_TELEM_EXPORT_CTRL_BUSY 0 == 0 &&
      SMap.find t.out.hostMem (4096 + 16) == some 7) = true := by decide +kernel

/-! ## Time -/

theorem test_timRateWrite : ok (.timRateWrite (2 ^ 32 - 1)) lab (fun t =>
    t.time.rate == 0 && t.time.pendingRate == some (-1) && t.get F.TIM_ADJ_CTRL_BUSY 0 == 1) = true := by decide +kernel

theorem test_timeBeacon : let s := { lab.set F.TIM_ADJ_CTRL_BUSY 0 1 with time := { lab.time with pendingRate := some (-1) } }
    ok .timeBeacon s (fun t => t.time.rate == -1 && t.time.pendingRate == none && t.get F.TIM_ADJ_CTRL_BUSY 0 == 0) = true := by decide +kernel

theorem test_timeBeacon_step : let s := { lab with time := { lab.time with pendingStep := some (2, 5), master := 7 } }
    ok .timeBeacon s (fun t => t.time.master == 2 && t.time.pendingStep == none && t.get F.TIM_EVENT_STEPPED 0 == 1) = true := by decide +kernel

/-- A step of 999,999,999 ns is asked for. -/
def stepping : State := lab.set F.TIM_ADJ_ARG_NS_NS 0 999999999

theorem test_timStep : stepping.stepRefused 1 = false ∧ stepping.stepRefused 3 = false ∧
    ok .timStepForward stepping (fun t => t.time.pendingStep == some (1, 999999999 * unitNs)) = true ∧
    ok .timStepSet stepping (fun t => t.time.pendingStep == some (3, 999999999 * unitNs)) = true := by decide +kernel

theorem test_timStepBack : let s := { stepping with time := { lab.time with master := 10 ^ 9 * unitNs } }
    s.stepRefused 2 = false ∧ ok .timStepBack s (fun t => t.time.pendingStep == some (2, 999999999 * unitNs)) = true ∧
    stepping.stepRefused 2 = true ∧ is .timStepBack stepping (stepping.evTim F.TIM_EVENT_ADJ_REFUSED) = true := by decide +kernel

theorem test_timStep_refused : let s := lab.set F.TIM_ADJ_ARG_NS_NS 0 1000000000
    s.stepRefused 1 = true ∧ is .timStepForward s (s.evTim F.TIM_EVENT_ADJ_REFUSED) = true ∧ s.stepRefused 3 = true ∧
    is .timStepSet s (s.evTim F.TIM_EVENT_ADJ_REFUSED) = true := by decide +kernel

theorem test_timNowRead : ok .timNowRead { lab with time := { lab.time with master := (5 * 10 ^ 9 + 7) * unitNs } } (fun t =>
    t.out.readData == some (7 * 2 ^ 32) && t.get F.TIM_NOW_HI_SECONDS 0 == 5) = true := by decide +kernel

theorem test_pinCapture : let s := { lab with time := { lab.time with master := (5 * 10 ^ 9 + 7) * unitNs } }
    s.hasPin (capFn .evt1) = true ∧ s.capEdge .evt1 = 0 ∧
    ok (.pinCapture .evt1 true) s (fun t => t.get F.TIM_CAP_LO_NS 2 == 7 && t.get F.TIM_EVENT_EVT1 0 == 1) = true := by decide +kernel

theorem test_ppsOutEdge : let s := { put lab [(F.TIM_PPS_OUT_PERIOD_NS, 0, 1000), (F.TIM_PPS_OUT_PHASE_NS, 0, 5), (F.TIM_PPS_WIDTH_WIDTH_NS, 0, 8), (F.TIM_PPS_OUT_EN, 0, 1)] with time := { lab.time with master := (5 * 10 ^ 9 + 2004) * unitNs } }
    s.ppsNow = (1000, 5, 8, true) ∧ ok .ppsOutEdge s (fun t => t.out.pps == [(5 * 10 ^ 9 + 1005, 8)]) = true := by decide +kernel

/-- The same edge lies before where a step left the master: it is not sent (R337). -/
theorem test_ppsOutEdge_stepped : let s := { put lab [(F.TIM_PPS_OUT_PERIOD_NS, 0, 1000), (F.TIM_PPS_OUT_PHASE_NS, 0, 5), (F.TIM_PPS_WIDTH_WIDTH_NS, 0, 8), (F.TIM_PPS_OUT_EN, 0, 1)] with time := { lab.time with master := (5 * 10 ^ 9 + 2004) * unitNs, stepAt := (5 * 10 ^ 9 + 1006) * unitNs } }
    s.ppsNow = (1000, 5, 8, true) ∧ is .ppsOutEdge s s = true := by decide +kernel

/-- An edge between a second's last tick and its end is due in the next second (R356). -/
theorem test_ppsOutEdge_late : let s := { put lab [(F.TIM_PPS_OUT_PERIOD_NS, 0, 1000), (F.TIM_PPS_OUT_PHASE_NS, 0, 990), (F.TIM_PPS_WIDTH_WIDTH_NS, 0, 8), (F.TIM_PPS_OUT_EN, 0, 1)] with
      time := { lab.time with master := (5 * 10 ^ 9 + 999999987) * unitNs } }
    let t := s.ppsWrap { s with time := { s.time with master := (6 * 10 ^ 9) * unitNs } }
    s.ppsNow = (1000, 990, 8, true) ∧ t.time.ppsLate = some (5 * 10 ^ 9 + 999999990, 8) ∧
    ok .ppsOutEdge t (fun u => u.out.pps == [(5 * 10 ^ 9 + 999999990, 8)] && u.time.ppsLate == none) = true := by decide +kernel

theorem test_timPpsOutWrite : ppsOk 1000000000 999999999 (lab.get F.TIM_PPS_WIDTH_WIDTH_NS 0) = true ∧
    ok (.timPpsOutWrite false (1000000000 + 999999999 * 2 ^ 30 + 2 ^ 60)) lab (fun t =>
      t.get F.TIM_PPS_OUT_PHASE_NS 0 == 999999999 && t.get F.TIM_PPS_OUT_EN 0 == 1 && t.ppsNow == lab.ppsNow) = true := by decide +kernel

theorem test_timPpsWidthWrite : ok (.timPpsOutWrite true 8) lab (fun t => t.get F.TIM_PPS_WIDTH_WIDTH_NS 0 == 8 && t.ppsNow == lab.ppsNow) = true := by
  decide +kernel

theorem test_todOutSend : let s := { lab.set F.TIM_TOD_OUT_EN 0 1 with time := { lab.time with todDue := some 5000000000 } }
    ok .todOutSend s (fun t => t.out.tod == [todMessage 5000000000 (s.get F.TIM_TOD_OUT_UTC_OFFSET 0) (s.get F.TIM_TOD_OUT_FLAGS 0)]) = true := by decide +kernel

theorem test_todInRx : let m := todMessage 5000000009 37 1
    todOk m = true ∧ ok (.todInRx m) lab (fun t => t.get F.TIM_TOD_IN_0_SECONDS 0 == 5 && t.get F.TIM_TOD_IN_1_NS 0 == 9 && t.get F.TIM_EVENT_TOD_IN 0 == 1) = true := by
  decide +kernel

theorem test_todInRx_bad : is (.todInRx [0xA7]) lab (lab.evTim F.TIM_EVENT_TOD_IN_ERR) = true := by decide +kernel

/-! ## Shapers, gates and timestamps -/

/-- Of two ports of a tile: a shaper that is on fills to its burst, settings written before the instant come into force full, settings written at it wait. -/
theorem test_shaperRefill : let s := put lab [(F.SCH_PORT_SHAPER_EN, 17, 1), (F.SCH_PORT_SHAPER_RATE, 17, 7), (F.SCH_PORT_SHAPER_BURST, 17, 64)]
    let s := { s with elapsed := 50 }.withShaper 16 8 fun _ => ⟨true, 1000, 64, 64 * 65536, none, none⟩
    let w (at_ : Nat) : State := s.withShaper 17 8 fun x => { x with wrote := some at_ }
    s.portsOf 1 = [16, 17] ∧ s.shaperRegs 17 8 = (true, 7, 64) ∧
    ok (.shaperRefill 1) (w 49) (fun t => (t.shaper 16 8).bucket == 64 * 65536 && (t.shaper 17 8).on && (t.shaper 17 8).rate == 7 &&
      (t.shaper 17 8).bucket == 64 * 65536 && (t.shaper 17 8).wrote == none) = true ∧
    ok (.shaperRefill 1) (w 50) (fun t => !(t.shaper 17 8).on && (t.shaper 17 8).wrote == some 50) = true := by decide +kernel

theorem test_tsfPop : let s := { lab with path := { lab.path with tsf := [(1, [default, ⟨16, 0, 0, 1, 4⟩])] } }
    ok (.tsfPop 1 1) s (fun t => t.tsfRecords 1 == [⟨16, 0, 0, 1, 4⟩]) = true := by decide +kernel

/-- A list of one entry of 1 ms that opens class 0, at port 16 and at stream gate 0. -/
def listed : State := put lab [(F.GAT_PORT_CTRL_ADMIN_EN, 16, 1), (F.GAT_PORT_CTRL_ADMIN_LEN, 16, 1), (F.GAT_PORT_CYCLE_CYCLE_NS, 16, 1000),
  (F.GAT_ADMIN_LIST_ENTRY, 2048, 1000 * 256 + 1), (F.GAT_SG_CTRL_ADMIN_EN, 0, 1), (F.GAT_SG_CTRL_ADMIN_LEN, 0, 1), (F.GAT_SG_CYCLE_CYCLE_NS, 0, 1000),
  (F.GAT_SG_ADMIN_LIST_ENTRY, 0, 1000 * 256 + 1)]

theorem test_gateChange : listed.adminOk (listed.portGate 16) = true ∧
    ok (.gateChange 16) listed (fun t => (t.gate 16).pending.any fun l => l.entries == listed.adminList (listed.portGate 16) && l.cycle == 1000 && !l.clear) = true := by
  decide +kernel

/-- A list waits at port 16 and at stream gate 0. -/
def waiting : State := { lab with gates := [(16, ⟨none, some ⟨[1000 * 256 + 1], 0, 1000, false⟩⟩), (512, ⟨none, some ⟨[1000 * 256], 0, 1000, false⟩⟩)] }

theorem test_gateCancel : ok (.gateCancel 16) waiting (fun t => (t.gate 16).pending == none) = true := by decide +kernel

theorem test_gateListStart : ok (.gateListStart 16) waiting (fun t => (t.gate 16).oper == (waiting.gate 16).pending && (t.gate 16).pending == none) = true := by
  decide +kernel

theorem test_sgChange : listed.adminOk (streamGateRegs 0) = true ∧
    ok (.sgChange 0) listed (fun t => (t.gate 512).pending.any fun l => l.entries == listed.adminList (streamGateRegs 0) && !l.clear) = true := by decide +kernel

theorem test_sgCancel : ok (.sgCancel 0) waiting (fun t => (t.gate 512).pending == none) = true := by decide +kernel

theorem test_sgListStart : ok (.sgListStart 0) waiting (fun t => (t.gate 512).oper == (waiting.gate 512).pending && (t.gate 512).pending == none) = true := by
  decide +kernel

/-- The lists in force. -/
def running : State := { lab with gates := [(16, ⟨some ⟨[1000 * 256 + 1], 0, 1000, false⟩, none⟩), (512, ⟨some ⟨[1000 * 256], 0, 1000, false⟩, none⟩)] }

theorem test_gateEntryTransition : ok (.gateEntryTransition 17) running (fun t => t.get F.GAT_PORT_STATUS_STATES 17 == 255) = true ∧
    ok (.gateEntryTransition 16) running (fun t => some (t.get F.GAT_PORT_STATUS_STATES 16) == ((running.gate 16).inForce running.nowNs).map fun l => bits (l.at running.nowNs).2 0 8) = true := by
  decide +kernel

theorem test_sgTransition : ok (.sgTransition 1) running (fun t => t.get F.GAT_SG_STATUS_OPEN 1 == 1) = true ∧
    ok (.sgTransition 0) running (fun t => some (t.get F.GAT_SG_STATUS_OPEN 0) == ((running.gate 512).inForce running.nowNs).map fun l => b2n (bitOf (l.at running.nowNs).2 0)) = true := by
  decide +kernel

/-! ## Elytra -/

/-- Slot 5 of tile 1 holds a staged half of AES-128, PN 1, READY; port 16 sends under slot 5 and receives under slot 6. -/
def staged5 : State :=
  let s := put lab [(F.ELY_SLOT_STG_CFG_READY, 5, 1), (F.ELY_SLOT_STG_PN_PN, 5, 1), (F.PRT_SEC_CFG_TX_SLOT, 16, 5), (F.PRT_SEC_CFG_RX_SLOT, 16, 6)]
  s.withSlot 5 fun k => { k with stagedKey := 2 ^ 255, written := 3 }

theorem test_slotSwap : staged5.layers.partition 5 = some ⟨0, 8, 1⟩ ∧ staged5.slotPort 5 = some (16, false) ∧ staged5.slotIdle 5 = true ∧
    ok (.slotSwap 5) staged5 (fun t => (t.slot 5).active == staged5.stagedHalf 5 && (t.slot 5).stagedKey == 0 && t.get F.ELY_SLOT_STG_CFG_READY 5 == 0 &&
      t.get F.ELY_SLOT_STATUS_SWAP_PENDING 5 == 0) = true := by decide +kernel

theorem test_slotSwap_waits : let s := (staged5.set F.PRT_STATUS_LINK_UP 16 1).withLive 16 fun l => { l with wire := [default] }
    s.slotIdle 5 = false ∧ is (.slotSwap 5) s (s.set F.ELY_SLOT_STATUS_SWAP_PENDING 5 1) = true := by decide +kernel

theorem test_swapTakesEffect : let s := staged5.set F.ELY_SLOT_STATUS_SWAP_PENDING 5 1
    ok (.swapTakesEffect 5) s (fun t => (t.slot 5).active == s.stagedHalf 5 && t.get F.ELY_SLOT_STATUS_SWAP_PENDING 5 == 0) = true := by decide +kernel

theorem test_slotZeroize : let s := staged5.withSlot 5 fun k => { k with active := { Half.empty with valid := true, key := 9 } }
    ok (.slotZeroize 5) s (fun t => (t.slot 5).active == Half.empty && (t.slot 5).stagedKey == 0 && t.get F.ELY_SLOT_STG_CFG_READY 5 == 0) = true := by
  decide +kernel

theorem test_slotClearStaged : ok (.slotClearStaged 5) staged5 (fun t => (t.slot 5).stagedKey == 0 && t.get F.ELY_SLOT_STG_CFG_READY 5 == 0) = true := by
  decide +kernel

theorem test_keyErased : let s := lab.set F.ELY_SLOT_STATUS_ERASING 8191 1
    is (.keyErased 8191) s (s.set F.ELY_SLOT_STATUS_ERASING 8191 0) = true := by decide +kernel

theorem test_stgCfgWrite : (staged5.slot 5).written &&& suiteWords 0 = suiteWords 0 ∧
    ok (.stgCfgWrite 5 (16 + 3 * 4)) staged5 (fun t => t.get F.ELY_SLOT_STG_CFG_AN 5 == 3 && t.get F.ELY_SLOT_STG_CFG_READY 5 == 1) = true := by decide +kernel

theorem test_stgCfgWrite_error : is (.stgCfgWrite 5 (16 + 1)) staged5 (staged5.set F.ELY_SLOT_STATUS_WRITE_ERR 5 1) = true ∧
    (let s := staged5.set F.ELY_SLOT_STG_PN_PN 5 0; is (.stgCfgWrite 5 16) s (s.set F.ELY_SLOT_STATUS_WRITE_ERR 5 1)) = true := by decide +kernel

theorem test_prtSecCfgWrite : lab.slotOfTile 0 1 = true ∧ lab.slotOfTile 7 1 = true ∧ lab.slotPort 0 = none ∧ lab.slotPort 7 = none ∧
    ok (.prtSecCfgWrite 16 (1 + 7 * 2 ^ 19)) lab (fun t => t.get F.PRT_SEC_CFG_TX_EN 16 == 1 && t.get F.PRT_SEC_CFG_TX_SCI 16 == 0 && t.get F.PRT_SEC_CFG_RX_SLOT 16 == 7) = true := by
  decide +kernel

/-- Refused: equal slots, a slot of port 17, a change of the slot in use, with CFG_ERR; a slot outside the partitions, and enabling in a tile that has none, with a claim record of kind 7. -/
theorem test_prtSecCfgWrite_error : let e (s : State) (v : Nat) : Bool := is (.prtSecCfgWrite 16 v) s (s.evSec F.PRT_SEC_EVENT_CFG_ERR 16)
    let named := put lab [(F.PRT_SEC_CFG_TX_SLOT, 17, 3), (F.PRT_SEC_CFG_RX_SLOT, 17, 4)]
    let inUse := put lab [(F.PRT_SEC_CFG_TX_EN, 16, 1), (F.PRT_SEC_CFG_TX_SLOT, 16, 3), (F.PRT_SEC_CFG_RX_SLOT, 16, 4)]
    e lab (7 * 2 ^ 6 + 7 * 2 ^ 19) = true ∧ named.slotPort 3 = some (17, false) ∧ e named (3 * 2 ^ 6 + 7 * 2 ^ 19) = true ∧
    e inUse (1 + 5 * 2 ^ 6 + 4 * 2 ^ 19) = true ∧
    lab.slotOfTile 64 1 = false ∧ ok (.prtSecCfgWrite 16 (64 * 2 ^ 6)) lab (fun t => t.get F.PTL_CLAIM_ERR_VALID 0 == 1 && t.get F.PRT_SEC_CFG_TX_SLOT 16 == 0) = true ∧
    lab.layers.secure.all (fun c => c.tile != 0) = true ∧ is (.prtSecCfgWrite 0 1) lab ((lab.evSec F.PRT_SEC_EVENT_CFG_ERR 0).claimErr 7 0 0) = true := by
  decide +kernel

theorem test_secChannelSwitch : ok (.secChannelSwitch 16) (lab.set F.PRT_SEC_CFG_RX_EN 16 1) (fun t => !(t.live 16).secTx && (t.live 16).secRx) = true := by
  decide +kernel

theorem test_entropyHealthFail : ok .entropyHealthFail (lab.set F.TOP_ENTROPY_HEALTH_OK 0 1) (fun t =>
    t.get F.TOP_ENTROPY_HEALTH_OK 0 == 0 && t.get F.TOP_ENTROPY_FAIL 0 == 1 && (SMap.find t.sundew.caps 0x00A).isSome) = true := by decide +kernel

theorem test_drbgReseed : let s := lab.set F.TOP_ENTROPY_HEALTH_OK 0 1
    is (.drbgReseed true) s (s.set F.TOP_ENTROPY_STALE 0 0) = true ∧ is (.drbgReseed false) s (s.set F.TOP_ENTROPY_STALE 0 1) = true := by decide +kernel

/-! ## Sundew -/

theorem test_faultReport : sourceValid 0x110 = true ∧ isUnitFault 0x110 1 0 = false ∧
    ok (.faultReport 0x110 1 9 2 0) lab (fun t => (SMap.find t.sundew.caps 0x110).any fun c => c.valid && c.kind == 1 && c.master == 2 && c.address == 9) = true := by
  decide +kernel

theorem test_fenceComplete : let s := { lab with sundew := { lab.sundew with fencing := [(0x115, 0)] } }
    ok (.fenceComplete 0x115 0) s (fun t => t.isFenced 0x115 0 && !t.sundew.fencing.contains (0x115, 0)) = true := by decide +kernel

theorem test_fltFenceCmd : fenceable .o 0x114 47 = true ∧ fenceable .o 0x114 48 = false ∧
    ok (.fltFenceCmd (0x5AA5 * 2 ^ 48 + 47 * 2 ^ 16 + 0x114)) lab (fun t => t.sundew.fencing.contains (0x114, 47) && (SMap.find t.sundew.caps 0x114).isSome) = true := by
  decide +kernel

theorem test_fltFenceCmd_refused : is (.fltFenceCmd (0x5AA5 * 2 ^ 48 + 48 * 2 ^ 16 + 0x114)) lab (lab.evC F.FLT_STATUS_CMD_REFUSED 0) = true ∧
    is (.fltFenceCmd (47 * 2 ^ 16 + 0x114)) lab (lab.evC F.FLT_STATUS_CMD_REFUSED 0) = true := by decide +kernel

theorem test_fltMsgPop : ok (.fltMsgPop 1) { lab with sundew := { lab.sundew with msgs := [1, 2] } } (fun t => t.sundew.msgs == [2]) = true := by decide +kernel

theorem test_faultLogWrite : let d : LogDue := ⟨1, 0x110, default⟩
    let s := { lab.set F.FLT_LOG_CTRL_AUTO 0 1 with sundew := { lab.sundew with log := [d], line := 32767, seq := 2 ^ 32 - 1 } }
    ok .faultLogWrite s (fun t => t.sundew.log == [] && t.sundew.seq == 0 && t.sundew.line == 0 && Mem.readList t.nvm (0x1500000 - 64) 4 == beBytes 0x464C5452 4) = true := by
  decide +kernel

theorem test_faultLogFlush : let s := { lab with sundew := { lab.sundew with caps := [(0x110, { (default : Capture) with valid := true })] } }
    ready s 13 5 [0] = true ∧ ok (.faultLogFlush 5) s (fun t => said t 13 5 0 0 && t.sundew.seq == 1) = true := by decide +kernel

theorem test_faultLogErase : let s := { lab with nvm := [(0x12FFFFF, 1), (0x1300000, 2), (0x14FFFFF, 3), (0x1500000, 4)], sundew := { lab.sundew with seq := 5, line := 6 } }
    ready s 13 5 [1] = true ∧ ok (.faultLogErase 5) s (fun t => said t 13 5 0 0 && t.sundew.seq == 0 && t.nvm == [(0x12FFFFF, 1), (0x1500000, 4)]) = true := by
  decide +kernel

/-! ## The host interface -/

/-- Transmit ring 32 has one descriptor of 64 octets posted, receive ring 0 one buffer. -/
def ringed : State :=
  let s := put lab [(F.HST_RING_CTRL_ENABLE, 0, 1), (F.HST_RING_CTRL_ENABLE, 32, 1), (F.HST_RING_TAIL_TAIL, 0, 1), (F.HST_RING_TAIL_TAIL, 32, 1)]
  { s with host := { s.host with rings := [(0, ⟨[4096], 0, 0⟩), (32, ⟨[64 * 2 ^ 64 + 9 * 2 ^ 128], 0, 0⟩)] } }

theorem test_hstRingTailWrite : ok (.hstRingTailWrite 32 63 [1, 2]) lab (fun t => t.get F.HST_RING_TAIL_TAIL 32 == 63 && (t.hring 32).posted.length == t.hposted 32) = true := by
  decide +kernel

theorem test_txDescriptor : ringed.hready 32 = true ∧ ringed.txTurn 0 = some 32 ∧ ringed.txStatus 0 (64 * 2 ^ 64 + 9 * 2 ^ 128) = 0 ∧
    ok (.txDescriptor 32 (some plain)) ringed (fun t => (t.staged 512).map (fun f => (f.port, f.bytes)) == [(512, plain)] && t.get F.HST_RING_HEAD_HEAD 32 == 1) = true := by
  decide +kernel

theorem test_txDescriptor_bad : let s := { ringed with host := { ringed.host with rings := [(32, ⟨[17 * 2 ^ 64], 0, 0⟩)] } }
    s.txStatus 0 (17 * 2 ^ 64) = 1 ∧ ok (.txDescriptor 32 none) s (fun t => t.get F.HST_RING_EVENT_BAD_DESC 32 == 1 && t.get F.HST_PORT_CNT_COUNT 4 == 1) = true := by
  decide +kernel

/-- The bytes and the record of a frame's last buffer reach host memory and the frame its end; with a smaller buffer the delivery waits for the next one. -/
theorem test_rxDelivery : let b : Buf := { (default : Buf) with frame := five, size := 2048, holders := 1 }
    let e : QEntry := { (default : QEntry) with buf := 3, closer := true }
    let s := { ringed with path := { ringed.path with bufs := [(3, b)], delivering := [(0, (24576, e, 0))] } }
    s.hready 0 = true ∧ s.get F.HST_RING_WB_ADDR 0 = 0 ∧ ok (.rxDelivery ⟨0, .none⟩) s (fun t => SMap.find t.path.delivering 0 == none && t.get F.HST_PORT_CNT_COUNT 0 == 1 && t.path.bufs == [] &&
      t.out.hostMem == ((s.hostWrite 4096 plain).hostWrite 0 (leBytes (rxRecord 60 true true five 24576 0 none) 32)).out.hostMem) = true ∧
    (let s := s.set F.HST_RING_CTRL_BUF_SIZE 0 40
     ok (.rxDelivery ⟨0, .none⟩) s (fun t => SMap.find t.path.delivering 0 == some (24576, e, 40) && t.path.bufs != [] &&
      t.out.hostMem == ((s.hostWrite 4096 (plain.take 40)).hostWrite 0 (leBytes (rxRecord 40 true false five 24576 0 none) 32)).out.hostMem) = true) := by decide +kernel

/-- What the report of a failed access says is in part a free value, so this meets the hypotheses alone. -/
theorem test_dmaError : ringed.hserves 0 = true ∧ ringed.hserves 32 = true := by decide +kernel

theorem test_itrTimerExpiry : let s := put { ringed with host := { ringed.host with rings := [(0, ⟨[], 3, 0⟩)] } } [(F.HST_RING_CTRL_ITR_US, 0, 1)]
    ok (.itrTimerExpiry 0) s (fun t => (t.hring 0).unsignalled == 0 && t.get F.HST_INT_CAUSE_CAUSE 0 == 1) = true := by decide +kernel

theorem test_perstNAssert : ok (.perstNAssert 0) ringed (fun t => t.pins.perstLow && !t.pins.hostAllowed && t.host.rings == [] && t.get F.HST_RING_CTRL_ENABLE 32 == 0) = true := by
  decide +kernel

theorem test_hostAccessStop : ok (.hostAccessStop 0) ringed (fun t => !t.pins.hostAllowed && !t.pins.perstLow) = true := by decide +kernel

/-- A frame under delivery, one queued, a store of host data and an export, as host memory goes out of reach. -/
theorem test_hostAccessStop_work : let b : Buf := { (default : Buf) with frame := five, size := 2048, holders := 1 }
    let e : QEntry := { (default : QEntry) with buf := 3, closer := true }
    let s := { ringed with
      path := { ringed.path with bufs := [(3, b), (4, b)], delivering := [(0, (24576, e, 0))], queues := [(24577, [{ e with buf := 4 }])] }
      nvmJob := some (.store 5 7 true [(0x1600000, [1])]), drams := [(0, { (default : Stack) with exporting := some (0, 1, 2) })] }
    ok (.hostAccessStop 0) s (fun t => t.path.delivering == [] && t.get F.HST_PORT_CNT_COUNT 6 == 1 && t.path.queues == [] && t.path.bufs == [] &&
      t.get F.BUF_DROP_CNT_COUNT cLinkFlush == 1 && t.nvmJob == none && said t 4 5 0 nvmDma && (t.stack 0).exporting.isNone &&
      t.get F.DRC_TELEM_EXPORT_CTRL_ERR 0 == 1) = true ∧
    (let s := { s with nvmJob := some (.read 5 7 0 64 0) }; ok (.perstNAssert 0) s (fun t => t.nvmJob == none && said t 5 5 0 nvmDma) = true) := by decide +kernel

theorem test_hostAccessResume : let s := { lab with pins := { lab.pins with hostAllowed := false, perstLow := true } }
    ok .hostAccessResume s (fun t => t.pins.hostAllowed && !t.pins.perstLow) = true := by decide +kernel

theorem test_mailboxDoorbell : lab.mailReach = true ∧ is (.mailboxDoorbell 1) lab (lab.set F.FWM_STATUS_SLOT_BUSY 0 1) = true ∧
    (let s := lab.set F.FWM_STATUS_SLOT_BUSY 0 1; is (.mailboxDoorbell 1) s (s.evC F.HST_RING_EVENT_DOORBELL_LOST 0)) = true := by decide +kernel

/-- A command stands in the mailbox slot. -/
def mailed (op arg : Nat) : State := put lab [(F.FWM_STATUS_SLOT_BUSY, 0, 1), (F.FWM_CMD_OPCODE, 0, op), (F.FWM_CMD_TAG, 0, 7), (F.FWM_ARG_ARG, 0, arg)]

theorem test_mailboxTake : (mailed 12 3).mailRefusal 12 [3] = none ∧
    ok .mailboxTake (mailed 12 3) (fun t => t.get F.FWM_STATUS_SLOT_BUSY 0 == 0 && t.host.taken == [⟨12, 7, [3]⟩]) = true := by decide +kernel

theorem test_mailboxTake_refused : (mailed 14 0).mailRefusal 14 [0] = some mbBadOpcode ∧
    ok .mailboxTake (mailed 14 0) (fun t => t.get F.FWM_STATUS_SLOT_BUSY 0 == 0 && said t 14 7 2 0 && t.host.taken == []) = true := by decide +kernel

theorem test_fwmRespPop : ok (.fwmRespPop 1) { lab with host := { lab.host with resp := [default, ⟨1, 2, 0, 0, 0⟩] } } (fun t => t.host.resp == [⟨1, 2, 0, 0, 0⟩]) = true := by
  decide +kernel

theorem test_fwInfo : ready lab 1 5 [] = true ∧ ok (.fwInfo 5) lab (fun t => said t 1 5 0 0) = true := by decide +kernel

/-- A sleeping Caddis is restarted by a command and completes it (R117). -/
theorem test_fwInfo_asleep : let s := { lab with clocks := { lab.clocks with caddisAsleep := true } }
    ready s 1 5 [] = true ∧ ok (.fwInfo 5) s (fun t => said t 1 5 0 0 && !t.clocks.caddisAsleep) = true := by decide +kernel

theorem test_patchStatus : ready lab 6 5 [] = true ∧ ok (.patchStatus 5) (lab.set F.TOP_BOOT_PATCH_RESULT 0 6) (fun t => said t 6 5 0 6) = true := by decide +kernel

/-- The SMBus offset points at a register. -/
def smb (off : Nat) : State := { lab with host := { lab.host with smbOffset := off } }

theorem test_smbSetOffset : ok (.smbSetOffset ⟨0x100000F, true⟩) lab (fun t => t.host.smbOffset == 8) = true ∧
    ok (.smbSetOffset ⟨0x100000F, false⟩) lab (fun t => t.host.smbOffset == 0 && t.host.smbPecErr && t.regs == lab.regs) = true := by decide +kernel

theorem test_smbRead : registerAt 0x70100 = some (R.FLT_CAP_SEL, 0) ∧ (smb 0x70100).smbWindow 0x70100 = true ∧
    ok (.smbRead true) ((smb 0x70100).set F.FLT_CAP_SEL_SOURCE 0 9) (fun t => t.out.readData == some 9 && t.host.smbOffset == 0x70108) = true := by decide +kernel

theorem test_smbRead_refused : (smb 0x80000).smbWindow 0x80000 = false ∧ ok (.smbRead true) (smb 0x80000) (fun t => t.out.readData == some 0 && t.host.smbRefused) = true := by
  decide +kernel

theorem test_smbWrite : ok (.smbWrite 0x3FF true) (smb R.FLT_CAP_SEL.base) (fun t => t.get F.FLT_CAP_SEL_SOURCE 0 == 0x3FF && t.host.smbOffset == 0x70108) = true := by
  decide +kernel

theorem test_smbWrite_refused : ok (.smbWrite 1 true) (smb 0x80000) (fun t => t.host.smbRefused && t.regs == lab.regs) = true ∧
    ok (.smbWrite 1 false) (smb 0x70100) (fun t => t.host.smbPecErr && t.host.smbOffset == 0x70100 && t.regs == lab.regs) = true := by decide +kernel

/-- A write over SMBus clears sticky bits by ones, and leaves read-only fields. -/
theorem test_smbWrite_fields : let s := (smb R.FLT_STATUS.base).set F.FLT_STATUS_CMD_REFUSED 0 1
    registerAt R.FLT_STATUS.base = some (R.FLT_STATUS, 0) ∧ fieldByField R.FLT_STATUS = true ∧ s.smbWindow R.FLT_STATUS.base = true ∧
    ok (.smbWrite (2 ^ 64 - 1) true) s (fun t => t.get F.FLT_STATUS_CMD_REFUSED 0 == 0 && t.get F.FLT_STATUS_COUNT 0 == 0) = true := by decide +kernel

theorem test_smbStatusRead : ok .smbStatusRead { lab with host := { lab.host with smbPecErr := true } } (fun t => t.out.readData == some 2) = true := by decide +kernel

theorem test_jtagBypass : lab.pins.held = false ∧ ok (.jtagBypass good) lab (fun t => t.pins.tap == .bypass && t.out.tdo == some 0) = true := by decide +kernel

theorem test_jtagIdcode : ok (.jtagIdcode good) lab (fun t => t.pins.tap == .idcode && t.out.tdo == some 0x110249CB) = true := by decide +kernel

theorem test_jtagSamplePreload : ok (.jtagSamplePreload ⟨5, [9]⟩ good) lab (fun t => t.pins.tap == .samplePreload && t.pins.boundary == 5 && t.pins.shiftIn == [9]) = true := by
  decide +kernel

theorem test_jtagExtest : let s := { lab with pins := { lab.pins with shiftIn := [9] } }
    ok .jtagExtest s (fun t => t.pins.tap == .extest && t.get F.TOP_BOOT_READY 0 == 0 && t.pins.boundary == 9 && t.pins.shiftIn == []) = true := by decide +kernel

theorem test_jtagClamp : ok .jtagClamp lab (fun t => t.pins.tap == .clamp && t.keys == [] && t.out.tdo == some 0) = true := by decide +kernel

theorem test_jtagHighz : ok .jtagHighz lab (fun t => t.pins.tap == .highz && t.path.queues == [] && t.out.tdo == some 0) = true := by decide +kernel

theorem test_tapReset : let s := { lab with pins := { lab.pins with tap := .extest } }
    s.pins.held = true ∧ ok (.tapReset good) s (fun t => t.get F.TOP_BOOT_READY 0 == 1 && t.pins.tap == .idcode) = true := by decide +kernel

/-- Output lands: the VID code stands while POR_N is low, when every other output is released; HIGHZ releases all; PPS_OUT is low until it is enabled (R527, R542, R546). -/
theorem test_lands : let por := { lab with pins := { lab.pins with porLow := true } }
    por.land (.vid 2 1) = .high ∧ por.land (.mfp 1) = .released ∧ lab.land (.mfp 1) = .low ∧
    ({ lab with pins := { lab.pins with tap := .highz } } : State).land (.vid 2 1) = .released ∧ lab.land (.intN 0) = .released ∧
    ({ lab with pins := { lab.pins with tap := .highz }, out := { lab.out with tdo := some 0 } } : State).land .tdo ≠ .released ∧
    (lab.set F.TIM_PPS_OUT_EN 0 1).land (.mfp 1) = .function := by decide +kernel

/-! ## Register access -/

theorem test_rcRead : registerAt (R.PRT_CNT.offset (64 * 16 + 9)) = some (R.PRT_CNT, 64 * 16 + 9) ∧ lab.reach (R.PRT_CNT.offset (64 * 16 + 9)) = .served ∧
    lab.instanceUsed R.PRT_CNT (64 * 16 + 9) = true ∧
    ok (.rcRead (.bar0 (R.PRT_CNT.offset (64 * 16 + 9))) 8) (lab.set F.PRT_CNT_COUNT (64 * 16 + 9) 3) (fun t => t.out.readData == some 3 && t.get F.PRT_CNT_COUNT (64 * 16 + 9) == 0) = true := by
  decide +kernel

/-- A narrow read returns its bytes and clears nothing. -/
theorem test_rcRead_narrow : let s := lab.set F.PRT_CNT_COUNT (64 * 16 + 9) (2 ^ 32 + 3)
    let off := R.PRT_CNT.offset (64 * 16 + 9)
    ok (.rcRead (.bar0 off) 4) s (fun t => t.out.readData == some 3 && t.get F.PRT_CNT_COUNT (64 * 16 + 9) == 2 ^ 32 + 3) = true ∧
    ok (.rcRead (.bar0 (off + 4)) 2) s (fun t => t.out.readData == some 1 && t.regs == s.regs) = true := by decide +kernel

theorem test_extremumRead : registerAt (R.HUM_TEMP.offset 3) = some (R.HUM_TEMP, 3) ∧
    ok (.extremumRead (R.HUM_TEMP.offset 3) 8) (put lab [(F.HUM_TEMP_TJ, 3, 5), (F.HUM_TEMP_TJ_MAX, 3, 9)]) (fun t => t.get F.HUM_TEMP_TJ_MAX 3 == 5) = true := by
  decide +kernel

theorem test_registerWrite : lab.reach R.FLT_CAP_SEL.base = .served ∧ is (.registerWrite (.bar0 R.FLT_CAP_SEL.base) 8 0x7FF) lab (lab.set F.FLT_CAP_SEL_SOURCE 0 0x3FF) = true := by
  decide +kernel

theorem test_registerWrite_narrow : ok (.registerWrite (.bar0 0xFFFFFC) 4 1) lab (fun t => (SMap.find t.sundew.caps 4).isSome) = true ∧
    exec (.registerWrite (.bar0 0xFFFFFC) 8 1) lab = .fault .outsideBar0 := by refine ⟨by decide +kernel, rfl⟩

/-- A full write acts by the access code of each field: taken, cleared by ones, or held in its range; a read-only field keeps its value. -/
theorem test_registerWrite_fields : fieldByField R.PRT_LINK_HOLD = true ∧ fieldByField R.BUF_SEXTON_CTRL = true ∧ fieldByField R.PRT_EVENT = true ∧
    fieldByField R.PRT_STATUS = true ∧
    ok (.registerWrite (.bar0 (R.PRT_LINK_HOLD.offset 16)) 8 300) lab (fun t => t.get F.PRT_LINK_HOLD_HOLD_US 16 == 300) = true ∧
    ok (.registerWrite (.bar0 (R.BUF_SEXTON_CTRL.offset 1)) 8 0) lab (fun t => t.get F.BUF_SEXTON_CTRL_INTERVAL_MS 1 == 1) = true ∧
    ok (.registerWrite (.bar0 (R.PRT_EVENT.offset 16)) 8 (2 ^ F.PRT_EVENT_LINK_DOWN.lsb)) (put lab [(F.PRT_EVENT_LINK_UP, 16, 1), (F.PRT_EVENT_LINK_DOWN, 16, 1)]) (fun t =>
      t.get F.PRT_EVENT_LINK_UP 16 == 1 && t.get F.PRT_EVENT_LINK_DOWN 16 == 0) = true ∧
    ok (.registerWrite (.bar0 (R.PRT_STATUS.offset 16)) 8 (2 ^ 64 - 1)) lab (fun t => t.regs == lab.regs) = true := by decide +kernel

/-- A tile in reset reads as ones and takes no write. -/
theorem test_register_away : let s := { lab with boot := { lab.boot with inReset := [(.tile 1, good)] } }
    let off := R.PRT_LINK_HOLD.offset 16
    s.up = true ∧ bitOf (s.get F.TOP_BOOT_RAIL_MISSING 0) 0 = false ∧ (ResetUnit.tile 1).region off = true ∧ s.reach off = .away ∧ ok (.rcRead (.bar0 off) 8) s (fun t => t.out.readData == some (2 ^ 64 - 1)) = true ∧
    is (.registerWrite (.bar0 off) 8 300) s s = true := by decide +kernel

/-- BAR2: the mask bit of vector 1 is set at reset and cleared by a write; the vector control bits above it read zero. -/
theorem test_bar2 : lab.reach 0 ≠ .silent ∧ ok (.rcRead (.bar2 28) 4) lab (fun t => t.out.readData == some 1) = true ∧
    ok (.registerWrite (.bar2 28) 4 0xFFFFFFFE) lab (fun t => t.msixByte 28 == 0 && t.msixByte 29 == 0 && t.msixByte 12 == 1 && t.regs == lab.regs) = true := by
  decide +kernel

/-! ## The non-volatile store and images -/

theorem test_nvmStore : ready lab 4 5 [3, 0xFFFC0, 64, 0] = true ∧ nvmInRange 3 0xFFFC0 64 = true ∧
    ok (.nvmStore 5 3 0xFFFC0 64 0 (List.replicate 64 7)) lab (fun t => t.nvmJob == some (.store 5 3 true (linesAt (0x1100000 + 0xFFFC0) (List.replicate 64 7))) && t.nvm == []) = true := by
  decide +kernel

theorem test_nvmStore_readonly : ok (.nvmStore 5 6 0 64 0 []) lab (fun t => said t 4 5 0 2 && t.nvm == []) = true := by decide +kernel

/-- A store into PARAM as data, and its capture form: one record, the header of SEQ 1 last, into the lower copy. -/
theorem test_nvmStore_param : let s := lab.set F.PRT_LINK_HOLD_HOLD_US 16 300
    ready s 4 5 [4, 64, 64, 0] = true ∧ ready s 4 5 [4, 0, 0, 0] = true ∧ s.paramRecords.map (·.1) = [R.PRT_LINK_HOLD.offset 16] ∧ s.paramNext = (0, 1) ∧
    ok (.nvmStore 5 4 64 64 0 (List.replicate 64 7)) s (fun t => t.nvmJob == some (.store 5 4 true (linesAt ((nvmRegion 4).1 + 64) (List.replicate 64 7)))) = true ∧
    ok (.nvmStore 5 4 0 0 0 []) s (fun t => t.nvmJob == some (.store 5 4 false (s.captureLines s.paramRecords)) && t.nvm == []) = true := by decide +kernel

theorem test_nvmStoreDone : let s := { lab with nvmJob := some (.store 5 7 true [(0x1600000, [1, 0, 2])]) }
    ok (.nvmStoreDone ⟨none, {}⟩) s (fun t => t.nvm == [(0x1600000, 1), (0x1600002, 2)] && t.nvmJob == none && said t 4 5 0 0) = true := by decide +kernel

theorem test_nvmRead : ok (.nvmRead 5 7 64 64 4096) lab (fun t => t.nvmJob == some (.read 5 7 64 64 4096)) = true := by decide +kernel

theorem test_nvmReadDone : let s := { lab with nvmJob := some (.read 5 7 64 64 4096), nvm := [(0x1600040, 3)] }
    ok (.nvmReadDone none 1) s (fun t => SMap.find t.out.hostMem 4096 == some 3 && said t 5 5 0 0 && t.get F.NVM_STATUS_CORRECTED 0 == 1) = true := by decide +kernel

theorem test_peatLoad_refused : (lab.validate 1).code = peatBadMagic ∧ ready lab 2 5 [1] = true ∧ ok (.peatLoad 5 1 good) lab (fun t => said t 2 5 0 peatBadMagic) = true := by
  decide +kernel

theorem test_peatSwapLayer_refused : ready lab 3 5 [1, 1, 1000] = true ∧ ok (.peatSwapLayer 5 ⟨1, {}⟩ 1 1000) lab (fun t => said t 3 5 0 peatConflict) = true := by decide +kernel

/-- A PARSE swap that every tile has still to take. -/
def swapping : State :=
  let j : SwapJob := { tag := 5, slot := 1, timeoutMs := 10, image := { lab.image with serial := 8 }, mask := [3], todo := [3], quadrants := [] }
  { put lab [(F.PTL_SWAP_BUSY, 0, 1), (F.PTL_SWAP_PENDING_TILES, 0, 3)] with swap := some j, handover := { lab.handover with goal := some labLayers } }

theorem test_swapTileSwitch : swapping.tilesToSwitch = [0, 1] ∧ swapping.latePorts labLayers 1 = [] ∧
    ok (.swapTileSwitch 1) swapping (fun t => t.get F.PTL_SWAP_PENDING_TILES 0 == 1 && t.swap == swapping.swap) = true := by decide +kernel

theorem test_swapTileSwitch_last : let s := swapping.set F.PTL_SWAP_PENDING_TILES 0 (2 ^ 31)
    s.tilesToSwitch = [31] ∧ ok (.swapTileSwitch 31) s (fun t => t.swap == none && t.get F.PTL_SWAP_BUSY 0 == 0 && t.get F.PTL_SWAP_DONE 0 == 1 && said t 3 5 0 0 && t.image.serial == 8) = true := by
  decide +kernel

/-- A BUFFER swap that has quiesced quadrant 0 and then comes to others. -/
def draining3 (more : List Nat) : State :=
  let j : SwapJob := { tag := 5, slot := 1, timeoutMs := 10, image := { lab.image with serial := 8 }, mask := [6], todo := [6], quadrants := 0 :: more }
  { put lab [(F.PTL_SWAP_BUSY, 0, 1), (F.PTL_SWAP_QUIESCING, 0, 1)] with swap := some j }

theorem test_quiesceDrained : (draining3 []).quiesced 0 = true ∧ (draining3 []).quadBusy 0 = false ∧
    ok .quiesceDrained (draining3 []) (fun t => t.swap == none && t.get F.PTL_SWAP_QUIESCING 0 == 0 && said t 3 5 0 0) = true := by decide +kernel

theorem test_quiesceDrained_more : ok .quiesceDrained (draining3 [3]) (fun t => t.get F.PTL_SWAP_QUIESCING 0 == 1 && t.get F.PTL_SWAP_QUADRANT 0 == 3) = true := by
  decide +kernel

theorem test_quiesceTimeout : let b : Buf := { (default : Buf) with frame := five, size := 2048, holders := 1 }
    let e : QEntry := { (default : QEntry) with buf := 3, closer := true }
    let s := { draining3 [] with path := { lab.path with bufs := [(3, b)], queues := [(768, [e])] } }
    ok .quiesceTimeout s (fun t => t.queue 768 == [] && t.path.bufs == []) = true := by decide +kernel

/-- With the lower PARAM copy valid, of SEQ 1 and no record, the upper one is written next, with SEQ 2; with both valid the one of the lower SEQ. -/
theorem test_paramNext : let h (seq : Nat) : List Byte := beBytes 0x5052414D 4 ++ beBytes 0 4 ++ beBytes seq 8 ++ beBytes 0 8 ++ beBytes (crc32c []).toNat 4 ++ beBytes 0 36
    let s := { lab with nvm := Mem.writeList [] (paramAddr 0) (h 1) }
    let t := { s with nvm := Mem.writeList s.nvm (paramAddr 1) (h 2) }
    s.paramCopy 1 = none ∧ (s.paramCopy 0).isSome = true ∧ s.paramNext = (1, 2) ∧ (t.paramCopy 1).isSome = true ∧ t.paramNext = (0, 3) := by decide +kernel

/-! ## An image in slot B -/

/-- Layers that every check of an image lets pass: no port but the host ports, 8 buffers in the first pool of quadrant 0. -/
def goodLayers : Layers where
  parse := { groups := [(0, ⟨64, 0⟩), (64, ⟨64, 0⟩), (128, ⟨64, 0⟩), (192, ⟨64, 0⟩)] }
  search := { stageOrder := [.acl, .sg, .host, .lpm, .fdb] }
  buffer := { poolCount := [(0, 8)] }
  sched := { samplePeriod := [(0, 1000), (1, 1000), (2, 1000), (3, 1000)] }
  rewrite := { recipes := (List.range 192).map fun k => (k, [0]) }
  host :=
    { owner := [(0, 0), (8, 1), (16, 2), (24, 3), (32, 0), (40, 1), (48, 2), (56, 3)]
      queues := [(0, List.range 16), (8, List.range' 16 16), (16, List.range' 32 16), (24, List.range' 48 16)] }

theorem test_goodLayers : badLayer .o goodLayers = none := by decide +kernel

/-- The bare image passes every check of the loader on both variants. -/
theorem test_bareImage : badLayer .o bareImage.layers = none ∧ badLayer .h bareImage.layers = none := by decide +kernel

/-- An image of the mandatory layers, one byte each, serial 8, its digest left as zeros. -/
def slotImage : List Byte :=
  let entry (k t : Nat) : List Byte := beBytes t 1 ++ beBytes 1 1 ++ beBytes (k + 1) 2 ++ beBytes 1 4 ++ beBytes (crc32c [1]).toNat 4
  let header := beBytes 0x50454154 4 ++ beBytes 0x01000100 4 ++ beBytes 0x10244F0C 4 ++ beBytes 3073 4 ++ beBytes 8 8 ++ beBytes 0 64 ++
    (mandatoryLayers.zipIdx.flatMap fun x => entry x.2 x.1)
  ((header ++ beBytes 0 (256 - header.length)) ++ mandatoryLayers.flatMap fun _ => 1 :: List.replicate 255 0).take 3073

/-- The image stands in slot B. -/
def written : State := { lab with nvm := Mem.writeList [] (slotAddr 1) slotImage }

/-- What the layers' bytes spell and what their digest is are the two opaque functions of Config; given them, the image validates. -/
theorem test_validate (hs : slice slotImage 0x28 48 = Config.sha384 (splice slotImage 0x28 (List.replicate 48 0)))
    (hl : Config.decodeLayers (((dirOf slotImage).take 12).map fun e => (e.type, layerBytes slotImage e)) = goodLayers) :
    (written.validate 1).code = peatOk ∧
      (written.validate 1).image = some { serial := 8, source := .slotB, dir := (dirOf slotImage).take 12, layers := goodLayers } := by
  have hn : slotImage.length = 3073 := by decide +kernel
  have hr : Mem.readList written.nvm (slotAddr 1) 3073 = slotImage := by
    rw [show written.nvm = Mem.writeList [] (slotAddr 1) slotImage by simp only [written], Mem.readList_writeList _ _ _ _ (Nat.le_of_eq hn.symm), List.take_of_length_le (Nat.le_of_eq hn)]
  have hh : Mem.readList written.nvm (slotAddr 1) 256 = slotImage.take 256 := by
    rw [show written.nvm = Mem.writeList [] (slotAddr 1) slotImage by simp only [written], Mem.readList_writeList _ _ _ _ (Nat.le_trans (by decide) (Nat.le_of_eq hn.symm))]
  have hb : be slotImage 0x0B 1 = 12 := by decide +kernel
  have h8 : be slotImage 0x10 8 = 8 := by decide +kernel
  have h1 : ¬(be slotImage 8 2 ≠ 0x1024 ∨ be slotImage 0x0A 1 ≠ (if written.variant = .o then 0x4F else 0x48)) := by decide +kernel
  have h2 : ¬(be slotImage 4 1 ≠ 1 ∨ 2 < be slotImage 5 1 ∨ bitOf (be slotImage 0x1C 4) 0 = true ∨ ((dirOf slotImage).take 12).any (fun e => e.lver != 1) = true) := by
    decide +kernel
  have h3 : ((dirOf slotImage).drop 12).find? DirEntry.used = none := by decide +kernel
  have h4 : firstBad slotImage [] ((dirOf slotImage).take 12) = none := by decide +kernel
  have h5 : (mandatoryLayers.find? fun t => !((dirOf slotImage).take 12).any fun e => e.type == t) = none := by decide +kernel
  have h6 : ¬(be (slotImage.take 256) 0 4 ≠ 0x50454154 ∨ be (slotImage.take 256) 6 2 ≠ 0x0100 ∨ be (slotImage.take 256) 0x0C 4 < 256 ∨
      8388608 < be (slotImage.take 256) 0x0C 4 ∨ within 12 14 (be (slotImage.take 256) 0x0B 1) = false ∨ be (slotImage.take 256) 0x10 8 = 0) := by decide +kernel
  have h7 : be (slotImage.take 256) 0x0C 4 = 3073 := by decide +kernel
  have ho (l : List Nat) : goodLayers.optional l = goodLayers := by simp [Layers.optional, goodLayers]
  have hv : written.validate 1 = { code := peatOk, image := some { serial := 8, source := .slotB, dir := (dirOf slotImage).take 12, layers := goodLayers } } := by
    unfold State.validate
    simp only [hh]
    rw [if_neg h6, h7, hr]
    unfold validateBytes
    simp only [hb]
    rw [if_neg h1, if_neg h2, h3]
    simp only [h4, h5, hl, h8, hs, show written.variant = Variant.o from rfl, ho, test_goodLayers]
    simp
  rw [hv]
  exact ⟨rfl, rfl⟩

/-- The running image differs from it in BUFFER, for quadrant 0: the swap is allowed and quiesces that quadrant. -/
theorem test_peatSwapLayer : let dir := ((dirOf slotImage).take 12).map fun e => if e.type = 6 then { e with crc := 0 } else e
    let i : Image := { serial := 8, source := .slotB, dir := (dirOf slotImage).take 12, layers := goodLayers }
    let s := { written with image := { lab.image with dir := dir, layers := { goodLayers with buffer := {} } } }
    ready s 3 5 [1, 64, 10] = true ∧ s.swapAllowed i 64 = true ∧ s.swapList i 64 = [6] ∧ s.layers.affected goodLayers 6 = [0] ∧ s.quadUp 0 = true := by
  decide +kernel

/-- PEAT_LOAD of that slot: Caddis takes it, with no NVM job running and no rail missing. -/
theorem test_peatLoad : ready written 2 5 [1] = true ∧ written.nvmJob = none ∧ bitOf (written.get F.TOP_BOOT_RAIL_MISSING 0) 0 = false ∧
    good.romOk = true ∧ good.sramOk = true ∧ good.nvmOk = true := by
  decide +kernel

/-! ## WellFormed -/

/-- One number at its bound, for each check: refused. -/
theorem test_wf_refuses_0 : ([
    .porRelease { railMissing := 128 }, .porRelease { badBanks := [512] }, .porRelease { badParsers := [1536] }, .porRelease { badClusters := [192] },
    .porRelease { badElytra := [512] }, .porRelease { badTiles := [32] }, .porRelease { lit := [64] }, .porRelease { badLanes := [512] },
    .porRelease { badStacks := [2] }, .warmResetCmd (2 ^ 64) {}, .warmResetCmd 0 { badTiles := [32] }, .quadrantReset (2 ^ 64) {},
    .quadrantReset 0 { badTiles := [32] }, .tileReset (2 ^ 64) {}, .tileReset 0 { badTiles := [32] }, .drcReset (2 ^ 64) {},
    .drcReset 0 { badTiles := [32] }, .peatLoad 65536 0 {}, .peatLoad 0 (2 ^ 64) {}, .peatLoad 0 0 { badTiles := [32] },
    .peatSwapLayer 65536 ⟨0, {}⟩ 0 0, .peatSwapLayer 0 ⟨2 ^ 64, {}⟩ 0 0, .peatSwapLayer 0 ⟨0, {}⟩ (2 ^ 64) 0, .peatSwapLayer 0 ⟨0, {}⟩ 0 (2 ^ 64),
    .swapTileSwitch 32, .nvmStore 65536 0 0 0 0 [], .nvmStore 0 (2 ^ 64) 0 0 0 [], .nvmStore 0 0 (2 ^ 64) 0 0 [], .nvmStore 0 0 0 (2 ^ 64) 0 [],
    .nvmStore 0 0 0 0 (2 ^ 64) [], .nvmStoreDone ⟨none, { uncorrectable := [2 ^ 20] }⟩, .nvmRead 65536 0 0 0 0, .nvmRead 0 (2 ^ 64) 0 0 0,
    .nvmRead 0 0 (2 ^ 64) 0 0, .nvmRead 0 0 0 (2 ^ 64) 0, .nvmRead 0 0 0 0 (2 ^ 64), .thermalSample (List.replicate 17 0), .railSkew 4,
    .clkQctrlWrite 4 0, .clkQctrlWrite 0 (2 ^ 64), .vidSettleExpiry 4, .tileDozeEntry 32, .tileTorporEntry 32, .torporEntered 32, .tileWake 32 []
  ] : List Instr).all (fun i => !i.wf) = true := by decide +kernel

/-- One number at its bound, for each check: refused. -/
theorem test_wf_refuses_1 : ([
    .tileWake 0 [16], .tileAwake 32, .timerPrewake 32, .rouseDetect ⟨512, []⟩, .rouseDetect ⟨0, [(true, 2 ^ 64)]⟩, .darkToLight ⟨512, 0, 0⟩,
    .darkToLight ⟨0, 2 ^ 64, 0⟩, .darkToLight ⟨0, 0, 2 ^ 64⟩, .rouseTx 512, .sleepPolicyFull 65536, .sleepPolicyLean 65536, .sleepPolicyStandby 65536,
    .sleepPolicyHibernate 65536, .hibernateExit (.rouse ⟨512, []⟩) {}, .hibernateExit (.light ⟨512, 0, 0⟩) {},
    .hibernateExit .smbus { badTiles := [32] }, .linkUp 512 0, .linkDown 512, .holdExpiry 512, .portAdminDown 512, .portAdminUp 512,
    .loopbackChange 512 0, .loopbackChange 0 4, .rxFrame 512 [] false none [], .pauseExpiry 512 0, .pauseExpiry 0 8, .pauseFrameSend 512,
    .pauseRefresh 512 0, .pauseRefresh 0 8, .prtFcTxWrite 512 0, .prtFcTxWrite 0 (2 ^ 64), .laserLit 32 0, .laserLit 0 2, .laserLost 32 0,
    .laserLost 0 2, .trackLimit ⟨32, 0⟩, .trackLimit ⟨0, 16⟩, .optCalibrate 65536 0, .optCalibrate 0 (2 ^ 64), .optCalibrateDone 32 [],
    .optCalibrateDone 0 [16], .causewayOpen 65536 0, .causewayOpen 0 (2 ^ 64), .causewayClose 65536 0, .causewayClose 0 (2 ^ 64)
  ] : List Instr).all (fun i => !i.wf) = true := by decide +kernel

/-- One number at its bound, for each check: refused. -/
theorem test_wf_refuses_2 : ([
    .bypassOpened 4, .bypassClosed 4, .elementFault 4, .stagingRelease 516, .parseDeal 32, .parseComplete 32 0 false, .parseComplete 0 48 false,
    .reorderRelease 32 {}, .reorderRelease 0 { badRows := [1048576] }, .reorderRelease 0 { falseHits := [131072] },
    .reorderRelease 0 { badShadows := [131072] }, .reorderRelease 0 { flipped := [131072] }, .egressArrival ⟨4, 0, .none⟩,
    .egressArrival ⟨0, 2, .none⟩, .egressArrival ⟨0, 0, .uncorrectable 32 0⟩, .schedDecision 516, .rewriteCommit 516 .none none, .rewriteRestart 516,
    .clusterReloadDone 32 0, .clusterReloadDone 0 6, .frameTxDone ⟨516, .none⟩, .frameTxDone ⟨0, .uncorrectable 32 0⟩, .deepReadback 24640 .none,
    .deepReadback 0 (.uncorrectable 32 0), .deepReadback 0 (.parity 32 0 0), .ageHeadCheck 4, .sextonWalk ⟨4, []⟩, .sextonWalk ⟨0, [(2 ^ 26, 0)]⟩,
    .sextonWalk ⟨0, [(0, 4)]⟩, .bufFreeWrite 4 0, .bufFreeWrite 0 (2 ^ 64), .bufQueueCfgWrite 24640 0, .bufQueueCfgWrite 0 (2 ^ 64),
    .sweepPassStart 16, .scarabVisit 16 false, .exmSweepWrite 16 0, .exmSweepWrite 0 (2 ^ 64), .exmPortTablesWrite 516 0,
    .exmPortTablesWrite 0 (2 ^ 64), .suspectRowScrub 4 0 false, .suspectRowScrub 0 131072 false, .backgroundScrub 4 [], .backgroundScrub 0 [131072],
    .tcmPortL3Write 516 0, .tcmPortL3Write 0 (2 ^ 64)
  ] : List Instr).all (fun i => !i.wf) = true := by decide +kernel

/-- One number at its bound, for each check: refused. -/
theorem test_wf_refuses_3 : ([
    .topFenceWrite (2 ^ 64), .orderStrictWrite 9 0, .orderStrictWrite 0 (2 ^ 64), .tueRingTailWrite 8 0 [], .tueRingTailWrite 0 (2 ^ 64) [],
    .tueRingTailWrite 0 0 [2 ^ 1024], .nop 8 0, .nop 0 65536, .fence 8 0, .fence 0 65536, .epoch 8 0, .epoch 0 65536, .emInsert 8 0,
    .emInsert 0 65536, .emUpdate 8 0, .emUpdate 0 65536, .emDelete 8 0, .emDelete 0 65536, .emRead 8 0, .emRead 0 65536, .tcInsert 8 0,
    .tcInsert 0 65536, .tcWriteRow 8 0, .tcWriteRow 0 65536, .tcUpdateAction 8 0, .tcUpdateAction 0 65536, .tcDelete 8 0, .tcDelete 0 65536,
    .tcReadRow 8 0, .tcReadRow 0 65536, .objWrite 8 0, .objWrite 0 65536, .objRead 8 0, .objRead 0 65536, .cutOpen 8 0, .cutOpen 0 65536, .cutAdd 8 0,
    .cutAdd 0 65536, .cutArm 8 0, .cutArm 0 65536, .cutCancel 8 0, .cutCancel 0 65536, .tueWaitTimeout 8 0, .tueWaitTimeout 0 65536, .epochTimeout 256
  ] : List Instr).all (fun i => !i.wf) = true := by decide +kernel

/-- One number at its bound, for each check: refused. -/
theorem test_wf_refuses_4 : ([
    .cutGapFound 256, .cutWaitExpiry 256, .cutApply 256, .cutDone 256, .timRateWrite (2 ^ 64), .timPpsOutWrite false (2 ^ 64), .tsfPop 32 0,
    .tsfPop 0 (2 ^ 64), .shaperRefill 32, .gateChange 512, .gateCancel 512, .gateListStart 512, .gateEntryTransition 512, .sgChange 512,
    .sgCancel 512, .sgListStart 512, .sgTransition 512, .schQmapWrite 512 0 0, .schQmapWrite 0 8 0, .schQmapWrite 0 0 (2 ^ 64),
    .queueSample ⟨4, 0, .none⟩, .queueSample ⟨0, 2, .none⟩, .queueSample ⟨0, 0, .uncorrectable 32 0⟩, .ringJoin 65536 0, .ringJoin 0 (2 ^ 64),
    .ringLeave 65536 0, .ringLeave 0 (2 ^ 64), .ringProbeSend 512, .probeTimeout 516, .rngGroupCtxWrite 4 0, .rngGroupCtxWrite 0 (2 ^ 64),
    .rwePortDefaultWrite 516 0, .rwePortDefaultWrite 0 (2 ^ 64), .slotSwap 8192, .swapTakesEffect 8192, .slotZeroize 8192, .slotClearStaged 8192,
    .keyErased 8192, .stgCfgWrite 8192 0, .stgCfgWrite 0 (2 ^ 64), .prtSecCfgWrite 512 0, .prtSecCfgWrite 0 (2 ^ 64), .secChannelSwitch 512,
    .dramRefresh 2 0 .none, .dramRefresh 0 32 .none
  ] : List Instr).all (fun i => !i.wf) = true := by decide +kernel

/-- One number at its bound, for each check: refused. -/
theorem test_wf_refuses_5 : ([
    .dramRefresh 0 0 (.uncorrectable 32 0), .dramRefresh 0 0 (.parity 32 0 0), .stackTempReport 2 0, .dramRetrain 65536 0 0,
    .dramRetrain 0 (2 ^ 64) 0, .dramRetrain 0 0 (2 ^ 64), .dramRetrainDrained 2, .dramRetrainDone 2, .pcPowerDown 2 0, .pcPowerDown 0 32,
    .selfRefreshEntry 2, .selfRefreshExited 2, .telemExport 2 0, .telemExport 0 (2 ^ 64), .telemExportDone ⟨2, .none⟩,
    .telemExportDone ⟨0, .parity 32 0 0⟩, .faultReport 1024 0 0 0 0, .faultReport 0 64 0 0 0, .faultReport 0 0 (2 ^ 48) 0 0, .faultReport 0 0 0 256 0,
    .faultReport 0 0 0 0 8, .fenceComplete 1024 0, .fenceComplete 0 131072, .fltFenceCmd (2 ^ 64), .faultLogFlush 65536, .faultLogErase 65536,
    .fltMsgPop (2 ^ 64), .hstRingTailWrite 64 0 [], .hstRingTailWrite 0 (2 ^ 64) [], .hstRingTailWrite 0 0 [2 ^ 256], .txDescriptor 64 none,
    .rxDelivery ⟨64, .none⟩, .rxDelivery ⟨0, .uncorrectable 32 0⟩, .dmaError 64, .itrTimerExpiry 64, .mailboxDoorbell (2 ^ 64), .fwmRespPop (2 ^ 64),
    .fwInfo 65536, .patchStatus 65536, .smbSetOffset ⟨2 ^ 24, true⟩, .smbWrite (2 ^ 64) false, .jtagBypass { badTiles := [32] },
    .jtagIdcode { badTiles := [32] }, .jtagSamplePreload ⟨0, []⟩ { badTiles := [32] }, .registerWrite (.bar0 (2 ^ 24)) 0 0
  ] : List Instr).all (fun i => !i.wf) = true := by decide +kernel

/-- One number at its bound, for each check: refused. -/
theorem test_wf_refuses_6 : ([
    .registerWrite (.bar2 8192) 0 0, .registerWrite (.bar0 0) 9 0, .registerWrite (.bar0 0) 0 (2 ^ 64), .rcRead (.bar0 (2 ^ 24)) 0,
    .rcRead (.bar2 8192) 0, .rcRead (.bar0 0) 9, .extremumRead (2 ^ 24) 0, .extremumRead 0 9, .resetNRelease { badTiles := [32] },
    .trainPeriodExpiry 2, .tapReset { badTiles := [32] }
  ] : List Instr).all (fun i => !i.wf) = true := by decide +kernel

/-- The least operands of each command: well formed. -/
theorem test_wf_accepts_0 : ([
    .vddHumInRange, .supplyLoss 0, .porAssert, .porRelease {}, .resetNAssert, .warmResetCmd 0 {}, .quadrantReset 0 {}, .tileReset 0 {},
    .drcReset 0 {}, .perstNAssert 0, .hostAccessStop 0, .peatLoad 0 0 {}, .peatSwapLayer 0 ⟨0, {}⟩ 0 0, .quiesceDrained, .quiesceTimeout,
    .swapTileSwitch 0, .nvmStore 0 0 0 0 0 [], .nvmStoreDone ⟨none, {}⟩, .nvmRead 0 0 0 0 0, .nvmReadDone none 0, .refclkLoss, .refclkReturn,
    .holdoverExpiry, .clockRelock, .thermalSample [], .railSkew 0, .thermTrip, .clkQctrlWrite 0 0, .vidSettleExpiry 0, .tileDozeEntry 0,
    .tileTorporEntry 0, .torporEntered 0, .tileWake 0 [], .tileAwake 0, .timerPrewake 0, .rouseDetect ⟨0, []⟩, .darkToLight ⟨0, 0, 0⟩, .rouseTx 0,
    .caddisSleep, .caddisWake, .sleepPolicyFull 0, .sleepPolicyLean 0, .sleepPolicyStandby 0, .sleepPolicyHibernate 0, .hibernateExit .smbus {}
  ] : List Instr).all (fun i => i.wf) = true := by decide +kernel

/-- The least operands of each command: well formed. -/
theorem test_wf_accepts_1 : ([
    .linkUp 0 0, .linkDown 0, .holdExpiry 0, .portAdminDown 0, .portAdminUp 0, .loopbackChange 0 0, .rxFrame 0 [] false none [], .pauseExpiry 0 0,
    .pauseFrameSend 0, .pauseRefresh 0 0, .prtFcTxWrite 0 0, .laserLit 0 0, .laserLost 0 0, .trackLimit ⟨0, 0⟩, .optCalibrate 0 0,
    .optCalibrateDone 0 [], .causewayOpen 0 0, .causewayClose 0 0, .bypassOpened 0, .bypassClosed 0, .elementFault 0, .stagingRelease 0, .parseDeal 0,
    .parseComplete 0 0 false, .reorderRelease 0 {}, .learnServe, .egressArrival ⟨0, 0, .none⟩, .schedDecision 0, .rewriteCommit 0 .none none,
    .rewriteRestart 0, .clusterReloadDone 0 0, .frameTxDone ⟨0, .none⟩, .deepReadback 0 .none, .ageHeadCheck 0, .sextonWalk ⟨0, []⟩,
    .bufFreeWrite 0 0, .bufQueueCfgWrite 0 0, .sweepPassStart 0, .scarabVisit 0 false, .learnRecountDone, .exmSweepWrite 0 0, .exmPortTablesWrite 0 0,
    .suspectRowScrub 0 0 false, .backgroundScrub 0 [], .tcmPortL3Write 0 0
  ] : List Instr).all (fun i => i.wf) = true := by decide +kernel

/-- The least operands of each command: well formed. -/
theorem test_wf_accepts_2 : ([
    .topFenceWrite 0, .orderStrictWrite 0 0, .tueRingTailWrite 0 0 [], .nop 0 0, .fence 0 0, .epoch 0 0, .emInsert 0 0, .emUpdate 0 0, .emDelete 0 0,
    .emRead 0 0, .tcInsert 0 0, .tcWriteRow 0 0, .tcUpdateAction 0 0, .tcDelete 0 0, .tcReadRow 0 0, .objWrite 0 0, .objRead 0 0, .cutOpen 0 0,
    .cutAdd 0 0, .cutArm 0 0, .cutCancel 0 0, .tueWaitTimeout 0 0, .epochDrained, .epochTimeout 0, .cutGapFound 0, .cutWaitExpiry 0, .cutApply 0,
    .cutDone 0, .timeBeacon, .timRateWrite 0, .timStepForward, .timStepBack, .timStepSet, .timNowRead, .pinCapture .ppsIn false, .ppsOutEdge,
    .timPpsOutWrite false 0, .todOutSend, .todInRx [], .tsfPop 0 0, .shaperRefill 0, .gateChange 0, .gateCancel 0, .gateListStart 0,
    .gateEntryTransition 0
  ] : List Instr).all (fun i => i.wf) = true := by decide +kernel

/-- The least operands of each command: well formed. -/
theorem test_wf_accepts_3 : ([
    .sgChange 0, .sgCancel 0, .sgListStart 0, .sgTransition 0, .schQmapWrite 0 0 0, .queueSample ⟨0, 0, .none⟩, .ringJoin 0 0, .ringLeave 0 0,
    .ringProbeSend 0, .probeTimeout 0, .rngGroupCtxWrite 0 0, .rwePortDefaultWrite 0 0, .slotSwap 0, .swapTakesEffect 0, .slotZeroize 0,
    .slotClearStaged 0, .keyErased 0, .stgCfgWrite 0 0, .prtSecCfgWrite 0 0, .secChannelSwitch 0, .entropyHealthFail, .drbgReseed false,
    .dramRefresh 0 0 .none, .stackTempReport 0 0, .dramRetrain 0 0 0, .dramRetrainDrained 0, .dramRetrainDone 0, .pcPowerDown 0 0,
    .selfRefreshEntry 0, .selfRefreshExited 0, .telemExport 0 0, .telemExportDone ⟨0, .none⟩, .faultReport 0 0 0 0 0, .fenceComplete 0 0,
    .fltFenceCmd 0, .faultLogWrite, .faultLogFlush 0, .faultLogErase 0, .fltMsgPop 0, .hstRingTailWrite 0 0 [], .txDescriptor 0 none,
    .rxDelivery ⟨0, .none⟩, .dmaError 0, .itrTimerExpiry 0, .mailboxDoorbell 0
  ] : List Instr).all (fun i => i.wf) = true := by decide +kernel

/-- The least operands of each command: well formed. -/
theorem test_wf_accepts_4 : ([
    .mailboxTake, .fwmRespPop 0, .fwInfo 0, .patchStatus 0, .smbSetOffset ⟨0, true⟩, .smbRead false, .smbWrite 0 false, .smbStatusRead,
    .jtagBypass {}, .jtagIdcode {}, .jtagSamplePreload ⟨0, []⟩ {}, .jtagExtest, .jtagClamp, .jtagHighz, .registerWrite (.bar0 0) 0 0,
    .rcRead (.bar0 0) 0, .extremumRead 0 0, .resetNRelease {}, .hostAccessResume, .trainPeriodExpiry 0, .tapReset {}
  ] : List Instr).all (fun i => i.wf) = true := by decide +kernel

end Sys2Proof.Tests
end

section
/-! What no command changes (O7): the queue, the variant of the module and the time that has passed. One lemma for each change of the state, in the order of the model's files; a lemma
about a change that takes another change as its argument asks that one to keep them. -/

namespace Sys2Proof.Machine

/-! ## The queue, the variant and the elapsed time as one value -/

/-- The commands that wait, the variant of the module (R2) and the time that has passed: what a command finds and leaves. -/
def State.ambient (s : State) : List Instr × Variant × Nat := (s.pending, s.variant, s.elapsed)

theorem State.ambient_eq_iff (s t : State) : t.ambient = s.ambient ↔ t.pending = s.pending ∧ t.variant = s.variant ∧ t.elapsed = s.elapsed := by
  simp [State.ambient]

@[simp] theorem State.ambient_fold (s : State) : (s.pending, s.variant, s.elapsed) = s.ambient := by simp only [State.ambient]

/-- A state put together from its parts has the queue, the variant and the time that were put in. -/
@[simp] theorem State.ambient_mk (variant elapsed freeCtr regs nvm nvmCount nvmJob image swap handover pins boot sundew host clocks optics time exm path tcam
    tables gates keys drams tue probes out pending) :
    (State.mk variant elapsed freeCtr regs nvm nvmCount nvmJob image swap handover pins boot sundew host clocks optics time exm path tcam
      tables gates keys drams tue probes out pending).ambient = (pending, variant, elapsed) := by simp only [State.ambient]

/-! ## Choices, pairs and folds -/

@[simp] theorem ite_ambient (p : Prop) [Decidable p] (a b : State) : (if p then a else b).ambient = if p then a.ambient else b.ambient := apply_ite ..

@[simp] theorem ite_snd_ambient {α : Type} (p : Prop) [Decidable p] (a b : α × State) :
    (if p then a else b).2.ambient = if p then a.2.ambient else b.2.ambient := by split <;> rfl

@[simp] theorem ite_fst_ambient {α : Type} (p : Prop) [Decidable p] (a b : State × α) :
    (if p then a else b).1.ambient = if p then a.1.ambient else b.1.ambient := by split <;> rfl

theorem State.ite_keeps {p : Prop} [Decidable p] {a b s : State} (ha : a.ambient = s.ambient) (hb : b.ambient = s.ambient) :
    (if p then a else b).ambient = s.ambient := by simp [ha, hb]

theorem ite_mem_keeps {p : Prop} [Decidable p] {a b : Option State} {s : State} (ha : ∀ t ∈ a, t.ambient = s.ambient) (hb : ∀ t ∈ b, t.ambient = s.ambient) :
    ∀ t ∈ (if p then a else b), t.ambient = s.ambient := by
  split
  · exact ha
  · exact hb

theorem getD_keeps {s : State} {o : Option State} {a : State} (ho : ∀ t ∈ o, t.ambient = s.ambient) (ha : a.ambient = s.ambient) :
    (o.getD a).ambient = s.ambient := by
  cases o with
  | none => exact ha
  | some t => exact ho t rfl

@[simp] theorem elim_ambient {α : Type} {f : α → State} {a : State} (h : ∀ x, (f x).ambient = a.ambient) (o : Option α) : (o.elim a f).ambient = a.ambient := by
  cases o with
  | none => rfl
  | some x => exact h x

theorem snd_ambient_of_eq {α : Type} {r : α × State} {a : α} {t : State} (h : r = (a, t)) : t.ambient = r.2.ambient := by rw [h]

theorem fst_ambient_of_eq {α : Type} {r : State × α} {a : α} {t : State} (h : r = (t, a)) : t.ambient = r.1.ambient := by rw [h]

/-- What each step of a fold keeps, the fold keeps. -/
theorem foldl_keeps {α β γ : Type} (φ : β → γ) {f : β → α → β} (h : ∀ r x, φ (f r x) = φ r) (l : List α) (r : β) : φ (l.foldl f r) = φ r := by
  induction l generalizing r with
  | nil => rfl
  | cons x l ih => exact (ih _).trans (h r x)

@[simp] theorem foldl_ambient {α : Type} {f : State → α → State} (h : ∀ s x, (f s x).ambient = s.ambient) (l : List α) (s : State) :
    (l.foldl f s).ambient = s.ambient := foldl_keeps State.ambient h l s

@[simp] theorem foldl_snd_ambient {α β : Type} {f : β × State → α → β × State} (h : ∀ r x, (f r x).2.ambient = r.2.ambient) (l : List α) (r : β × State) :
    (l.foldl f r).2.ambient = r.2.ambient := foldl_keeps (fun r : β × State => r.2.ambient) h l r

@[simp] theorem foldl_fst_ambient {α β : Type} {f : State × β → α → State × β} (h : ∀ r x, (f r x).1.ambient = r.1.ambient) (l : List α) (r : State × β) :
    (l.foldl f r).1.ambient = r.1.ambient := foldl_keeps (fun r : State × β => r.1.ambient) h l r

@[simp] theorem State.forAll_ambient {α : Type} {f : State → α → State} (h : ∀ s x, (f s x).ambient = s.ambient) (s : State) (l : List α) :
    (s.forAll l f).ambient = s.ambient := foldl_ambient h l s

@[simp] theorem State.when_ambient {f : State → State} {s : State} (h : (f s).ambient = s.ambient) (b : Bool) : (s.when b f).ambient = s.ambient := by
  unfold State.when
  split
  · exact h
  · rfl

/-! ## Outcomes -/

/-- A command that answers a next state leaves the queue, the variant and the elapsed time as they are. -/
def KeepsAmbient (s : State) (o : Host.Outcome State Fault Refusal) : Prop := ∀ t, o = .next t → t.ambient = s.ambient

@[simp] theorem keepsAmbient_next (s t : State) : KeepsAmbient s (.next t) ↔ t.ambient = s.ambient := by simp [KeepsAmbient]
@[simp] theorem keepsAmbient_fault (s : State) (r : Fault) : KeepsAmbient s (.fault r) := by simp [KeepsAmbient]

/-! ## Ops -/

@[simp] theorem State.set_ambient (s : State) (f : Field) (i v : Nat) : (s.set f i v).ambient = s.ambient := by simp [State.set]
@[simp] theorem State.unset_ambient (s : State) (f : Field) (i : Nat) : (s.unset f i).ambient = s.ambient := by simp [State.unset]
@[simp] theorem State.count_ambient (s : State) (f : Field) (i k : Nat) : (s.count f i k).ambient = s.ambient := by simp [State.count]
@[simp] theorem State.setBit_ambient (s : State) (f : Field) (i b : Nat) : (s.setBit f i b).ambient = s.ambient := by simp [State.setBit]
@[simp] theorem State.clrBit_ambient (s : State) (f : Field) (i b : Nat) : (s.clrBit f i b).ambient = s.ambient := by simp [State.clrBit]
@[simp] theorem State.draw_ambient (s : State) : s.draw.2.ambient = s.ambient := by simp [State.draw]
@[simp] theorem State.message_ambient (s : State) (src : Nat) : (s.message src).ambient = s.ambient := by simp [State.message]

@[simp] theorem State.unmasked_ambient (s : State) : s.unmasked.ambient = s.ambient :=
  foldl_ambient (fun t src => by simp) _ s

@[simp] theorem State.cause_ambient (s : State) (src : Nat) : (s.cause src).ambient = s.ambient := by simp [State.cause]
@[simp] theorem State.eventBit_ambient (s : State) (f : Field) (i b g : Nat) : (s.eventBit f i b g).ambient = s.ambient := by simp [State.eventBit]
@[simp] theorem State.event_ambient (s : State) (f : Field) (i g : Nat) : (s.event f i g).ambient = s.ambient := by simp [State.event]
@[simp] theorem State.evC_ambient (s : State) (f : Field) (i : Nat) : (s.evC f i).ambient = s.ambient := by simp [State.evC]
@[simp] theorem State.evQ_ambient (s : State) (f : Field) (q : Nat) : (s.evQ f q).ambient = s.ambient := by simp [State.evQ]
@[simp] theorem State.evT_ambient (s : State) (f : Field) (t : Nat) : (s.evT f t).ambient = s.ambient := by simp [State.evT]
@[simp] theorem State.evTim_ambient (s : State) (f : Field) : (s.evTim f).ambient = s.ambient := by simp [State.evTim]
@[simp] theorem State.evPrt_ambient (s : State) (f : Field) (p : Nat) : (s.evPrt f p).ambient = s.ambient := by simp [State.evPrt]
@[simp] theorem State.evOpt_ambient (s : State) (f : Field) (t : Nat) : (s.evOpt f t).ambient = s.ambient := by simp [State.evOpt]
@[simp] theorem State.evSec_ambient (s : State) (f : Field) (p : Nat) : (s.evSec f p).ambient = s.ambient := by simp [State.evSec]
@[simp] theorem State.logDue_ambient (s : State) (reason src : Nat) (c : Capture) : (s.logDue reason src c).ambient = s.ambient := by simp [State.logDue]
@[simp] theorem State.message512_ambient (s : State) (m : Nat) : (s.message512 m).ambient = s.ambient := by simp [State.message512]
@[simp] theorem State.caddisRestart_ambient (s : State) : s.caddisRestart.ambient = s.ambient := by simp [State.caddisRestart]

@[simp] theorem State.openCapture_ambient (s : State) (src kind master access address : Nat) :
    (s.openCapture src kind master access address).ambient = s.ambient := by simp [State.openCapture]

@[simp] theorem State.report_ambient (s : State) (src kind master access address : Nat) : (s.report src kind master access address).ambient = s.ambient := by
  unfold State.report
  dsimp only
  split <;> simp

@[simp] theorem State.react_ambient (s : State) (src idx : Nat) : (s.react src idx).ambient = s.ambient := by simp [State.react]
@[simp] theorem State.reacted_ambient (s : State) (src idx : Nat) : (s.reacted src idx).ambient = s.ambient := by simp [State.reacted]
@[simp] theorem State.fenceStart_ambient (s : State) (src idx : Nat) : (s.fenceStart src idx).ambient = s.ambient := by simp [State.fenceStart]
@[simp] theorem State.fenceDone_ambient (s : State) (src idx : Nat) : (s.fenceDone src idx).ambient = s.ambient := by simp [State.fenceDone]

@[simp] theorem State.unitFault_ambient (s : State) (src idx kind master access address : Nat) :
    (s.unitFault src idx kind master access address).ambient = s.ambient := by simp [State.unitFault]

@[simp] theorem State.claimErr_ambient (s : State) (kind index master : Nat) : (s.claimErr kind index master).ambient = s.ambient := by simp [State.claimErr]
@[simp] theorem State.hostWrite_ambient (s : State) (addr : Nat) (bs : List Byte) : (s.hostWrite addr bs).ambient = s.ambient := by simp [State.hostWrite]

/-! ## Buffers -/

@[simp] theorem State.withLive_ambient (s : State) (p : Nat) (f : PortLive → PortLive) : (s.withLive p f).ambient = s.ambient := by simp [State.withLive]
@[simp] theorem State.withQueue_ambient (s : State) (gq : Nat) (l : List QEntry) : (s.withQueue gq l).ambient = s.ambient := by simp [State.withQueue]
@[simp] theorem State.withBufs_ambient (s : State) (m : SMap Buf) : (s.withBufs m).ambient = s.ambient := by simp [State.withBufs]

@[simp] theorem State.onBuf_ambient (s : State) (h : Nat) (f : Buf → Buf) : (s.onBuf h f).ambient = s.ambient := by
  unfold State.onBuf
  split <;> simp

@[simp] theorem State.alloc_ambient (s : State) (q region : Nat) (f : Frame) : (s.alloc q region f).2.ambient = s.ambient := by
  unfold State.alloc
  dsimp only
  (repeat' split) <;> simp

@[simp] theorem State.withStack_ambient (s : State) (d : Nat) (f : Stack → Stack) : (s.withStack d f).ambient = s.ambient := by simp [State.withStack]
@[simp] theorem State.wakePcs_ambient (s : State) (d : Nat) (pcs : List Nat) : (s.wakePcs d pcs).ambient = s.ambient := by simp [State.wakePcs]
@[simp] theorem State.dramWrites_ambient (s : State) (d : Nat) (l : List (Nat × DramWrite)) : (s.dramWrites d l).ambient = s.ambient := by simp [State.dramWrites]
@[simp] theorem State.dramServe_ambient (s : State) (d n : Nat) : (s.dramServe d n).ambient = s.ambient := by simp [State.dramServe]

@[simp] theorem State.allocDram_ambient (s : State) (q d : Nat) (f : Frame) : (s.allocDram q d f).2.ambient = s.ambient := by
  unfold State.allocDram
  split <;> simp

@[simp] theorem State.dropIn_ambient (s : State) (q code port : Nat) (egress : Bool) (queue : Nat) : (s.dropIn q code port egress queue).ambient = s.ambient := by simp [State.dropIn]
@[simp] theorem State.dropAt_ambient (s : State) (code port : Nat) : (s.dropAt code port).ambient = s.ambient := by simp [State.dropAt]
@[simp] theorem State.dropOutIn_ambient (s : State) (q code port queue : Nat) : (s.dropOutIn q code port queue).ambient = s.ambient := by simp [State.dropOutIn]
@[simp] theorem State.dropOut_ambient (s : State) (code port queue : Nat) : (s.dropOut code port queue).ambient = s.ambient := by simp [State.dropOut]
@[simp] theorem State.keepLowest_ambient (s t : State) (q : Nat) (seen : Bool) : (s.keepLowest t q seen).ambient = t.ambient := by simp [State.keepLowest]

@[simp] theorem State.oneCycle_ambient {α β : Type} {f : State → β → α → β × State} (h : ∀ s b x, (f s b x).2.ambient = s.ambient) (s : State) (q : Nat) (seen : Bool)
    (l : List α) (b : β) : (s.oneCycle q seen l b f).2.ambient = s.ambient :=
  foldl_keeps (fun r : (β × State) × Bool => r.1.2.ambient) (fun r x => by simp [h]) l ((b, s), seen)

@[simp] theorem State.pauseCheck_ambient (s : State) (p c : Nat) : (s.pauseCheck p c).ambient = s.ambient := by simp [State.pauseCheck]

@[simp] theorem State.freeBuf_ambient (s : State) (h : Nat) : (s.freeBuf h).ambient = s.ambient := by
  unfold State.freeBuf
  split <;> simp

@[simp] theorem State.settleBuf_ambient (s : State) (h : Nat) : (s.settleBuf h).ambient = s.ambient := by
  unfold State.settleBuf
  split <;> simp

@[simp] theorem State.gone_ambient (s : State) (h : Nat) (enqueued closer : Bool) : (s.gone h enqueued closer).ambient = s.ambient := by simp [State.gone]

@[simp] theorem State.headArrives_ambient (s : State) (gq : Nat) (waking : Bool) : (s.headArrives gq waking).ambient = s.ambient := by
  unfold State.headArrives
  split <;> simp

@[simp] theorem State.enqueue_ambient (s : State) (gq : Nat) (e : QEntry) : (s.enqueue gq e).ambient = s.ambient := by simp [State.enqueue]

@[simp] theorem State.allocFor_ambient (s : State) (gq region size : Nat) (f : Frame) : (s.allocFor gq region size f).2.ambient = s.ambient := by
  unfold State.allocFor
  split <;> simp

@[simp] theorem State.takeSeq_ambient (s : State) (port : Nat) (e : QEntry) : (s.takeSeq port e).2.ambient = s.ambient := by
  unfold State.takeSeq
  dsimp only
  (repeat' split) <;> simp

@[simp] theorem State.refill_ambient (s : State) (h : Nat) (f : Frame) : (s.refill h f).ambient = s.ambient := by
  unfold State.refill
  split <;> simp

@[simp] theorem State.enterQueue_ambient (s : State) (free : FreeAt) (f : Frame) (gq region : Nat) (e : QEntry) : (s.enterQueue free f gq region e).ambient = s.ambient := by
  unfold State.enterQueue
  dsimp only
  split
  · simp
  · split
    · simp
    · split
      · simp
      · split
        · next heq => simp [snd_ambient_of_eq heq]
        · next heq => simp [snd_ambient_of_eq heq]

@[simp] theorem State.unicastIn_ambient (s : State) (free : FreeAt) (f : Frame) (gq : Nat) (e : QEntry) : (s.unicastIn free f gq e).ambient = s.ambient := by simp [State.unicastIn]

/-! ## Exm -/

@[simp] theorem State.withSlots_ambient (s : State) (m : SMap Nat) : (s.withSlots m).ambient = s.ambient := by simp [State.withSlots]
@[simp] theorem State.emPut_ambient (s : State) (wide : Bool) (p : Place) (e : Entry) : (s.emPut wide p e).ambient = s.ambient := by simp [State.emPut]
@[simp] theorem State.emClear_ambient (s : State) (wide : Bool) (p : Place) : (s.emClear wide p).ambient = s.ambient := by simp [State.emClear]

@[simp] theorem State.learnDelta_ambient (s : State) (c : TableCfg) (old new : Option Nat) : (s.learnDelta c old new).ambient = s.ambient := by
  unfold State.learnDelta
  dsimp only
  (repeat' split) <;> simp

@[simp] theorem State.exmRecord_ambient (s : State) (type table port oldPort entry : Nat) : (s.exmRecord type table port oldPort entry).ambient = s.ambient := by simp [State.exmRecord]
@[simp] theorem State.emRemoved_ambient (s : State) (t : Nat) (c : TableCfg) (type cnt : Nat) (e : Entry) : (s.emRemoved t c type cnt e).ambient = s.ambient := by simp [State.emRemoved]
@[simp] theorem State.withExmTable_ambient (s : State) (t : Nat) (f : ExmTable → ExmTable) : (s.withExmTable t f).ambient = s.ambient := by simp [State.withExmTable]
@[simp] theorem State.countInsert_ambient (s : State) (t : Nat) (ageEn : Bool) : (s.countInsert t ageEn).ambient = s.ambient := by simp [State.countInsert]

@[simp] theorem State.emMoves_ambient (s : State) (wide : Bool) (l : List Place) (p : Place) : (s.emMoves wide l p).1.ambient = s.ambient := by
  induction l generalizing s p with
  | nil => rfl
  | cons src rest ih =>
    unfold State.emMoves
    split <;> simp [ih]

@[simp] theorem State.emVictim_ambient (s : State) (c : TableCfg) (pinned : Nat → Bool) (t : Nat) (bs : List (Nat × Nat)) : (s.emVictim c pinned t bs).2.ambient = s.ambient := by
  unfold State.emVictim
  dsimp only
  split <;> simp

@[simp] theorem State.emUpdateAt_ambient (s : State) (c : TableCfg) (p : Place) (static : Bool) (payload : Nat) : (s.emUpdateAt c p static payload).ambient = s.ambient := by
  unfold State.emUpdateAt
  split <;> simp

@[simp] theorem State.emInsert_ambient (s : State) (t : Nat) (c : TableCfg) (pinned : Nat → Bool) (payload : Nat) (static replace noEvict ageEn : Bool) :
    (s.emInsert t c pinned payload static replace noEvict ageEn).1.ambient = s.ambient := by
  unfold State.emInsert
  dsimp only
  split
  · simp
  · split
    · simp
    · split
      · simp
      · split
        · rfl
        · split
          · next heq => simp [snd_ambient_of_eq heq]
          · next heq => simp [snd_ambient_of_eq heq]

@[simp] theorem State.emUpdate_ambient (s : State) (t : Nat) (c : TableCfg) (payload : Nat) (static : Bool) : (s.emUpdate t c payload static).1.ambient = s.ambient := by
  unfold State.emUpdate
  split <;> simp

@[simp] theorem State.emDelete_ambient (s : State) (t : Nat) (c : TableCfg) (payload : Nat) : (s.emDelete t c payload).1.ambient = s.ambient := by
  unfold State.emDelete
  split <;> simp

@[simp] theorem State.emLookup_ambient (s : State) (t key : Nat) : (s.emLookup t key).2.ambient = s.ambient := by
  unfold State.emLookup
  split <;> simp

@[simp] theorem State.hitLands_ambient (s : State) (x : Nat × Nat × Nat) : (s.hitLands x).ambient = s.ambient := by
  unfold State.hitLands
  dsimp only
  (repeat' split) <;> simp

@[simp] theorem State.emTouched_ambient (s : State) (t : Nat) (c : TableCfg) (key : Nat) : (s.emTouched t c key).ambient = s.ambient := by
  unfold State.emTouched
  split <;> simp

@[simp] theorem State.startRecount_ambient (s : State) (t : Nat) : (s.startRecount t).ambient = s.ambient := by simp [State.startRecount]
@[simp] theorem State.emDrop_ambient (s : State) (p : Nat → Bool) : (s.emDrop p).ambient = s.ambient := by simp [State.emDrop]
@[simp] theorem State.rowLost_ambient (s : State) (bank row : Nat) : (s.rowLost bank row).ambient = s.ambient := by simp [State.rowLost]

@[simp] theorem State.bankFence_ambient (s : State) (bank : Nat) : (s.bankFence bank).ambient = s.ambient := by
  unfold State.bankFence
  dsimp only
  split <;> simp

@[simp] theorem State.rowPolicy_ambient (s : State) (bank row : Nat) : (s.rowPolicy bank row).ambient = s.ambient := by simp [State.rowPolicy]
@[simp] theorem State.rowUncorr_ambient (s : State) (master access bank row : Nat) : (s.rowUncorr master access bank row).ambient = s.ambient := by simp [State.rowUncorr]
@[simp] theorem State.recountDone_ambient (s : State) : s.recountDone.ambient = s.ambient := by simp [State.recountDone]

@[simp] theorem State.limitRecord_ambient (s : State) (table port fid mac : Nat) : (s.limitRecord table port fid mac).ambient = s.ambient := by
  unfold State.limitRecord
  dsimp only
  split <;> simp

@[simp] theorem State.learnRequest_ambient (s : State) (r : LearnReq) : (s.learnRequest r).ambient = s.ambient := by simp [State.learnRequest]
@[simp] theorem State.passStart_ambient (s : State) (t : Nat) : (s.passStart t).ambient = s.ambient := by simp [State.passStart]
@[simp] theorem State.sweepPassStart_ambient (s : State) (t : Nat) : (s.sweepPassStart t).ambient = s.ambient := by simp [State.sweepPassStart]
@[simp] theorem State.visitOne_ambient (s : State) (t : Nat) (c : TableCfg) (p : Place) (e : Entry) : (s.visitOne t c p e).ambient = s.ambient := by simp [State.visitOne]

@[simp] theorem State.visitEntry_ambient (s : State) (t : Nat) (c : TableCfg) (pinned : Nat → Bool) (p : Place) : (s.visitEntry t c pinned p).ambient = s.ambient := by
  unfold State.visitEntry
  dsimp only
  (repeat' split) <;> simp

@[simp] theorem State.scarabVisit_ambient (s : State) (t : Nat) (pinned : Nat → Bool) (bad : Bool) : (s.scarabVisit t pinned bad).ambient = s.ambient := by
  unfold State.scarabVisit
  split <;> simp

@[simp] theorem State.exmSweepWrite_ambient (s : State) (t value : Nat) : (s.exmSweepWrite t value).ambient = s.ambient := by simp [State.exmSweepWrite]
@[simp] theorem State.portTablesWrite_ambient (s : State) (p value : Nat) : (s.portTablesWrite p value).ambient = s.ambient := by simp [State.portTablesWrite]
theorem execSweepPassStart_keeps (t : Nat) (s : State) : KeepsAmbient s (execSweepPassStart t s) := by simp [execSweepPassStart]
theorem execScarabVisit_keeps (t : Nat) (bad : Bool) (s : State) : KeepsAmbient s (execScarabVisit t bad s) := by simp [execScarabVisit]
theorem execLearnRecountDone_keeps (s : State) : KeepsAmbient s (execLearnRecountDone s) := by simp [execLearnRecountDone]
theorem execExmSweepWrite_keeps (t v : Nat) (s : State) : KeepsAmbient s (execExmSweepWrite t v s) := by simp [execExmSweepWrite]
theorem execExmPortTablesWrite_keeps (p v : Nat) (s : State) : KeepsAmbient s (execExmPortTablesWrite p v s) := by simp [execExmPortTablesWrite]

/-! ## Tcam -/

@[simp] theorem State.withRows_ambient (s : State) (m : SMap TcamRow) : (s.withRows m).ambient = s.ambient := by simp [State.withRows]
@[simp] theorem State.tcmStatus_ambient (s : State) (q : Nat) : (s.tcmStatus q).ambient = s.ambient := by simp [State.tcmStatus]
@[simp] theorem State.suspectRow_ambient (s : State) (q tile n : Nat) : (s.suspectRow q tile n).ambient = s.ambient := by simp [State.suspectRow]

@[simp] theorem State.search_ambient (s : State) (q tile first rows : Nat) (wide : Bool) (key : Nat) (falseHits badShadows : List Nat) (fuel : Nat) :
    (s.search q tile first rows wide key falseHits badShadows fuel).2.ambient = s.ambient := by
  induction fuel generalizing s with
  | zero => simp [State.search]
  | succ fuel ih =>
    unfold State.search
    split
    · rfl
    · split
      · simp
      · split <;> simp [ih]

@[simp] theorem State.cellsFlip_ambient (s : State) (q : Nat) (rows : List Nat) : (s.cellsFlip q rows).ambient = s.ambient := by simp [State.cellsFlip]
@[simp] theorem State.cellsRight_ambient (s : State) (k : Nat) : (s.cellsRight k).ambient = s.ambient := by simp [State.cellsRight]
@[simp] theorem State.putRow_ambient (s : State) (quads : List Nat) (n : Nat) (r : TcamRow) : (s.putRow quads n r).ambient = s.ambient := by simp [State.putRow]
@[simp] theorem State.delRow_ambient (s : State) (quads : List Nat) (n : Nat) : (s.delRow quads n).ambient = s.ambient := by simp [State.delRow]

@[simp] theorem State.tcmFree_ambient (s : State) (q space : Nat) : (s.tcmFree q space).ambient = s.ambient := by
  unfold State.tcmFree
  split <;> simp

@[simp] theorem State.tcmFreeAll_ambient (s : State) (q space : Nat) : (s.tcmFreeAll q space).ambient = s.ambient := by simp [State.tcmFreeAll]

theorem State.sortMoves_ambient (s : State) (quads : List Nat) (q : Nat) (l : List (Nat × TcamRow)) (room : Nat × Bool) (t : State) (x : Nat × Bool)
    (h : s.sortMoves quads q l room = some (t, x)) : t.ambient = s.ambient := by
  induction l generalizing s room with
  | nil =>
    obtain ⟨rfl, -⟩ : s = t ∧ room = x := by simpa [State.sortMoves] using h
    rfl
  | cons e l ih =>
    unfold State.sortMoves at h
    split at h
    · cases h
    · simpa using ih _ _ h

@[simp] theorem State.sortedInsert_ambient (s : State) (q space : Nat) (pinned : Nat → Bool) (r : TcamRow) : (s.sortedInsert q space pinned r).1.ambient = s.ambient := by
  unfold State.sortedInsert
  dsimp only
  generalize (if s.regionKind q space = .lpm then 162 else 1024) = most
  split
  · rfl
  · split
    · rfl
    · split
      · rfl
      · split
        · rfl
        · split
          · rfl
          · split
            · rfl
            · split
              · rfl
              · next heq => split <;> simp [State.sortMoves_ambient _ _ _ _ _ _ _ heq]

@[simp] theorem State.writeRow_ambient (s : State) (q space n : Nat) (r : TcamRow) : (s.writeRow q space n r).1.ambient = s.ambient := by
  unfold State.writeRow
  split <;> simp

@[simp] theorem State.updateAction_ambient (s : State) (q space value mask action prio : Nat) : (s.updateAction q space value mask action prio).1.ambient = s.ambient := by
  unfold State.updateAction
  split <;> simp

@[simp] theorem State.deleteRow_ambient (s : State) (q space value mask : Nat) : (s.deleteRow q space value mask).1.ambient = s.ambient := by
  unfold State.deleteRow
  split <;> simp

@[simp] theorem State.rowFence_ambient (s : State) (q n : Nat) : (s.rowFence q n).ambient = s.ambient := by simp [State.rowFence]
@[simp] theorem State.scrubRow_ambient (s : State) (q n : Nat) (readBackOk : Bool) : (s.scrubRow q n readBackOk).ambient = s.ambient := by simp [State.scrubRow]
theorem execSuspectRowScrub_keeps (q n : Nat) (readBackOk : Bool) (s : State) : KeepsAmbient s (execSuspectRowScrub q n readBackOk s) := by simp [execSuspectRowScrub]
theorem execBackgroundScrub_keeps (q : Nat) (badRows : List Nat) (s : State) : KeepsAmbient s (execBackgroundScrub q badRows s) := by simp [execBackgroundScrub]
@[simp] theorem State.portL3Write_ambient (s : State) (p value master : Nat) : (s.portL3Write p value master).ambient = s.ambient := by simp [State.portL3Write]
theorem execTcmPortL3Write_keeps (p value : Nat) (s : State) : KeepsAmbient s (execTcmPortL3Write p value s) := by simp [execTcmPortL3Write]
@[simp] theorem State.throttle_ambient (s : State) (q : Nat) (t : Int) : (s.throttle q t).ambient = s.ambient := by simp [State.throttle]

/-! ## Lookup -/

@[simp] theorem State.putObj_ambient (s : State) (kind i v : Nat) : (s.putObj kind i v).ambient = s.ambient := by simp [State.putObj]
@[simp] theorem State.objCount_ambient (s : State) (kind i lsb w : Nat) : (s.objCount kind i lsb w).ambient = s.ambient := by simp [State.objCount]
@[simp] theorem State.portLookup_ambient (s : State) (p : Nat) (t en : Field) (key : Nat) : (s.portLookup p t en key).2.ambient = s.ambient := by simp [State.portLookup]
@[simp] theorem State.filter_ambient (s : State) (i n cls : Nat) : (s.filter i n cls).2.ambient = s.ambient := by simp [State.filter]
@[simp] theorem State.meter_ambient (s : State) (i n pre : Nat) : (s.meter i n pre).2.ambient = s.ambient := by simp [State.meter]

@[simp] theorem State.learn_ambient (s : State) (pinned : Nat → Nat → Bool) (f : Frame) : (s.learn pinned f).2.ambient = s.ambient := by
  unfold State.learn
  dsimp only
  split
  · rfl
  · split
    · rfl
    · split
      · next heq => (repeat' split) <;> simp [snd_ambient_of_eq heq]
      · next heq => (repeat' split) <;> simp [snd_ambient_of_eq heq]

@[simp] theorem State.cross_ambient (s : State) (l : List Copy) : (s.cross l).ambient = s.ambient := by simp [State.cross]

@[simp] theorem State.bindings_ambient (s : State) (f : Frame) (handle : Option Nat) : (s.bindings f handle).2.ambient = s.ambient := by
  unfold State.bindings
  split <;> simp

@[simp] theorem State.stages_ambient (s : State) (f : Frame) (hash : Nat) (err : LookupErrors) : (s.stages f hash err).2.ambient = s.ambient := by
  unfold State.stages
  extract_lets p q i r ucast mcast fdb s₁ hr s₂ any sg sgv s₃ sk sid s₄ lpmIn aclIn sfIn slot s₅ run lpm s₆ acl s₇ sf s₈ act handle bound s₉
  have h1 : s₁.ambient = s.ambient := by simp only [s₁, fdb]; split <;> simp
  have h2 : s₂.ambient = s.ambient := by simp [s₂, hr, h1]
  have h3 : s₃.ambient = s.ambient := by simp [s₃, sgv, any, sg, h2]
  have h4 : s₄.ambient = s.ambient := by simp [s₄, sid, h3]
  have h5 : s₅.ambient = s.ambient := by simp [s₅, h4]
  have hrun (t region wide key) : (run t region wide key).2.ambient = t.ambient := by simp only [run]; split <;> simp
  have h9 : s₉.ambient = s.ambient := by simp [s₉, bound, s₈, sf, s₇, acl, s₆, lpm, hrun, h5]
  split <;> exact h9

@[simp] theorem State.police_ambient (s : State) (f : Frame) (k : Looked) (cls : Nat) : (s.police f k cls).2.ambient = s.ambient := by
  unfold State.police
  extract_lets filterNo fl m0 pre acl
  have hfl : fl.2.ambient = s.ambient := by cases h : filterNo <;> simp [fl, h]
  clear_value fl
  split
  · exact hfl
  · next t =>
    extract_lets m1 r1 s₁ cls' r2
    have h1 : s₁.ambient = s.ambient := by cases h : m1 <;> simp_all [s₁, r1]
    simp [h1, r2]

@[simp] theorem State.forward_ambient (s : State) (pinned : Nat → Nat → Bool) (f : Frame) (err : LookupErrors) (ring : Option (Nat × Option (Nat × Nat))) :
    (s.forward pinned f err ring).2.ambient = s.ambient := by
  unfold State.forward
  extract_lets l r k s₁ acl s₂ dec dec'
  have h2 : s₂.ambient = s.ambient := by simp [s₂, s₁, r, l]
  clear_value dec'
  split
  · simp [h2]
  · split
    · next heq => simp [snd_ambient_of_eq heq, h2]
    · next heq =>
      dsimp only
      split <;> simp [snd_ambient_of_eq heq, h2]


/-! ## Objects -/

@[simp] theorem State.withWindow_ambient (s : State) (i q : Nat) (w : Window) : (s.withWindow i q w).ambient = s.ambient := by simp [State.withWindow]

@[simp] theorem State.objStore_ambient (s : State) (kind i v : Nat) : (s.objStore kind i v).ambient = s.ambient := by
  unfold State.objStore
  split <;> simp

@[simp] theorem State.onVersion_ambient {now : State → State} {s : State} (h : (now s).ambient = s.ambient) (f : Frame) (kind i : Nat) (old : OldObj → OldObj)
    (new : CutChange → CutChange) : (s.onVersion f kind i now old new).ambient = s.ambient := by
  unfold State.onVersion
  split <;> simp [h]

@[simp] theorem State.withWindowFor_ambient (s : State) (f : Frame) (i q : Nat) (w : Window) : (s.withWindowFor f i q w).ambient = s.ambient := by simp [State.withWindowFor]
@[simp] theorem State.seqTaken_ambient (s : State) (f : Frame) (i : Nat) : (s.seqTaken f i).ambient = s.ambient := by simp [State.seqTaken]
@[simp] theorem State.ctxCount_ambient (s : State) (i q : Nat) (l : List (MergeCount × Nat)) : (s.ctxCount i q l).ambient = s.ambient := by simp [State.ctxCount]
@[simp] theorem State.memberRx_ambient (s : State) (i q m : Nat) : (s.memberRx i q m).ambient = s.ambient := by simp [State.memberRx]
@[simp] theorem State.mrgCounts_ambient (s : State) (q : Nat) (r : Checked) : (s.mrgCounts q r).ambient = s.ambient := by simp [State.mrgCounts]

@[simp] theorem State.mergeStep_ambient (s : State) (f : Frame) (q i m : Nat) : (s.mergeStep f q i m).2.ambient = s.ambient := by
  unfold State.mergeStep
  dsimp only
  (repeat' split) <;> simp


/-! ## Changes -/

@[simp] theorem State.epochAbort_ambient (s : State) (i : Nat) : (s.epochAbort i).ambient = s.ambient := by
  unfold State.epochAbort
  split <;> simp

@[simp] theorem State.objWrite_ambient (s : State) (kind i v : Nat) : (s.objWrite kind i v).ambient = s.ambient := by simp [State.objWrite]
@[simp] theorem State.tueAbort_ambient (s : State) (q : Nat) : (s.tueAbort q).ambient = s.ambient := by simp [State.tueAbort]
@[simp] theorem State.gateClaim_ambient (s : State) (c : Cmd) : (s.gateClaim c).ambient = s.ambient := by simp [State.gateClaim]

@[simp] theorem State.emCmd_ambient (s : State) (c : Cmd) : (s.emCmd c).1.ambient = s.ambient := by
  unfold State.emCmd
  dsimp only
  (repeat' split) <;> simp

@[simp] theorem State.readRow_ambient (s : State) (q n : Nat) : (s.readRow q n).2.ambient = s.ambient := by
  unfold State.readRow
  dsimp only
  (repeat' split) <;> simp

@[simp] theorem State.tcCmd_ambient (s : State) (c : Cmd) : (s.tcCmd c).1.ambient = s.ambient := by
  unfold State.tcCmd
  dsimp only
  (repeat' split) <;> simp

@[simp] theorem State.objCmd_ambient (s : State) (c : Cmd) : (s.objCmd c).1.ambient = s.ambient := by simp [State.objCmd]

@[simp] theorem State.tableCmd_ambient (s : State) (c : Cmd) : (s.tableCmd c).1.ambient = s.ambient := by
  unfold State.tableCmd
  split
  · simp
  · split
    · rfl
    · split <;> simp

@[simp] theorem State.offerInsert_ambient (s : State) (t : TableCfg) (c : Cmd) (x : CutChange) : (s.offerInsert t c x).1.ambient = s.ambient := by
  unfold State.offerInsert
  dsimp only
  (repeat' split) <;> simp

@[simp] theorem State.offer_ambient (s : State) (c : Cmd) : (s.offer c).1.ambient = s.ambient := by
  unfold State.offer
  dsimp only
  (repeat' split) <;> simp

@[simp] theorem State.changeEntry_ambient (s : State) (t : TableCfg) (x : CutChange) : (s.changeEntry t x).1.ambient = s.ambient := by
  unfold State.changeEntry
  dsimp only
  (repeat' split) <;> simp

@[simp] theorem State.changeRow_ambient (s : State) (quads : List Nat) (x : CutChange) : (s.changeRow quads x).ambient = s.ambient := by
  unfold State.changeRow
  dsimp only
  (repeat' split) <;> simp

@[simp] theorem State.viewChange_ambient (s : State) (missed : List Nat) (x : CutChange) : (s.viewChange missed x).ambient = s.ambient := by simp [State.viewChange]
@[simp] theorem State.keepOld_ambient (s : State) (uid kind i : Nat) : (s.keepOld uid kind i).ambient = s.ambient := by simp [State.keepOld]

@[simp] theorem State.applyChange_ambient (s : State) (uid : Nat) (missed : List Nat) (x : CutChange) : (s.applyChange uid missed x).ambient = s.ambient := by
  unfold State.applyChange
  dsimp only
  (repeat' split) <;> simp

@[simp] theorem State.applyCut_ambient (s : State) (c : Cut) : (s.applyCut c).ambient = s.ambient := by simp [State.applyCut]
@[simp] theorem State.viewCut_ambient (s : State) (c : Cut) : (s.viewCut c).ambient = s.ambient := by simp [State.viewCut]
@[simp] theorem State.unview_ambient (before changed after : State) : (before.unview changed after).ambient = after.ambient := by simp [State.unview]

/-! ## Cuts -/

@[simp] theorem State.cutMirror_ambient (s : State) (n : Nat) : (s.cutMirror n).ambient = s.ambient := by simp [State.cutMirror]
@[simp] theorem State.withCut_ambient (s : State) (n : Nat) (c : Option Cut) : (s.withCut n c).ambient = s.ambient := by simp [State.withCut]
@[simp] theorem State.cutsFix_ambient (s : State) (last : Bool) : (s.cutsFix last).ambient = s.ambient := by simp [State.cutsFix]
@[simp] theorem State.cutNow_ambient (s : State) (n : Nat) (c : Cut) : (s.cutNow n c).ambient = s.ambient := by simp [State.cutNow]
@[simp] theorem State.cutsNow_ambient (s : State) (l : List (Nat × Cut)) : (s.cutsNow l).ambient = s.ambient := by simp [State.cutsNow]
@[simp] theorem State.cutsDue_ambient (s : State) (last : Bool) : (s.cutsDue last).ambient = s.ambient := by simp [State.cutsDue]

/-! ## Dealer -/

@[simp] theorem State.waitedNow_ambient (s : State) (t : Nat) : (s.waitedNow t).ambient = s.ambient := by simp [State.waitedNow]
@[simp] theorem State.underRate_ambient (s : State) (t : Nat) : (s.underRate t).ambient = s.ambient := by simp [State.underRate]
@[simp] theorem State.restarted_ambient (s : State) (t k : Nat) : (s.restarted t k).ambient = s.ambient := by simp [State.restarted]

@[simp] theorem State.dealTo_ambient (s : State) (order p : Nat) : (s.dealTo order p).ambient = s.ambient := by
  unfold State.dealTo
  dsimp only
  (repeat' split) <;> simp

@[simp] theorem State.dealNext_ambient (s : State) (t : Nat) : (s.dealNext t).ambient = s.ambient := by simp [State.dealNext]

/-! ## Elytra -/

@[simp] theorem State.withSlot_ambient (s : State) (n : Nat) (f : KeySlot → KeySlot) : (s.withSlot n f).ambient = s.ambient := by simp [State.withSlot]

@[simp] theorem State.slotWrite_ambient {f : State → State} {s : State} (h : (f s).ambient = s.ambient) (n master : Nat) : (s.slotWrite n master f).ambient = s.ambient := by
  unfold State.slotWrite
  split <;> simp [h]

@[simp] theorem State.clearStaged_ambient (s : State) (n : Nat) : (s.clearStaged n).ambient = s.ambient := by simp [State.clearStaged]

@[simp] theorem State.swapNow_ambient (s : State) (n : Nat) : (s.swapNow n).ambient = s.ambient := by
  unfold State.swapNow
  dsimp only
  split <;> simp

@[simp] theorem State.zeroizeNow_ambient (s : State) (n : Nat) : (s.zeroizeNow n).ambient = s.ambient := by simp [State.zeroizeNow]
@[simp] theorem State.slotBoundary_ambient (s : State) (n : Nat) : (s.slotBoundary n).ambient = s.ambient := by simp [State.slotBoundary]
@[simp] theorem State.slotSwap_ambient (s : State) (n : Nat) : (s.slotSwap n).ambient = s.ambient := by simp [State.slotSwap]
@[simp] theorem State.slotZeroize_ambient (s : State) (n : Nat) : (s.slotZeroize n).ambient = s.ambient := by simp [State.slotZeroize]
@[simp] theorem State.slotClearStaged_ambient (s : State) (n : Nat) : (s.slotClearStaged n).ambient = s.ambient := by simp [State.slotClearStaged]

@[simp] theorem State.stagedWrite_ambient {f : State → State} {s : State} (h : (f s).ambient = s.ambient) (n : Nat) : (s.stagedWrite n f).ambient = s.ambient := by
  simp [State.stagedWrite, h]

@[simp] theorem State.stgKeyWrite_ambient (s : State) (n k v : Nat) : (s.stgKeyWrite n k v).ambient = s.ambient := by simp [State.stgKeyWrite]
@[simp] theorem State.stgCfgWrite_ambient (s : State) (n v : Nat) : (s.stgCfgWrite n v).ambient = s.ambient := by simp [State.stgCfgWrite]

@[simp] theorem State.secCfgWrite_ambient (s : State) (p v master : Nat) : (s.secCfgWrite p v master).ambient = s.ambient := by
  unfold State.secCfgWrite
  dsimp only
  (repeat' split) <;> simp

@[simp] theorem State.secSwitch_ambient (s : State) (p : Nat) : (s.secSwitch p).ambient = s.ambient := by simp [State.secSwitch]
@[simp] theorem State.secBoundary_ambient (s : State) (p : Nat) (rx : Bool) : (s.secBoundary p rx).ambient = s.ambient := by simp [State.secBoundary]
@[simp] theorem State.secTransmit_ambient (s : State) (p : Nat) (bs : List Byte) : (s.secTransmit p bs).2.ambient = s.ambient := by simp [State.secTransmit]

@[simp] theorem State.secReceive_ambient (s : State) (p mtu : Nat) (bs : List Byte) : (s.secReceive p mtu bs).2.ambient = s.ambient := by
  unfold State.secReceive
  dsimp only
  (repeat' split) <;> simp

@[simp] theorem State.laneFault_ambient (s : State) (p k : Nat) : (s.laneFault p k).ambient = s.ambient := by simp [State.laneFault]
@[simp] theorem State.clearSlot_ambient (s : State) (n : Nat) : (s.clearSlot n).ambient = s.ambient := by simp [State.clearSlot]
@[simp] theorem State.clearSlots_ambient (s : State) (p : Nat → Bool) : (s.clearSlots p).ambient = s.ambient := by simp [State.clearSlots]
theorem execSlotSwap_keeps (n : Nat) (s : State) : KeepsAmbient s (execSlotSwap n s) := by simp [execSlotSwap]
theorem execSwapTakesEffect_keeps (n : Nat) (s : State) : KeepsAmbient s (execSwapTakesEffect n s) := by simp [execSwapTakesEffect]
theorem execSlotZeroize_keeps (n : Nat) (s : State) : KeepsAmbient s (execSlotZeroize n s) := by simp [execSlotZeroize]
theorem execSlotClearStaged_keeps (n : Nat) (s : State) : KeepsAmbient s (execSlotClearStaged n s) := by simp [execSlotClearStaged]
theorem execKeyErased_keeps (n : Nat) (s : State) : KeepsAmbient s (execKeyErased n s) := by simp [execKeyErased]
theorem execStgCfgWrite_keeps (n v : Nat) (s : State) : KeepsAmbient s (execStgCfgWrite n v s) := by simp [execStgCfgWrite]
theorem execPrtSecCfgWrite_keeps (p v : Nat) (s : State) : KeepsAmbient s (execPrtSecCfgWrite p v s) := by simp [execPrtSecCfgWrite]
theorem execSecChannelSwitch_keeps (p : Nat) (s : State) : KeepsAmbient s (execSecChannelSwitch p s) := by simp [execSecChannelSwitch]
theorem execEntropyHealthFail_keeps (s : State) : KeepsAmbient s (execEntropyHealthFail s) := by simp [execEntropyHealthFail]
theorem execDrbgReseed_keeps (taken : Bool) (s : State) : KeepsAmbient s (execDrbgReseed taken s) := by simp [execDrbgReseed]

/-! ## Ports -/

@[simp] theorem State.dropQueue_ambient (s : State) (gq code : Nat) (p : QEntry → Bool) : (s.dropQueue gq code p).ambient = s.ambient := by simp [State.dropQueue]
@[simp] theorem State.dropPort_ambient (s : State) (p code : Nat) (f : State → QEntry → Bool) : (s.dropPort p code f).ambient = s.ambient := by simp [State.dropPort]
@[simp] theorem State.holdExpire_ambient (s : State) (p : Nat) : (s.holdExpire p).ambient = s.ambient := by simp [State.holdExpire]

@[simp] theorem State.startHold_ambient (s : State) (p : Nat) : (s.startHold p).ambient = s.ambient := by
  unfold State.startHold
  dsimp only
  split <;> simp

@[simp] theorem State.prtCounts_ambient (s : State) (p : Nat) (l : List (Nat × Nat)) : (s.prtCounts p l).ambient = s.ambient := by simp [State.prtCounts]
@[simp] theorem State.prtUncount_ambient (s : State) (p : Nat) (l : List (Nat × Nat)) : (s.prtUncount p l).ambient = s.ambient := by simp [State.prtUncount]
@[simp] theorem State.unsetAll_ambient (s : State) (fs : List Field) (is : List Nat) : (s.unsetAll fs is).ambient = s.ambient := by simp [State.unsetAll]
@[simp] theorem State.requeue_ambient (s : State) (gq : Nat) : (s.requeue gq).ambient = s.ambient := by simp [State.requeue]
@[simp] theorem State.lateDone_ambient (s : State) (p : Nat) : (s.lateDone p).ambient = s.ambient := by simp [State.lateDone]

@[simp] theorem State.takeSched_ambient (s : State) (p : Nat) : (s.takeSched p).ambient = s.ambient := by
  unfold State.takeSched
  split <;> simp

@[simp] theorem State.txBoundary_ambient (s : State) (p : Nat) : (s.txBoundary p).ambient = s.ambient := by simp [State.txBoundary]
@[simp] theorem State.mapFrames_ambient (s : State) (f : Frame → Frame) : (s.mapFrames f).ambient = s.ambient := by simp [State.mapFrames]
@[simp] theorem State.cutReceive_ambient (s : State) (p : Nat) : (s.cutReceive p).ambient = s.ambient := by simp [State.cutReceive]
@[simp] theorem State.cutTransmit_ambient (s : State) (p : Nat) : (s.cutTransmit p).ambient = s.ambient := by simp [State.cutTransmit]
@[simp] theorem State.flushTsf_ambient (s : State) (p : Nat) : (s.flushTsf p).2.ambient = s.ambient := by simp [State.flushTsf]
@[simp] theorem State.linkDown_ambient (s : State) (p : Nat) : (s.linkDown p).ambient = s.ambient := by simp [State.linkDown]
@[simp] theorem State.linksDown_ambient (s : State) (l : List Nat) : (s.linksDown l).ambient = s.ambient := by simp [State.linksDown]

@[simp] theorem State.linkUp_ambient (s : State) (p deskew : Nat) : (s.linkUp p deskew).ambient = s.ambient := by
  unfold State.linkUp
  dsimp only
  (repeat' split) <;> simp

@[simp] theorem State.glowOff_ambient (s : State) (p : Nat) : (s.glowOff p).ambient = s.ambient := by simp [State.glowOff]
@[simp] theorem State.adminUp_ambient (s : State) (p : Nat) (up : Bool) : (s.adminUp p up).ambient = s.ambient := by simp [State.adminUp]
@[simp] theorem State.loopback_ambient (s : State) (p mode : Nat) : (s.loopback p mode).ambient = s.ambient := by simp [State.loopback]
@[simp] theorem State.showPort_ambient (s : State) (p : Nat) : (s.showPort p).ambient = s.ambient := by simp [State.showPort]

@[simp] theorem State.pauseTake_ambient (s : State) (p : Nat) : (s.pauseTake p).2.ambient = s.ambient := by
  unfold State.pauseTake
  split <;> simp

@[simp] theorem State.fcModeWrite_ambient (s : State) (p mode : Nat) : (s.fcModeWrite p mode).ambient = s.ambient := by simp [State.fcModeWrite]
@[simp] theorem State.pauseRefresh_ambient (s : State) (p c : Nat) : (s.pauseRefresh p c).ambient = s.ambient := by simp [State.pauseRefresh]
@[simp] theorem State.rxPause_ambient (s : State) (p mask quanta : Nat) : (s.rxPause p mask quanta).ambient = s.ambient := by simp [State.rxPause]
@[simp] theorem State.macControl_ambient (s : State) (p : Nat) (bs : List Byte) : (s.macControl p bs).ambient = s.ambient := by simp [State.macControl]
@[simp] theorem State.fcTxWrite_ambient (s : State) (p v : Nat) : (s.fcTxWrite p v).ambient = s.ambient := by simp [State.fcTxWrite]
theorem execLinkUp_keeps (p deskew : Nat) (s : State) : KeepsAmbient s (execLinkUp p deskew s) := by simp [execLinkUp]
theorem execLinkDown_keeps (p : Nat) (s : State) : KeepsAmbient s (execLinkDown p s) := by simp [execLinkDown]
theorem execHoldExpiry_keeps (p : Nat) (s : State) : KeepsAmbient s (execHoldExpiry p s) := by simp [execHoldExpiry]
theorem execPortAdminDown_keeps (p : Nat) (s : State) : KeepsAmbient s (execPortAdminDown p s) := by simp [execPortAdminDown]
theorem execPortAdminUp_keeps (p : Nat) (s : State) : KeepsAmbient s (execPortAdminUp p s) := by simp [execPortAdminUp]
theorem execLoopbackChange_keeps (p mode : Nat) (s : State) : KeepsAmbient s (execLoopbackChange p mode s) := by simp [execLoopbackChange]
theorem execPauseExpiry_keeps (p c : Nat) (s : State) : KeepsAmbient s (execPauseExpiry p c s) := by simp [execPauseExpiry]
theorem execPauseRefresh_keeps (p c : Nat) (s : State) : KeepsAmbient s (execPauseRefresh p c s) := by simp [execPauseRefresh]
theorem execPrtFcTxWrite_keeps (p v : Nat) (s : State) : KeepsAmbient s (execPrtFcTxWrite p v s) := by simp [execPrtFcTxWrite]

/-! ## Rx -/

@[simp] theorem State.rxStamp_ambient (s : State) (p : Nat) (c : PortCfg) : (s.rxStamp p c).2.ambient = s.ambient := by simp [State.rxStamp]
@[simp] theorem State.withStaged_ambient (s : State) (p : Nat) (l : List Frame) : (s.withStaged p l).ambient = s.ambient := by simp [State.withStaged]
@[simp] theorem State.withFarm_ambient (s : State) (t : Nat) (x : Farm) : (s.withFarm t x).ambient = s.ambient := by simp [State.withFarm]
@[simp] theorem State.stageDrop_ambient (s : State) (p : Nat) : (s.stageDrop p).ambient = s.ambient := by simp [State.stageDrop]
@[simp] theorem State.newFrame_ambient (s : State) (f : Frame) : (s.newFrame f).2.ambient = s.ambient := by simp [State.newFrame]

@[simp] theorem State.stage_ambient (s : State) (p : Nat) (c : PortCfg) (stamp : Nat × Nat) (bs : List Byte) (wire : Nat) (fcsOk : Bool) (tally : List (Nat × Nat)) :
    (s.stage p c stamp bs wire fcsOk tally).ambient = s.ambient := by
  unfold State.stage
  dsimp only
  split <;> simp

@[simp] theorem State.rxDiscard_ambient (s : State) (p : Nat) (c : PortCfg) (n k : Nat) : (s.rxDiscard p c n k).ambient = s.ambient := by simp [State.rxDiscard]

@[simp] theorem State.rxMac_ambient (s : State) (p : Nat) (c : PortCfg) (bs : List Byte) (fcsOk : Bool) (laneBad : Option Nat) :
    (s.rxMac p c bs fcsOk laneBad).ambient = s.ambient := by
  unfold State.rxMac
  extract_lets s₁ wire limit st s₂ r early k₁ good counts
  have h : s₂.ambient = s.ambient := by simp [s₂, st, s₁]
  split
  · simp [h]
  · split
    · simp [h]
    · split
      · simp [h]
      · split
        · simp [h]
        · split
          · simp [h]
          · split
            · simp [h]
            · split
              · next heq => simp [snd_ambient_of_eq heq, h]
              · next heq => simp [snd_ambient_of_eq heq, h]

@[simp] theorem State.pauseSend_ambient (s : State) (p : Nat) : (s.pauseSend p).ambient = s.ambient := by
  unfold State.pauseSend
  split
  · next heq _ => split <;> simp [snd_ambient_of_eq heq]
  · next heq _ => simp [snd_ambient_of_eq heq]

@[simp] theorem State.codewords_ambient (s : State) (p : Nat) (c : PortCfg) (cw : List Nat) : (s.codewords p c cw).ambient = s.ambient := by simp [State.codewords]

@[simp] theorem State.rxFrame_ambient (s : State) (p : Nat) (bs : List Byte) (fcsOk : Bool) (laneBad : Option Nat) (cw : List Nat) :
    (s.rxFrame p bs fcsOk laneBad cw).ambient = s.ambient := by
  unfold State.rxFrame
  split <;> simp

@[simp] theorem State.loseFrame_ambient (s : State) (f : Frame) (code : Nat) : (s.loseFrame f code).ambient = s.ambient := by simp [State.loseFrame]

@[simp] theorem State.stagingRelease_ambient (s : State) (p : Nat) : (s.stagingRelease p).ambient = s.ambient := by
  unfold State.stagingRelease
  split <;> simp

@[simp] theorem State.deal_ambient (s : State) (t : Nat) : (s.deal t).ambient = s.ambient := by
  unfold State.deal
  dsimp only
  (repeat' split) <;> simp

@[simp] theorem State.redeal_ambient (s : State) (t i : Nat) : (s.redeal t i).ambient = s.ambient := by
  unfold State.redeal
  split <;> simp

@[simp] theorem State.dealOne_ambient (s : State) (t : Nat) : (s.dealOne t).ambient = s.ambient := by
  unfold State.dealOne
  split <;> simp

@[simp] theorem State.parseDeal_ambient (s : State) (t : Nat) : (s.parseDeal t).ambient = s.ambient := by simp [State.parseDeal]

@[simp] theorem State.engineLeaves_ambient (s : State) (t e : Nat) : (s.engineLeaves t e).ambient = s.ambient := by
  unfold State.engineLeaves
  dsimp only
  (repeat' split) <;> simp

@[simp] theorem State.parserFault_ambient (s : State) (t e : Nat) (again : Bool) : (s.parserFault t e again).ambient = s.ambient := by simp [State.parserFault]

@[simp] theorem State.parseComplete_ambient (s : State) (t e : Nat) (bad : Bool) : (s.parseComplete t e bad).ambient = s.ambient := by
  unfold State.parseComplete
  dsimp only
  split <;> simp

theorem execRxFrame_keeps (p : Nat) (bs : List Byte) (fcsOk : Bool) (laneBad : Option Nat) (cw : List Nat) (s : State) :
    KeepsAmbient s (execRxFrame p bs fcsOk laneBad cw s) := by simp [execRxFrame]

theorem execPauseFrameSend_keeps (p : Nat) (s : State) : KeepsAmbient s (execPauseFrameSend p s) := by simp [execPauseFrameSend]
theorem execStagingRelease_keeps (p : Nat) (s : State) : KeepsAmbient s (execStagingRelease p s) := by simp [execStagingRelease]
theorem execParseDeal_keeps (t : Nat) (s : State) : KeepsAmbient s (execParseDeal t s) := by simp [execParseDeal]
theorem execParseComplete_keeps (t e : Nat) (bad : Bool) (s : State) : KeepsAmbient s (execParseComplete t e bad s) := by simp [execParseComplete]

/-! ## Ring -/

@[simp] theorem State.probeFrame_ambient (s : State) (g p kind number : Nat) (t1 t2 : List Byte) : (s.probeFrame g p kind number t1 t2).2.ambient = s.ambient := by simp [State.probeFrame]
@[simp] theorem State.probeQueue_ambient (s : State) (p : Nat) (f : Frame) : (s.probeQueue p f).ambient = s.ambient := by simp [State.probeQueue]

@[simp] theorem State.probeSend_ambient (s : State) (p : Nat) : (s.probeSend p).ambient = s.ambient := by
  unfold State.probeSend
  split <;> simp

@[simp] theorem State.probeTimeout_ambient (s : State) (p : Nat) : (s.probeTimeout p).ambient = s.ambient := by
  unfold State.probeTimeout
  split <;> simp

@[simp] theorem State.ringControl_ambient (s : State) (g : Nat) (f : Frame) : (s.ringControl g f).ambient = s.ambient := by simp [State.ringControl]
@[simp] theorem State.badTag_ambient (s : State) (f : Frame) : (s.badTag f).ambient = s.ambient := by simp [State.badTag]
@[simp] theorem State.groupCtxWrite_ambient (s : State) (g v : Nat) : (s.groupCtxWrite g v).ambient = s.ambient := by simp [State.groupCtxWrite]
theorem execRingProbeSend_keeps (p : Nat) (s : State) : KeepsAmbient s (execRingProbeSend p s) := by simp [execRingProbeSend]
theorem execProbeTimeout_keeps (p : Nat) (s : State) : KeepsAmbient s (execProbeTimeout p s) := by simp [execProbeTimeout]
theorem execRngGroupCtxWrite_keeps (g v : Nat) (s : State) : KeepsAmbient s (execRngGroupCtxWrite g v s) := by simp [execRngGroupCtxWrite]

/-! ## Farm -/

@[simp] theorem State.forwardCut_ambient (s : State) (f : Frame) (err : LookupErrors) (ring : Option (Nat × Option (Nat × Nat))) :
    (s.forwardCut f err ring).2.ambient = s.ambient := by simp [State.forwardCut]

@[simp] theorem State.cutsSee_ambient (s : State) (f : Frame) (k : Looked) : (s.cutsSee f k).ambient = s.ambient := by simp [State.cutsSee]

@[simp] theorem State.forwardSeen_ambient (s : State) (f : Frame) (err : LookupErrors) (ring : Option (Nat × Option (Nat × Nat))) :
    (s.forwardSeen f err ring).ambient = s.ambient := by simp [State.forwardSeen]

@[simp] theorem State.lookupDirect_ambient (s : State) (f : Frame) (d : Direct) : (s.lookupDirect f d).ambient = s.ambient := by simp [State.lookupDirect]

@[simp] theorem State.lookupRing_ambient (s : State) (f : Frame) (err : LookupErrors) : (s.lookupRing f err).ambient = s.ambient := by
  unfold State.lookupRing
  dsimp only
  (repeat' split) <;> simp

@[simp] theorem State.lookup_ambient (s : State) (f : Frame) (err : LookupErrors) : (s.lookup f err).ambient = s.ambient := by
  unfold State.lookup
  dsimp only
  (repeat' split) <;> simp

@[simp] theorem State.rowErrors_ambient (s : State) (t : Nat) (err : LookupErrors) : (s.rowErrors t err).ambient = s.ambient := by simp [State.rowErrors]

@[simp] theorem State.reorderRelease_ambient (s : State) (t : Nat) (err : LookupErrors) : (s.reorderRelease t err).ambient = s.ambient := by
  unfold State.reorderRelease
  dsimp only
  (repeat' split) <;> simp

theorem execReorderRelease_keeps (t : Nat) (err : LookupErrors) (s : State) : KeepsAmbient s (execReorderRelease t err s) := by simp [execReorderRelease]

/-! ## Egress -/

@[simp] theorem State.replicate_ambient (s : State) (free : FreeAt) (c : Copy) (h region : Nat) (r : Replica) (closer : Bool) (seq : Option Nat) :
    (s.replicate free c h region r closer seq).2.ambient = s.ambient := by
  unfold State.replicate
  dsimp only
  (repeat' split) <;> simp

@[simp] theorem State.replicateCycle_ambient (s : State) (y : QuadCycle) (c : Copy) (h region : Nat) (seq : Option Nat) (l : List (Replica × Bool)) :
    (s.replicateCycle y c h region seq l).2.ambient = s.ambient := by simp [State.replicateCycle]

@[simp] theorem State.replicateAll_ambient (s : State) (y : QuadCycle) (c : Copy) (h region : Nat) (seq : Option Nat) (l : List (Replica × Bool)) (n : Nat) :
    (s.replicateAll y c h region seq l n).ambient = s.ambient := by
  induction n generalizing s y seq l with
  | zero => rfl
  | succ n ih => simp [State.replicateAll, ih]

@[simp] theorem State.groupIn_ambient (s : State) (y : QuadCycle) (c : Copy) (first n : Nat) (shelter : Bool) : (s.groupIn y c first n shelter).ambient = s.ambient := by
  unfold State.groupIn
  dsimp only
  split
  · next heq => simp [snd_ambient_of_eq heq]
  · next heq => simp [snd_ambient_of_eq heq]

@[simp] theorem State.mergeDrop_ambient (s : State) (c : Copy) : (s.mergeDrop c).ambient = s.ambient := by
  unfold State.mergeDrop
  split <;> simp

@[simp] theorem State.deliver_ambient (s : State) (y : QuadCycle) (c : Copy) : (s.deliver y c).ambient = s.ambient := by
  unfold State.deliver
  split <;> simp

@[simp] theorem State.xbarMark_ambient (s : State) (q : Nat) : (s.xbarMark q).ambient = s.ambient := by simp [State.xbarMark]

@[simp] theorem State.egressArrival_ambient (s : State) (q : Nat) : (s.egressArrival q).ambient = s.ambient := by
  unfold State.egressArrival
  split
  · simp
  · split
    · rfl
    · dsimp only
      split
      · simp
      · split
        · simp
        · split
          · next heq => simp [snd_ambient_of_eq heq]
          · next heq => simp [snd_ambient_of_eq heq]

@[simp] theorem State.ageHeadCheck_ambient (s : State) (q : Nat) : (s.ageHeadCheck q).ambient = s.ambient := by simp [State.ageHeadCheck]
@[simp] theorem State.sextonRecord_ambient (s : State) (q h partition : Nat) (double : Bool) : (s.sextonRecord q h partition double).ambient = s.ambient := by simp [State.sextonRecord]
@[simp] theorem State.sextonLeak_ambient (s : State) (q h : Nat) (b : Buf) : (s.sextonLeak q h b).ambient = s.ambient := by simp [State.sextonLeak]
@[simp] theorem State.sextonDouble_ambient (s : State) (q h partition : Nat) : (s.sextonDouble q h partition).ambient = s.ambient := by simp [State.sextonDouble]

@[simp] theorem State.audit_ambient (s : State) (q h : Nat) : (s.audit q h).ambient = s.ambient := by
  unfold State.audit
  split
  · rfl
  · split
    · simp
    · split <;> simp

@[simp] theorem State.sextonWalk_ambient (s : State) (q : Nat) (doubles : List (Nat × Nat)) : (s.sextonWalk q doubles).ambient = s.ambient := by simp [State.sextonWalk]
@[simp] theorem State.foreignFree_ambient (s : State) (q handle master : Nat) : (s.foreignFree q handle master).ambient = s.ambient := by simp [State.foreignFree]

@[simp] theorem State.bufFree_ambient (s : State) (q handle master : Nat) : (s.bufFree q handle master).ambient = s.ambient := by
  unfold State.bufFree
  split <;> simp

@[simp] theorem State.queueCfgWrite_ambient (s : State) (gq v : Nat) : (s.queueCfgWrite gq v).ambient = s.ambient := by simp [State.queueCfgWrite]
theorem execAgeHeadCheck_keeps (q : Nat) (s : State) : KeepsAmbient s (execAgeHeadCheck q s) := by simp [execAgeHeadCheck]
theorem execSextonWalk_keeps (x : SextonFind) (s : State) : KeepsAmbient s (execSextonWalk x s) := by simp [execSextonWalk]
theorem execBufFreeWrite_keeps (q v : Nat) (s : State) : KeepsAmbient s (execBufFreeWrite q v s) := by simp [execBufFreeWrite]
theorem execBufQueueCfgWrite_keeps (gq v : Nat) (s : State) : KeepsAmbient s (execBufQueueCfgWrite gq v s) := by simp [execBufQueueCfgWrite]

/-! ## Mail -/

@[simp] theorem State.mailRespond_ambient (s : State) (op tag status result data : Nat) : (s.mailRespond op tag status result data).ambient = s.ambient := by simp [State.mailRespond]
@[simp] theorem State.mailDone_ambient (s : State) (op tag result : Nat) : (s.mailDone op tag result).ambient = s.ambient := by simp [State.mailDone]
@[simp] theorem State.mailBegin_ambient (s : State) (op tag : Nat) (args : List Nat) : (s.mailBegin op tag args).ambient = s.ambient := by simp [State.mailBegin]

@[simp] theorem State.mailRun_ambient {f : State → State} (h : ∀ t, (f t).ambient = t.ambient) (s : State) (op tag : Nat) (args : List Nat) :
    (s.mailRun op tag args f).ambient = s.ambient := by
  unfold State.mailRun
  dsimp only
  split
  · rfl
  · split
    · simp
    · split <;> simp [h]

@[simp] theorem State.mailCopy_ambient (s : State) : s.mailCopy.ambient = s.ambient := by
  unfold State.mailCopy
  dsimp only
  split <;> simp


/-! ## Gates -/

@[simp] theorem State.withGate_ambient (s : State) (r : GateRegs) (g : Gate) : (s.withGate r g).ambient = s.ambient := by simp [State.withGate]
@[simp] theorem State.evGate_ambient (s : State) (r : GateRegs) (f : Field) : (s.evGate r f).ambient = s.ambient := by simp [State.evGate]
@[simp] theorem State.gateMirror_ambient (s : State) (r : GateRegs) : (s.gateMirror r).ambient = s.ambient := by simp [State.gateMirror]
@[simp] theorem State.operStore_ambient (s : State) (r : GateRegs) (l : List Nat) : (s.operStore r l).ambient = s.ambient := by simp [State.operStore]

@[simp] theorem State.gateStart_ambient (s : State) (r : GateRegs) : (s.gateStart r).ambient = s.ambient := by
  unfold State.gateStart
  dsimp only
  split <;> simp

@[simp] theorem State.gatePend_ambient (s : State) (r : GateRegs) (l : GateList) : (s.gatePend r l).ambient = s.ambient := by simp [State.gatePend]

@[simp] theorem State.gateChange_ambient (s : State) (r : GateRegs) : (s.gateChange r).ambient = s.ambient := by
  unfold State.gateChange
  dsimp only
  (repeat' split) <;> simp

@[simp] theorem State.gateCancel_ambient (s : State) (r : GateRegs) : (s.gateCancel r).ambient = s.ambient := by simp [State.gateCancel]

@[simp] theorem State.portGateWrite_ambient {f : State → State} {s : State} (h : (f s).ambient = s.ambient) (p master : Nat) :
    (s.portGateWrite p master f).ambient = s.ambient := by simp [State.portGateWrite, h]

@[simp] theorem State.streamGateWrite_ambient {f : State → State} {s : State} (h : (f s).ambient = s.ambient) (g master : Nat) :
    (s.streamGateWrite g master f).ambient = s.ambient := by simp [State.streamGateWrite, h]

theorem execGateChange_keeps (p : Nat) (s : State) : KeepsAmbient s (execGateChange p s) := by simp [execGateChange]
theorem execGateCancel_keeps (p : Nat) (s : State) : KeepsAmbient s (execGateCancel p s) := by simp [execGateCancel]
theorem execGateListStart_keeps (p : Nat) (s : State) : KeepsAmbient s (execGateListStart p s) := by simp [execGateListStart]
theorem execGateEntryTransition_keeps (p : Nat) (s : State) : KeepsAmbient s (execGateEntryTransition p s) := by simp [execGateEntryTransition]
theorem execSgChange_keeps (g : Nat) (s : State) : KeepsAmbient s (execSgChange g s) := by simp [execSgChange]
theorem execSgCancel_keeps (g : Nat) (s : State) : KeepsAmbient s (execSgCancel g s) := by simp [execSgCancel]
theorem execSgListStart_keeps (g : Nat) (s : State) : KeepsAmbient s (execSgListStart g s) := by simp [execSgListStart]
theorem execSgTransition_keeps (g : Nat) (s : State) : KeepsAmbient s (execSgTransition g s) := by simp [execSgTransition]

/-! ## Telem -/

@[simp] theorem State.telemLost_ambient (s : State) (q d : Nat) : (s.telemLost q d).ambient = s.ambient := by simp [State.telemLost]

@[simp] theorem State.telemWrite_ambient (s : State) (q rec : Nat) : (s.telemWrite q rec).ambient = s.ambient := by
  unfold State.telemWrite
  split <;> simp

@[simp] theorem State.sampleSet_ambient (s : State) (f : Field) (i v : Nat) : (s.sampleSet f i v).ambient = s.ambient := by simp [State.sampleSet]
@[simp] theorem State.sampleOne_ambient (s : State) (q n : Nat) : (s.sampleOne q n).ambient = s.ambient := by simp [State.sampleOne]

@[simp] theorem State.watchOne_ambient (s : State) (q time n : Nat) : (s.watchOne q time n).ambient = s.ambient := by
  unfold State.watchOne
  dsimp only
  (repeat' split) <;> simp

@[simp] theorem State.queueSample_ambient (s : State) (q : Nat) : (s.queueSample q).ambient = s.ambient := by
  unfold State.queueSample
  dsimp only
  (repeat' split) <;> simp


/-! ## Sched -/

@[simp] theorem State.stampLost_ambient (s : State) (t : Nat) : (s.stampLost t).ambient = s.ambient := by simp [State.stampLost]

@[simp] theorem State.tsfDisplace_ambient (s : State) (t : Nat) : (s.tsfDisplace t).ambient = s.ambient := by
  unfold State.tsfDisplace
  split <;> simp

@[simp] theorem State.stampWrite_ambient (s : State) (t rec : Nat) (fault : DramFault) : (s.stampWrite t rec fault).ambient = s.ambient := by simp [State.stampWrite]
@[simp] theorem State.tsfPop_ambient (s : State) (t v : Nat) : (s.tsfPop t v).ambient = s.ambient := by simp [State.tsfPop]
@[simp] theorem State.withShaper_ambient (s : State) (p k : Nat) (f : Shaper → Shaper) : (s.withShaper p k f).ambient = s.ambient := by simp [State.withShaper]
@[simp] theorem State.refillOne_ambient (s : State) (p k : Nat) : (s.refillOne p k).ambient = s.ambient := by simp [State.refillOne]
@[simp] theorem State.shaperRefill_ambient (s : State) (t : Nat) : (s.shaperRefill t).ambient = s.ambient := by simp [State.shaperRefill]
@[simp] theorem State.shaperMove_ambient (s : State) (p k : Nat) (n : Int) : (s.shaperMove p k n).ambient = s.ambient := by simp [State.shaperMove]
@[simp] theorem State.popHead_ambient (s : State) (gq : Nat) : (s.popHead gq).ambient = s.ambient := by simp [State.popHead]
@[simp] theorem State.headLost_ambient (s : State) (p gq code : Nat) (e : QEntry) : (s.headLost p gq code e).ambient = s.ambient := by simp [State.headLost]

@[simp] theorem State.classHead_ambient (s : State) (p c n : Nat) : (s.classHead p c n).1.ambient = s.ambient := by
  induction n generalizing s with
  | zero => rfl
  | succ n ih =>
    unfold State.classHead
    dsimp only
    (repeat' split) <;> simp [ih]

@[simp] theorem State.choose_ambient (s : State) (p : Nat) (l : List Nat) : (s.choose p l).1.ambient = s.ambient := by
  induction l generalizing s with
  | nil => rfl
  | cons c cs ih =>
    unfold State.choose
    split
    · exact ih s
    · split
      · next heq => simp [fst_ambient_of_eq heq]
      · next heq => simp [ih, fst_ambient_of_eq heq]

@[simp] theorem State.start_ambient (s : State) (p gq : Nat) (e : QEntry) (b : Buf) : (s.start p gq e b).ambient = s.ambient := by simp [State.start]

@[simp] theorem State.schedDecision_ambient (s : State) (p : Nat) : (s.schedDecision p).ambient = s.ambient := by
  unfold State.schedDecision
  split
  · rfl
  · split
    · next heq => simp [fst_ambient_of_eq heq]
    · next heq => simp [fst_ambient_of_eq heq]

@[simp] theorem State.qmapWrite_ambient (s : State) (p c v : Nat) : (s.qmapWrite p c v).ambient = s.ambient := by simp [State.qmapWrite]
theorem execSchedDecision_keeps (p : Nat) (s : State) : KeepsAmbient s (execSchedDecision p s) := by simp [execSchedDecision]
theorem execShaperRefill_keeps (t : Nat) (s : State) : KeepsAmbient s (execShaperRefill t s) := by simp [execShaperRefill]
theorem execSchQmapWrite_keeps (p c v : Nat) (s : State) : KeepsAmbient s (execSchQmapWrite p c v s) := by simp [execSchQmapWrite]
theorem execTsfPop_keeps (t v : Nat) (s : State) : KeepsAmbient s (execTsfPop t v s) := by simp [execTsfPop]

/-! ## Rewrite -/

@[simp] theorem State.abandonCluster_ambient (s : State) (t k : Nat) : (s.abandonCluster t k).ambient = s.ambient := by simp [State.abandonCluster]
@[simp] theorem State.clusterFence_ambient (s : State) (t k : Nat) : (s.clusterFence t k).ambient = s.ambient := by simp [State.clusterFence]
@[simp] theorem State.clusterReload_ambient (s : State) (t k : Nat) : (s.clusterReload t k).ambient = s.ambient := by simp [State.clusterReload]
@[simp] theorem State.reloadDone_ambient (s : State) (t k : Nat) : (s.reloadDone t k).ambient = s.ambient := by simp [State.reloadDone]

@[simp] theorem State.clusterFault_ambient (s : State) (t k kind access addr : Nat) (goes : Bool) :
    (s.clusterFault t k kind access addr goes).ambient = s.ambient := by simp [State.clusterFault]

@[simp] theorem State.routineOff_ambient (s : State) (p : Nat) : (s.routineOff p).ambient = s.ambient := by simp [State.routineOff]
@[simp] theorem State.routineLost_ambient (s : State) (p code : Nat) (r : Rewriting) : (s.routineLost p code r).ambient = s.ambient := by simp [State.routineLost]
@[simp] theorem State.routineFault_ambient (s : State) (p : Nat) (r : Rewriting) : (s.routineFault p r).ambient = s.ambient := by simp [State.routineFault]
@[simp] theorem State.rewriteRestart_ambient (s : State) (p : Nat) : (s.rewriteRestart p).ambient = s.ambient := by simp [State.rewriteRestart]
@[simp] theorem State.txStamp_ambient (s : State) (p : Nat) (c : PortCfg) : (s.txStamp p c).2.ambient = s.ambient := by simp [State.txStamp]
@[simp] theorem State.correctAt_ambient (s : State) (bs : List Byte) (a : Nat) (add : Int) : (s.correctAt bs a add).2.ambient = s.ambient := by simp [State.correctAt]
@[simp] theorem State.ptpEdit_ambient (s : State) (p : Nat) (f : Frame) (bs : List Byte) (a txQ txPtp : Nat) : (s.ptpEdit p f bs a txQ txPtp).2.ambient = s.ambient := by simp [State.ptpEdit]

@[simp] theorem State.ringInsert_ambient (s : State) (p : Nat) (f : Frame) (e : QEntry) (prm : List Byte) : (s.ringInsert p f e prm).2.ambient = s.ambient := by
  unfold State.ringInsert
  split <;> simp

@[simp] theorem State.probeStamp_ambient (s : State) (p : Nat) (f : Frame) (bs : List Byte) (txPtp : Nat) : (s.probeStamp p f bs txPtp).2.ambient = s.ambient := by simp [State.probeStamp]

@[simp] theorem State.transmit_ambient (s : State) (p : Nat) (c : PortCfg) (r : Rewriting) (bs : List Byte) (tx : Nat × Nat) (laneBad : Option Nat) :
    (s.transmit p c r bs tx laneBad).ambient = s.ambient := by
  unfold State.transmit
  split
  · simp
  · split
    · next heq => simp [snd_ambient_of_eq heq]
    · next heq => split <;> simp [snd_ambient_of_eq heq]

@[simp] theorem State.wordError_ambient (s : State) (t k addr : Nat) : (s.wordError t k addr).ambient = s.ambient := by simp [State.wordError]
@[simp] theorem State.storeError_ambient (s : State) (p : Nat) (r : Rewriting) (addr : Nat) : (s.storeError p r addr).ambient = s.ambient := by simp [State.storeError]

@[simp] theorem State.commitPoint_ambient (s : State) (p : Nat) (c : PortCfg) (r : Rewriting) (f : Frame) (x : Committed) (idx laneBad badEnd : Option Nat) :
    (s.commitPoint p c r f x idx laneBad badEnd).ambient = s.ambient := by
  unfold State.commitPoint
  extract_lets t id s₁ s₂ s₃ tx s₄ pt s₅ bs ring bs' pr s₆
  have h4 : s₄.ambient = s.ambient := by simp [s₄, tx, s₃, s₂, s₁]
  have h5 : s₅.ambient = s.ambient := by simp only [s₅, pt]; cases x.ptp <;> simp [h4]
  simp [s₆, pr, h5]

@[simp] theorem State.commit_ambient (s : State) (p : Nat) (c : PortCfg) (r : Rewriting) (f : Frame) (laneBad badEnd : Option Nat) :
    (s.commit p c r f laneBad badEnd).ambient = s.ambient := by
  unfold State.commit
  dsimp only
  (repeat' split) <;> simp

@[simp] theorem State.rewriteCommit_ambient (s : State) (p : Nat) (fault : RoutineFault) (laneBad : Option Nat) : (s.rewriteCommit p fault laneBad).ambient = s.ambient := by
  unfold State.rewriteCommit
  dsimp only
  (repeat' split) <;> simp

@[simp] theorem State.txCounts_ambient (s : State) (p : Nat) (bs : List Byte) (wire : Nat) : (s.txCounts p bs wire).ambient = s.ambient := by simp [State.txCounts]
@[simp] theorem State.tsfRecord_ambient (s : State) (p : Nat) (f : Frame) (txPtp : Nat) : (s.tsfRecord p f txPtp).ambient = s.ambient := by simp [State.tsfRecord]

@[simp] theorem State.frameTxDone_ambient (s : State) (p : Nat) (fault : DramFault) : (s.frameTxDone p fault).ambient = s.ambient := by
  unfold State.frameTxDone
  split
  · extract_lets s₁ s₂ bs s₃ back
    split
    · simp [s₂, s₁]
    · extract_lets good s₄ s₅ s₆ s₇ s₈
      have h8 : s₈.ambient = s.ambient := by simp [s₈, s₇, s₆, s₅, s₄, s₃, s₂, s₁]
      split <;> simp [h8]
  · rfl

@[simp] theorem State.portDefaultWrite_ambient (s : State) (p v : Nat) : (s.portDefaultWrite p v).ambient = s.ambient := by simp [State.portDefaultWrite]
theorem execRewriteCommit_keeps (p : Nat) (fault : RoutineFault) (laneBad : Option Nat) (s : State) : KeepsAmbient s (execRewriteCommit p fault laneBad s) := by simp [execRewriteCommit]
theorem execRewriteRestart_keeps (p : Nat) (s : State) : KeepsAmbient s (execRewriteRestart p s) := by simp [execRewriteRestart]
theorem execClusterReloadDone_keeps (t k : Nat) (s : State) : KeepsAmbient s (execClusterReloadDone t k s) := by simp [execClusterReloadDone]
theorem execRwePortDefaultWrite_keeps (p v : Nat) (s : State) : KeepsAmbient s (execRwePortDefaultWrite p v s) := by simp [execRwePortDefaultWrite]

/-! ## Tue -/

@[simp] theorem State.topFence_ambient (s : State) (v : Nat) : (s.topFence v).ambient = s.ambient := by simp [State.topFence]
@[simp] theorem State.orderStrict_ambient (s : State) (i v : Nat) : (s.orderStrict i v).ambient = s.ambient := by simp [State.orderStrict]
@[simp] theorem State.withOwed_ambient (s : State) (r n : Nat) : (s.withOwed r n).ambient = s.ambient := by simp [State.withOwed]
@[simp] theorem State.withFlight_ambient (s : State) (r : Nat) (l : List TueCmd) : (s.withFlight r l).ambient = s.ambient := by simp [State.withFlight]
@[simp] theorem State.cplWrite_ambient (s : State) (r w : Nat) : (s.cplWrite r w).ambient = s.ambient := by simp [State.cplWrite]
@[simp] theorem State.cplFlush_ambient (s : State) : s.cplFlush.ambient = s.ambient := by simp [State.cplFlush]

@[simp] theorem State.tueRecord_ambient (s : State) (r opcode tag status result cflags time body : Nat) :
    (s.tueRecord r opcode tag status result cflags time body).ambient = s.ambient := by simp [State.tueRecord]

@[simp] theorem State.tueRecorded_ambient (s : State) (r : Nat) (x : TueCmd) (y : Reply) : (s.tueRecorded r x y).ambient = s.ambient := by simp [State.tueRecorded]

@[simp] theorem State.accept1_ambient (s : State) (r : Nat) : (s.accept1 r).ambient = s.ambient := by
  unfold State.accept1
  split <;> simp

@[simp] theorem State.tueAccept_ambient (s : State) (n : Nat) : (s.tueAccept n).ambient = s.ambient := by
  induction n generalizing s with
  | zero => rfl
  | succ n ih =>
    unfold State.tueAccept
    split <;> simp [ih]

@[simp] theorem State.badOpcodes_ambient (s : State) (n : Nat) : (s.badOpcodes n).ambient = s.ambient := by
  induction n generalizing s with
  | zero => rfl
  | succ n ih =>
    unfold State.badOpcodes
    split <;> simp [ih]

@[simp] theorem State.tueTake_ambient (s : State) : s.tueTake.ambient = s.ambient := by simp [State.tueTake]
@[simp] theorem State.tueComplete_ambient (s : State) (r : Nat) (x : TueCmd) (y : Reply) : (s.tueComplete r x y).ambient = s.ambient := by simp [State.tueComplete]
@[simp] theorem State.tueTail_ambient (s : State) (r v : Nat) (cmds : List Nat) : (s.tueTail r v cmds).ambient = s.ambient :=
  (State.tueTake_ambient _).trans (s.set_ambient F.TUE_RING_TAIL_TAIL r v)

@[simp] theorem State.tueRun_ambient {f : State → Cmd → State × Reply} (h : ∀ t c, (f t c).1.ambient = t.ambient) (s : State) (r slot opcode : Nat) :
    (s.tueRun r slot opcode f).ambient = s.ambient := by
  unfold State.tueRun
  split <;> simp [h]

@[simp] theorem State.waitTimeout_ambient (s : State) (r slot : Nat) : (s.waitTimeout r slot).ambient = s.ambient := by
  unfold State.waitTimeout
  split <;> simp

@[simp] theorem State.learnServe_ambient (s : State) (pinned : Nat → Nat → Bool) : (s.learnServe pinned).ambient = s.ambient := by
  unfold State.learnServe
  split
  · rfl
  · split
    · rfl
    · dsimp only
      (repeat' split) <;> simp
      all_goals next heq => simp [fst_ambient_of_eq heq]

@[simp] theorem State.nothing_ambient (s : State) (c : Cmd) : (s.nothing c).1.ambient = s.ambient := by simp [State.nothing]
@[simp] theorem State.epochStart_ambient (s : State) (r : Nat) (c : Cmd) : (s.epochStart r c).1.ambient = s.ambient := by simp [State.epochStart]

@[simp] theorem State.epochDrained_ambient (s : State) : s.epochDrained.ambient = s.ambient := by
  unfold State.epochDrained
  split <;> simp

@[simp] theorem State.epochTimeout_ambient (s : State) (e : Nat) : (s.epochTimeout e).ambient = s.ambient := by
  unfold State.epochTimeout
  split <;> simp

@[simp] theorem State.cutOpen_ambient (s : State) (c : Cmd) : (s.cutOpen c).1.ambient = s.ambient := by simp [State.cutOpen]

@[simp] theorem State.cutAdd_ambient (s : State) (c : Cmd) : (s.cutAdd c).1.ambient = s.ambient := by
  unfold State.cutAdd
  dsimp only
  split
  · rfl
  · split
    · rfl
    · split
      · rfl
      · split
        · rfl
        · split
          · next heq => simp [fst_ambient_of_eq heq]
          · next heq => simp [fst_ambient_of_eq heq]

@[simp] theorem State.cutArm_ambient (s : State) (r : Nat) (c : Cmd) : (s.cutArm r c).1.ambient = s.ambient := by
  unfold State.cutArm
  dsimp only
  split <;> simp

@[simp] theorem State.cutCancel_ambient (s : State) (c : Cmd) : (s.cutCancel c).1.ambient = s.ambient := by
  unfold State.cutCancel
  dsimp only
  (repeat' split) <;> simp

@[simp] theorem State.cutGap_ambient (s : State) (n : Nat) : (s.cutGap n).ambient = s.ambient := by
  unfold State.cutGap
  split <;> simp

@[simp] theorem State.cutWait_ambient (s : State) (n : Nat) : (s.cutWait n).ambient = s.ambient := by
  unfold State.cutWait
  split <;> simp

@[simp] theorem State.cutApply_ambient (s : State) (n : Nat) : (s.cutApply n).ambient = s.ambient := by
  unfold State.cutApply
  split <;> simp

@[simp] theorem State.cutDone_ambient (s : State) (n : Nat) : (s.cutDone n).ambient = s.ambient := by
  unfold State.cutDone
  split <;> simp

@[simp] theorem State.cancelRun_ambient (s : State) (r slot : Nat) : (s.cancelRun r slot).ambient = s.ambient := by
  unfold State.cancelRun
  split <;> simp

theorem execLearnServe_keeps (s : State) : KeepsAmbient s (execLearnServe s) := by simp [execLearnServe]
theorem execOrderStrictWrite_keeps (i v : Nat) (s : State) : KeepsAmbient s (execOrderStrictWrite i v s) := by simp [execOrderStrictWrite]
theorem execTueRingTailWrite_keeps (r v : Nat) (cmds : List Nat) (s : State) : KeepsAmbient s (execTueRingTailWrite r v cmds s) := by simp [execTueRingTailWrite]
theorem execNop_keeps (r slot : Nat) (s : State) : KeepsAmbient s (execNop r slot s) := by simp [execNop]
theorem execFence_keeps (r slot : Nat) (s : State) : KeepsAmbient s (execFence r slot s) := by simp [execFence]
theorem execEpoch_keeps (r slot : Nat) (s : State) : KeepsAmbient s (execEpoch r slot s) := by simp [execEpoch]
theorem execEmInsert_keeps (r slot : Nat) (s : State) : KeepsAmbient s (execEmInsert r slot s) := by simp [execEmInsert]
theorem execEmUpdate_keeps (r slot : Nat) (s : State) : KeepsAmbient s (execEmUpdate r slot s) := by simp [execEmUpdate]
theorem execEmDelete_keeps (r slot : Nat) (s : State) : KeepsAmbient s (execEmDelete r slot s) := by simp [execEmDelete]
theorem execEmRead_keeps (r slot : Nat) (s : State) : KeepsAmbient s (execEmRead r slot s) := by simp [execEmRead]
theorem execTcInsert_keeps (r slot : Nat) (s : State) : KeepsAmbient s (execTcInsert r slot s) := by simp [execTcInsert]
theorem execTcWriteRow_keeps (r slot : Nat) (s : State) : KeepsAmbient s (execTcWriteRow r slot s) := by simp [execTcWriteRow]
theorem execTcUpdateAction_keeps (r slot : Nat) (s : State) : KeepsAmbient s (execTcUpdateAction r slot s) := by simp [execTcUpdateAction]
theorem execTcDelete_keeps (r slot : Nat) (s : State) : KeepsAmbient s (execTcDelete r slot s) := by simp [execTcDelete]
theorem execTcReadRow_keeps (r slot : Nat) (s : State) : KeepsAmbient s (execTcReadRow r slot s) := by simp [execTcReadRow]
theorem execObjWrite_keeps (r slot : Nat) (s : State) : KeepsAmbient s (execObjWrite r slot s) := by simp [execObjWrite]
theorem execObjRead_keeps (r slot : Nat) (s : State) : KeepsAmbient s (execObjRead r slot s) := by simp [execObjRead]
theorem execCutOpen_keeps (r slot : Nat) (s : State) : KeepsAmbient s (execCutOpen r slot s) := by simp [execCutOpen]
theorem execCutAdd_keeps (r slot : Nat) (s : State) : KeepsAmbient s (execCutAdd r slot s) := by simp [execCutAdd]
theorem execCutArm_keeps (r slot : Nat) (s : State) : KeepsAmbient s (execCutArm r slot s) := by simp [execCutArm]
theorem execCutCancel_keeps (r slot : Nat) (s : State) : KeepsAmbient s (execCutCancel r slot s) := by simp [execCutCancel]
theorem execTueWaitTimeout_keeps (r slot : Nat) (s : State) : KeepsAmbient s (execTueWaitTimeout r slot s) := by simp [execTueWaitTimeout]
theorem execEpochDrained_keeps (s : State) : KeepsAmbient s (execEpochDrained s) := by simp [execEpochDrained]
theorem execEpochTimeout_keeps (e : Nat) (s : State) : KeepsAmbient s (execEpochTimeout e s) := by simp [execEpochTimeout]
theorem execCutGapFound_keeps (n : Nat) (s : State) : KeepsAmbient s (execCutGapFound n s) := by simp [execCutGapFound]
theorem execCutWaitExpiry_keeps (n : Nat) (s : State) : KeepsAmbient s (execCutWaitExpiry n s) := by simp [execCutWaitExpiry]
theorem execCutApply_keeps (n : Nat) (s : State) : KeepsAmbient s (execCutApply n s) := by simp [execCutApply]
theorem execCutDone_keeps (n : Nat) (s : State) : KeepsAmbient s (execCutDone n s) := by simp [execCutDone]

/-! ## Dram -/

@[simp] theorem State.evD_ambient (s : State) (f : Field) (d : Nat) : (s.evD f d).ambient = s.ambient := by simp [State.evD]
@[simp] theorem State.exportStop_ambient (s : State) (d : Nat) : (s.exportStop d).ambient = s.ambient := by simp [State.exportStop]

@[simp] theorem State.drcOffline_ambient (s : State) (d : Nat) : (s.drcOffline d).ambient = s.ambient := by
  unfold State.drcOffline
  dsimp only
  split <;> simp

@[simp] theorem State.drcFreeze_ambient (s : State) (d cause pc cmd addr : Nat) : (s.drcFreeze d cause pc cmd addr).ambient = s.ambient := by simp [State.drcFreeze]

@[simp] theorem State.moveOnDie_ambient (s : State) (gq i d : Nat) (e : QEntry) (b : Buf) : (s.moveOnDie gq i d e b).ambient = s.ambient := by
  unfold State.moveOnDie
  split
  · rfl
  · next heq => simp [snd_ambient_of_eq heq]

@[simp] theorem State.correctedBurst_ambient (s : State) (d : Nat) : (s.correctedBurst d).ambient = s.ambient := by simp [State.correctedBurst]

@[simp] theorem State.correctedRead_ambient (s : State) (d n : Nat) : (s.correctedRead d n).ambient = s.ambient := by
  induction n generalizing s with
  | zero => rfl
  | succ n ih => simp [State.correctedRead, ih]

@[simp] theorem State.readDeep_ambient (s : State) (gq i d : Nat) (e : QEntry) (fault : DramFault) : (s.readDeep gq i d e fault).ambient = s.ambient := by
  unfold State.readDeep
  split <;> simp

@[simp] theorem State.readWaits_ambient (s : State) (d : Nat) (w : DramWait) (l : List (Nat × Nat)) : (s.readWaits d w l).ambient = s.ambient := by simp [State.readWaits]

@[simp] theorem State.deepReadback_ambient (s : State) (gq : Nat) (fault : DramFault) : (s.deepReadback gq fault).ambient = s.ambient := by
  unfold State.deepReadback
  split <;> simp

@[simp] theorem State.writesMet_ambient (s t : State) (d : Nat) (fault : DramFault) : (s.writesMet t d fault).ambient = t.ambient := by
  unfold State.writesMet
  split <;> simp

@[simp] theorem State.stampToRing_ambient (s : State) (q : Nat) (r : Nat × DramFault) : (s.stampToRing q r).ambient = s.ambient := by
  unfold State.stampToRing
  split <;> simp

@[simp] theorem State.dramRefresh_ambient (s : State) (d pc : Nat) (fault : DramFault) : (s.dramRefresh d pc fault).ambient = s.ambient := by
  unfold State.dramRefresh
  dsimp only
  (repeat' split) <;> simp

@[simp] theorem State.retrainDue_ambient (s : State) (d : Nat) : (s.retrainDue d).ambient = s.ambient := by simp [State.retrainDue]

@[simp] theorem State.stackTemp_ambient (s : State) (d : Nat) (c : Int) : (s.stackTemp d c).ambient = s.ambient := by
  unfold State.stackTemp
  dsimp only
  split <;> simp

@[simp] theorem State.dramRetrain_ambient (s : State) (tag d : Nat) : (s.dramRetrain tag d).ambient = s.ambient := by simp [State.dramRetrain]

@[simp] theorem State.retrainDrained_ambient (s : State) (d : Nat) : (s.retrainDrained d).ambient = s.ambient := by
  unfold State.retrainDrained
  split <;> simp

@[simp] theorem State.retrainDone_ambient (s : State) (d : Nat) : (s.retrainDone d).ambient = s.ambient := by
  unfold State.retrainDone
  split <;> simp

@[simp] theorem State.pcPowerDown_ambient (s : State) (d pc : Nat) : (s.pcPowerDown d pc).ambient = s.ambient := by simp [State.pcPowerDown]
@[simp] theorem State.selfRefresh_ambient (s : State) (d : Nat) : (s.selfRefresh d).ambient = s.ambient := by simp [State.selfRefresh]
@[simp] theorem State.selfRefreshExit_ambient (s : State) (d : Nat) : (s.selfRefreshExit d).ambient = s.ambient := by simp [State.selfRefreshExit]

@[simp] theorem State.ringEnable_ambient (s : State) (q : Nat) : (s.ringEnable q).ambient = s.ambient := by
  unfold State.ringEnable
  split <;> simp

@[simp] theorem State.exportWrite_ambient (s : State) (d v : Nat) : (s.exportWrite d v).ambient = s.ambient := by simp [State.exportWrite]
@[simp] theorem State.exportOut_ambient (s : State) (d addr first count : Nat) : (s.exportOut d addr first count).ambient = s.ambient := by simp [State.exportOut]

@[simp] theorem State.exportDone_ambient (s : State) (d : Nat) (fault : DramFault) : (s.exportDone d fault).ambient = s.ambient := by
  unfold State.exportDone
  dsimp only
  (repeat' split) <;> simp

theorem execDeepReadback_keeps (gq : Nat) (fault : DramFault) (s : State) : KeepsAmbient s (execDeepReadback gq fault s) := by simp [execDeepReadback]
theorem execDramRefresh_keeps (d pc : Nat) (fault : DramFault) (s : State) : KeepsAmbient s (execDramRefresh d pc fault s) := by simp [execDramRefresh]
theorem execStackTempReport_keeps (d : Nat) (c : Int) (s : State) : KeepsAmbient s (execStackTempReport d c s) := by simp [execStackTempReport]
theorem execDramRetrain_keeps (tag d timeoutMs : Nat) (s : State) : KeepsAmbient s (execDramRetrain tag d timeoutMs s) := by simp [execDramRetrain]
theorem execDramRetrainDrained_keeps (d : Nat) (s : State) : KeepsAmbient s (execDramRetrainDrained d s) := by simp [execDramRetrainDrained]
theorem execDramRetrainDone_keeps (d : Nat) (s : State) : KeepsAmbient s (execDramRetrainDone d s) := by simp [execDramRetrainDone]
theorem execPcPowerDown_keeps (d pc : Nat) (s : State) : KeepsAmbient s (execPcPowerDown d pc s) := by simp [execPcPowerDown]
theorem execSelfRefreshEntry_keeps (d : Nat) (s : State) : KeepsAmbient s (execSelfRefreshEntry d s) := by simp [execSelfRefreshEntry]
theorem execSelfRefreshExited_keeps (d : Nat) (s : State) : KeepsAmbient s (execSelfRefreshExited d s) := by simp [execSelfRefreshExited]
theorem execTrainPeriodExpiry_keeps (d : Nat) (s : State) : KeepsAmbient s (execTrainPeriodExpiry d s) := by simp [execTrainPeriodExpiry]
theorem execTelemExport_keeps (d v : Nat) (s : State) : KeepsAmbient s (execTelemExport d v s) := by simp [execTelemExport]
theorem execTelemExportDone_keeps (x : ExportEnd) (s : State) : KeepsAmbient s (execTelemExportDone x s) := by simp [execTelemExportDone]
theorem execEgressArrival_keeps (x : QuadWrite) (s : State) : KeepsAmbient s (execEgressArrival x s) := by simp [execEgressArrival]
theorem execQueueSample_keeps (x : QuadWrite) (s : State) : KeepsAmbient s (execQueueSample x s) := by simp [execQueueSample]

/-! ## Optics -/

@[simp] theorem State.cswMove_ambient (s : State) (g st : Nat) : (s.cswMove g st).ambient = s.ambient := by simp [State.cswMove]
@[simp] theorem State.cswAnswer_ambient (s : State) (g result : Nat) : (s.cswAnswer g result).ambient = s.ambient := by simp [State.cswAnswer]
@[simp] theorem State.groupClose_ambient (s : State) (g cause : Nat) : (s.groupClose g cause).ambient = s.ambient := by simp [State.groupClose]
@[simp] theorem State.bypassClosed_ambient (s : State) (g : Nat) : (s.bypassClosed g).ambient = s.ambient := by simp [State.bypassClosed]
@[simp] theorem State.bypassOpened_ambient (s : State) (g : Nat) : (s.bypassOpened g).ambient = s.ambient := by simp [State.bypassOpened]
@[simp] theorem State.causewayOpen_ambient (s : State) (tag g : Nat) : (s.causewayOpen tag g).ambient = s.ambient := by simp [State.causewayOpen]
@[simp] theorem State.causewayClose_ambient (s : State) (tag g : Nat) : (s.causewayClose tag g).ambient = s.ambient := by simp [State.causewayClose]
@[simp] theorem State.elementFault_ambient (s : State) (g : Nat) : (s.elementFault g).ambient = s.ambient := by simp [State.elementFault]
@[simp] theorem State.joined_ambient (s : State) (g : Nat) (on : Bool) : (s.joined g on).ambient = s.ambient := by simp [State.joined]
@[simp] theorem State.ringJoin_ambient (s : State) (tag g : Nat) : (s.ringJoin tag g).ambient = s.ambient := by simp [State.ringJoin]
@[simp] theorem State.ringLeave_ambient (s : State) (tag g : Nat) : (s.ringLeave tag g).ambient = s.ambient := by simp [State.ringLeave]
@[simp] theorem State.recompute_ambient (s : State) : s.recompute.ambient = s.ambient := by simp [State.recompute]
@[simp] theorem State.ringLaneFenced_ambient (s : State) (p : Nat) : (s.ringLaneFenced p).ambient = s.ambient := by simp [State.ringLaneFenced]

@[simp] theorem State.opticFence_ambient (s : State) (t i : Nat) : (s.opticFence t i).ambient = s.ambient := by
  unfold State.opticFence
  dsimp only
  (repeat' split) <;> simp

@[simp] theorem State.elytraFence_ambient (s : State) (t i : Nat) : (s.elytraFence t i).ambient = s.ambient := by
  unfold State.elytraFence
  split <;> simp

@[simp] theorem State.opticsReturn_ambient (s : State) (t : Nat) : (s.opticsReturn t).ambient = s.ambient := by simp [State.opticsReturn]
@[simp] theorem State.laserPower_ambient (s : State) (e f : Nat) (x : Int) : (s.laserPower e f x).ambient = s.ambient := by simp [State.laserPower]
@[simp] theorem State.laserLit_ambient (s : State) (e f : Nat) : (s.laserLit e f).ambient = s.ambient := by simp [State.laserLit]
@[simp] theorem State.laserLost_ambient (s : State) (e f : Nat) : (s.laserLost e f).ambient = s.ambient := by simp [State.laserLost]
@[simp] theorem State.trackLimit_ambient (s : State) (e lane : Nat) : (s.trackLimit e lane).ambient = s.ambient := by simp [State.trackLimit]
@[simp] theorem State.optCalibrate_ambient (s : State) (tag e : Nat) : (s.optCalibrate tag e).ambient = s.ambient := by simp [State.optCalibrate]
@[simp] theorem State.calibrated_ambient (s : State) (e : Nat) (badLanes : List Nat) : (s.calibrated e badLanes).ambient = s.ambient := by simp [State.calibrated]

@[simp] theorem State.optCalibrateDone_ambient (s : State) (e : Nat) (badLanes : List Nat) : (s.optCalibrateDone e badLanes).ambient = s.ambient := by
  unfold State.optCalibrateDone
  split <;> simp

theorem execLaserLit_keeps (e f : Nat) (s : State) : KeepsAmbient s (execLaserLit e f s) := by simp [execLaserLit]
theorem execLaserLost_keeps (e f : Nat) (s : State) : KeepsAmbient s (execLaserLost e f s) := by simp [execLaserLost]
theorem execTrackLimit_keeps (x : EngineLane) (s : State) : KeepsAmbient s (execTrackLimit x s) := by simp [execTrackLimit]
theorem execOptCalibrate_keeps (tag e : Nat) (s : State) : KeepsAmbient s (execOptCalibrate tag e s) := by simp [execOptCalibrate]
theorem execOptCalibrateDone_keeps (e : Nat) (badLanes : List Nat) (s : State) : KeepsAmbient s (execOptCalibrateDone e badLanes s) := by simp [execOptCalibrateDone]
theorem execCausewayOpen_keeps (tag g : Nat) (s : State) : KeepsAmbient s (execCausewayOpen tag g s) := by simp [execCausewayOpen]
theorem execCausewayClose_keeps (tag g : Nat) (s : State) : KeepsAmbient s (execCausewayClose tag g s) := by simp [execCausewayClose]
theorem execBypassOpened_keeps (g : Nat) (s : State) : KeepsAmbient s (execBypassOpened g s) := by simp [execBypassOpened]
theorem execBypassClosed_keeps (g : Nat) (s : State) : KeepsAmbient s (execBypassClosed g s) := by simp [execBypassClosed]
theorem execElementFault_keeps (g : Nat) (s : State) : KeepsAmbient s (execElementFault g s) := by simp [execElementFault]
theorem execRingJoin_keeps (tag g : Nat) (s : State) : KeepsAmbient s (execRingJoin tag g s) := by simp [execRingJoin]
theorem execRingLeave_keeps (tag g : Nat) (s : State) : KeepsAmbient s (execRingLeave tag g s) := by simp [execRingLeave]

/-! ## Handover -/

@[simp] theorem State.farmReset_ambient (s : State) (t : Nat) : (s.farmReset t).ambient = s.ambient := by simp [State.farmReset]

@[simp] theorem State.takeLayers_ambient (s : State) (t : Nat) : (s.takeLayers t).ambient = s.ambient := by
  unfold State.takeLayers
  split <;> simp


/-! ## Swap -/

@[simp] theorem State.swapFault_ambient (s : State) (new : Layers) : (s.swapFault new).ambient = s.ambient := by simp [State.swapFault]
@[simp] theorem State.swapPins_ambient (s : State) (new : Layers) : (s.swapPins new).ambient = s.ambient := by simp [State.swapPins]
@[simp] theorem State.sendLayers_ambient (s : State) (l : Layers) : (s.sendLayers l).ambient = s.ambient := by simp [State.sendLayers]
@[simp] theorem State.swapParse_ambient (s : State) (new : Layers) : (s.swapParse new).ambient = s.ambient := by simp [State.swapParse]
@[simp] theorem State.swapSched_ambient (s : State) (new : Layers) : (s.swapSched new).ambient = s.ambient := by simp [State.swapSched]
@[simp] theorem State.takeBuffer_ambient (s : State) (new : BufferLayer) (q : Nat) : (s.takeBuffer new q).ambient = s.ambient := by simp [State.takeBuffer]
@[simp] theorem State.takeTelem_ambient (s : State) (new : BufferLayer) : (s.takeTelem new).ambient = s.ambient := by simp [State.takeTelem]
@[simp] theorem State.takeSearch_ambient (s : State) (new : SearchLayer) (q : Nat) : (s.takeSearch new q).ambient = s.ambient := by simp [State.takeSearch]
@[simp] theorem State.takeQuad_ambient (s : State) (new : Layers) (type q : Nat) : (s.takeQuad new type q).ambient = s.ambient := by simp [State.takeQuad]
@[simp] theorem State.quadsDone_ambient (s : State) (new : Layers) (type : Nat) : (s.quadsDone new type).ambient = s.ambient := by simp [State.quadsDone]
@[simp] theorem State.swapFinish_ambient (s : State) (j : SwapJob) : (s.swapFinish j).ambient = s.ambient := by simp [State.swapFinish]
@[simp] theorem State.quiesce_ambient (s : State) (q : Nat) : (s.quiesce q).ambient = s.ambient := by simp [State.quiesce]

@[simp] theorem State.swapGo_ambient (s : State) (j : SwapJob) (l : List Nat) : (s.swapGo j l).ambient = s.ambient := by
  induction l generalizing s with
  | nil => simp [State.swapGo]
  | cons type rest ih =>
    unfold State.swapGo
    dsimp only
    (repeat' split) <;> simp [ih]

@[simp] theorem State.swapAdvance_ambient (s : State) : s.swapAdvance.ambient = s.ambient := by
  unfold State.swapAdvance
  split
  · rfl
  · split <;> simp

@[simp] theorem State.swapTileSwitch_ambient (s : State) (t : Nat) : (s.swapTileSwitch t).ambient = s.ambient := by simp [State.swapTileSwitch]

@[simp] theorem State.quiesceDrained_ambient (s : State) : s.quiesceDrained.ambient = s.ambient := by
  unfold State.quiesceDrained
  dsimp only
  (repeat' split) <;> simp

@[simp] theorem State.quiesceTimeout_ambient (s : State) : s.quiesceTimeout.ambient = s.ambient := by
  unfold State.quiesceTimeout
  (repeat' split) <;> simp

theorem execQuiesceDrained_keeps (s : State) : KeepsAmbient s (execQuiesceDrained s) := by simp [execQuiesceDrained]
theorem execQuiesceTimeout_keeps (s : State) : KeepsAmbient s (execQuiesceTimeout s) := by simp [execQuiesceTimeout]
theorem execFrameTxDone_keeps (x : Departure) (s : State) : KeepsAmbient s (execFrameTxDone x s) := by simp [execFrameTxDone]
theorem execSwapTileSwitch_keeps (t : Nat) (s : State) : KeepsAmbient s (execSwapTileSwitch t s) := by simp [execSwapTileSwitch]

/-! ## Faults -/

@[simp] theorem State.tileFence_ambient (s : State) (t : Nat) : (s.tileFence t).ambient = s.ambient := by simp [State.tileFence]
@[simp] theorem State.fenceBegins_ambient (s : State) (src idx : Nat) : (s.fenceBegins src idx).ambient = s.ambient := by simp [State.fenceBegins]
@[simp] theorem State.fenceUnit_ambient (s : State) (src idx : Nat) : (s.fenceUnit src idx).ambient = s.ambient := by simp [State.fenceUnit]
@[simp] theorem State.fenceEffect_ambient (s : State) (src idx : Nat) : (s.fenceEffect src idx).ambient = s.ambient := by simp [State.fenceEffect]
@[simp] theorem State.fencedNow_ambient (s : State) (src idx : Nat) : (s.fencedNow src idx).ambient = s.ambient := by simp [State.fencedNow]
@[simp] theorem State.fenceComplete_ambient (s : State) (src idx : Nat) : (s.fenceComplete src idx).ambient = s.ambient := by simp [State.fenceComplete]
@[simp] theorem State.policyActs_ambient (s : State) (src kind address : Nat) : (s.policyActs src kind address).ambient = s.ambient := by simp [State.policyActs]

@[simp] theorem State.faultReport_ambient (s : State) (src kind address master access : Nat) :
    (s.faultReport src kind address master access).ambient = s.ambient := by simp [State.faultReport]

@[simp] theorem State.fenceCmd_ambient (s : State) (v : Nat) : (s.fenceCmd v).ambient = s.ambient := by simp [State.fenceCmd]
@[simp] theorem State.msgPop_ambient (s : State) (v : Nat) : (s.msgPop v).ambient = s.ambient := by simp [State.msgPop]
@[simp] theorem State.nvmCounted_ambient (s : State) (r : Nat) : (s.nvmCounted r).ambient = s.ambient := by simp [State.nvmCounted]
@[simp] theorem State.logWrite_ambient (s : State) (d : LogDue) : (s.logWrite d).ambient = s.ambient := by simp [State.logWrite]

@[simp] theorem State.faultLogWrite_ambient (s : State) : s.faultLogWrite.ambient = s.ambient := by
  unfold State.faultLogWrite
  split <;> simp

@[simp] theorem State.logFlush_ambient (s : State) (tag : Nat) : (s.logFlush tag).ambient = s.ambient := by simp [State.logFlush]
@[simp] theorem State.logErase_ambient (s : State) (tag : Nat) : (s.logErase tag).ambient = s.ambient := by simp [State.logErase]

theorem execFaultReport_keeps (source kind address master accessType : Nat) (s : State) :
    KeepsAmbient s (execFaultReport source kind address master accessType s) := by simp [execFaultReport]

theorem execFenceComplete_keeps (source index : Nat) (s : State) : KeepsAmbient s (execFenceComplete source index s) := by simp [execFenceComplete]
theorem execFltFenceCmd_keeps (v : Nat) (s : State) : KeepsAmbient s (execFltFenceCmd v s) := by simp [execFltFenceCmd]
theorem execFaultLogWrite_keeps (s : State) : KeepsAmbient s (execFaultLogWrite s) := by simp [execFaultLogWrite]
theorem execFaultLogFlush_keeps (tag : Nat) (s : State) : KeepsAmbient s (execFaultLogFlush tag s) := by simp [execFaultLogFlush]
theorem execFaultLogErase_keeps (tag : Nat) (s : State) : KeepsAmbient s (execFaultLogErase tag s) := by simp [execFaultLogErase]
theorem execFltMsgPop_keeps (v : Nat) (s : State) : KeepsAmbient s (execFltMsgPop v s) := by simp [execFltMsgPop]

/-! ## Time -/

@[simp] theorem State.ppsTurn_ambient (s : State) (back : Bool) : (s.ppsTurn back).ambient = s.ambient := by
  unfold State.ppsTurn
  split <;> simp

@[simp] theorem State.timeBeacon_ambient (s : State) : s.timeBeacon.ambient = s.ambient := by simp [State.timeBeacon]
@[simp] theorem State.timRateWrite_ambient (s : State) (value : Nat) : (s.timRateWrite value).ambient = s.ambient := by simp [State.timRateWrite]
@[simp] theorem State.timStep_ambient (s : State) (op : Nat) : (s.timStep op).ambient = s.ambient := by simp [State.timStep]
@[simp] theorem State.timNowRead_ambient (s : State) : s.timNowRead.ambient = s.ambient := by simp [State.timNowRead]
@[simp] theorem State.pinCapture_ambient (s : State) (pin : CapPin) (rising : Bool) : (s.pinCapture pin rising).ambient = s.ambient := by simp [State.pinCapture]
@[simp] theorem State.ppsPulse_ambient (s : State) (time width : Nat) : (s.ppsPulse time width).ambient = s.ambient := by simp [State.ppsPulse]

@[simp] theorem State.ppsOutEdge_ambient (s : State) : s.ppsOutEdge.ambient = s.ambient := by
  refine State.when_ambient ?_ _
  split
  · simp
  · dsimp only
    split <;> simp

@[simp] theorem State.timPpsWrite_ambient (s : State) (widthReg : Bool) (value : Nat) : (s.timPpsWrite widthReg value).ambient = s.ambient := by simp [State.timPpsWrite]

@[simp] theorem State.todOutSend_ambient (s : State) : s.todOutSend.ambient = s.ambient := by
  unfold State.todOutSend
  split <;> simp

@[simp] theorem State.todInRx_ambient (s : State) (m : List Byte) : (s.todInRx m).ambient = s.ambient := by simp [State.todInRx]
theorem execTimRateWrite_keeps (value : Nat) (s : State) : KeepsAmbient s (execTimRateWrite value s) := by simp [execTimRateWrite]
theorem execTimStepForward_keeps (s : State) : KeepsAmbient s (execTimStepForward s) := by simp [execTimStepForward]
theorem execTimStepBack_keeps (s : State) : KeepsAmbient s (execTimStepBack s) := by simp [execTimStepBack]
theorem execTimStepSet_keeps (s : State) : KeepsAmbient s (execTimStepSet s) := by simp [execTimStepSet]
theorem execTimNowRead_keeps (s : State) : KeepsAmbient s (execTimNowRead s) := by simp [execTimNowRead]
theorem execPinCapture_keeps (pin : CapPin) (rising : Bool) (s : State) : KeepsAmbient s (execPinCapture pin rising s) := by simp [execPinCapture]
theorem execPpsOutEdge_keeps (s : State) : KeepsAmbient s (execPpsOutEdge s) := by simp [execPpsOutEdge]
theorem execTimPpsOutWrite_keeps (widthReg : Bool) (value : Nat) (s : State) : KeepsAmbient s (execTimPpsOutWrite widthReg value s) := by simp [execTimPpsOutWrite]
theorem execTodOutSend_keeps (s : State) : KeepsAmbient s (execTodOutSend s) := by simp [execTodOutSend]
theorem execTodInRx_keeps (message : List Byte) (s : State) : KeepsAmbient s (execTodInRx message s) := by simp [execTodInRx]

/-! ## Tick -/

@[simp] theorem State.gatesDue_ambient (s : State) : s.gatesDue.ambient = s.ambient := by simp [State.gatesDue]
@[simp] theorem State.beacon_ambient (s : State) : s.beacon.ambient = s.ambient := by simp [State.beacon]
theorem execTimeBeacon_keeps (s : State) : KeepsAmbient s (execTimeBeacon s) := by simp [execTimeBeacon]

/-! ## RegAccess -/

@[simp] theorem State.showCentral_ambient (s : State) (b i : Nat) : (s.showCentral b i).ambient = s.ambient := by
  unfold State.showCentral
  extract_lets cap sel word w n half port s₁ s₂
  repeat' with_reducible apply State.ite_keeps
  all_goals try simp [s₁, s₂]
  · split <;> simp
  · split <;> simp

@[simp] theorem State.showLocal_ambient (s : State) (b i : Nat) : (s.showLocal b i).ambient = s.ambient := by
  unfold State.showLocal
  extract_lets s₁ c
  repeat' with_reducible apply State.ite_keeps
  all_goals try simp [s₁]
  split <;> simp

@[simp] theorem State.readClear_ambient (s : State) (r : Reg) (i : Nat) : (s.readClear r i).ambient = s.ambient := by simp [State.readClear]
@[simp] theorem State.returns_ambient (s : State) (v : Option Nat) : (s.returns v).ambient = s.ambient := by simp [State.returns]

@[simp] theorem State.regRead_ambient (s : State) (off bytes : Nat) : (s.regRead off bytes).ambient = s.ambient := by
  unfold State.regRead
  dsimp only
  (repeat' split) <;> simp

@[simp] theorem State.fieldWrite_ambient (s : State) (f : Field) (i v : Nat) : (s.fieldWrite f i v).ambient = s.ambient := by
  unfold State.fieldWrite
  split <;> simp

@[simp] theorem State.plainWrite_ambient (s : State) (r : Reg) (i v : Nat) : (s.plainWrite r i v).ambient = s.ambient := by simp [State.plainWrite]
@[simp] theorem State.pickyWrite_ambient (s : State) (r : Reg) (i v : Nat) (bad : Field → Nat → Bool) : (s.pickyWrite r i v bad).ambient = s.ambient := by simp [State.pickyWrite]
@[simp] theorem State.shaperWrite_ambient (s : State) (r : Reg) (i p k v : Nat) : (s.shaperWrite r i p k v).ambient = s.ambient := by simp [State.shaperWrite]

@[simp] theorem State.gateAdmin_ambient {f : State → State} (h : ∀ t, (f t).ambient = t.ambient) (s : State) (g : GateRegs) :
    (s.gateAdmin g f).ambient = s.ambient := by simp [State.gateAdmin, h]

@[simp] theorem State.gateCtrlWrite_ambient (s : State) (r : Reg) (g : GateRegs) (v : Nat) : (s.gateCtrlWrite r g v).ambient = s.ambient := by simp [State.gateCtrlWrite]
@[simp] theorem State.prtCfgWrite_ambient (s : State) (p v : Nat) : (s.prtCfgWrite p v).ambient = s.ambient := by simp [State.prtCfgWrite]
@[simp] theorem State.probeWrite_ambient (s : State) (g v : Nat) : (s.probeWrite g v).ambient = s.ambient := by simp [State.probeWrite]

@[simp] theorem State.capWrite_ambient (s : State) (v : Nat) : (s.capWrite v).ambient = s.ambient := by
  unfold State.capWrite
  dsimp only
  split <;> simp

@[simp] theorem State.hostCtrlWrite_ambient (s : State) (i v : Nat) : (s.hostCtrlWrite i v).ambient = s.ambient := by simp [State.hostCtrlWrite]
@[simp] theorem State.centralWrite_ambient (s : State) (r : Reg) (i v master : Nat) : (s.centralWrite r i v master).ambient = s.ambient := by simp [State.centralWrite]
@[simp] theorem State.slotRegWrite_ambient (s : State) (r : Reg) (i v : Nat) : (s.slotRegWrite r i v).ambient = s.ambient := by simp [State.slotRegWrite]

theorem State.gateReadOnly_ambient (s : State) (r : Reg) (i master : Nat) : ∀ t ∈ s.gateReadOnly r i master, t.ambient = s.ambient := by
  unfold State.gateReadOnly
  repeat' with_reducible apply ite_mem_keeps
  all_goals simp

@[simp] theorem State.localWrite_ambient (s : State) (r : Reg) (i v master : Nat) : (s.localWrite r i v master).ambient = s.ambient := by
  unfold State.localWrite
  extract_lets b s₁ x s₂
  repeat' with_reducible apply State.ite_keeps
  all_goals try simp [s₁, s₂]
  · split <;> simp
  · exact getD_keeps (State.gateReadOnly_ambient _ _ _ _) (by simp)

theorem State.rowWrite_ambient (s : State) (r : Reg) (i v : Nat) : ∀ t ∈ s.rowWrite r i v, t.ambient = s.ambient := by
  unfold State.rowWrite
  repeat' with_reducible apply ite_mem_keeps
  all_goals simp

@[simp] theorem State.instanceWrite_ambient (s : State) (r : Reg) (i v master : Nat) : (s.instanceWrite r i v master).ambient = s.ambient := by
  unfold State.instanceWrite
  dsimp only
  split
  · rfl
  · split
    · next heq => exact State.rowWrite_ambient _ _ _ _ _ heq
    · split <;> simp


/-! ## Nvm -/

@[simp] theorem State.nvmEnd_ambient (s : State) (op tag result : Nat) : (s.nvmEnd op tag result).ambient = s.ambient := by simp [State.nvmEnd]
@[simp] theorem State.nvmWrite_ambient (s : State) (lines : List (Nat × List Byte)) : (s.nvmWrite lines).ambient = s.ambient := by simp [State.nvmWrite]

@[simp] theorem State.nvmCut_ambient (s : State) (n : Nat) : (s.nvmCut n).ambient = s.ambient := by
  unfold State.nvmCut
  split <;> simp

@[simp] theorem State.nvmMet_ambient (s : State) (r : NvmReads) : (s.nvmMet r).ambient = s.ambient := by simp [State.nvmMet]
@[simp] theorem State.nvmSeen_ambient (s : State) (r : NvmReads) : (s.nvmSeen r).ambient = s.ambient := by simp [State.nvmSeen]
@[simp] theorem State.nvmBack_ambient (s before : State) : (s.nvmBack before).ambient = s.ambient := by simp [State.nvmBack]
@[simp] theorem State.nvmToHost_ambient (s : State) (region offset length hostAddr : Nat) : (s.nvmToHost region offset length hostAddr).ambient = s.ambient := by simp [State.nvmToHost]

@[simp] theorem State.nvmHostStop_ambient (s : State) (n : Nat) : (s.nvmHostStop n).ambient = s.ambient := by
  unfold State.nvmHostStop
  split <;> simp

@[simp] theorem State.overlayOne_ambient (s : State) (e : Nat × Nat) : (s.overlayOne e).1.ambient = s.ambient := by
  unfold State.overlayOne
  split <;> simp

@[simp] theorem State.overlay_ambient (s : State) (l : List (Nat × Nat)) : (s.overlay l).ambient = s.ambient := by simp [State.overlay]

@[simp] theorem State.nvmStore_ambient (s : State) (tag region offset length : Nat) (data : List Byte) :
    (s.nvmStore tag region offset length data).ambient = s.ambient := by simp [State.nvmStore]

@[simp] theorem State.nvmStoreDone_ambient (s : State) (badLine : Option Nat) (reads : NvmReads) : (s.nvmStoreDone badLine reads).ambient = s.ambient := by
  unfold State.nvmStoreDone
  dsimp only
  (repeat' split) <;> simp

@[simp] theorem State.nvmRead_ambient (s : State) (tag region offset length hostAddr : Nat) : (s.nvmRead tag region offset length hostAddr).ambient = s.ambient := by simp [State.nvmRead]

@[simp] theorem State.nvmReadDone_ambient (s : State) (uncorrectable : Option Nat) (corrected : Nat) : (s.nvmReadDone uncorrectable corrected).ambient = s.ambient := by
  unfold State.nvmReadDone
  dsimp only
  (repeat' split) <;> simp

theorem execNvmStore_keeps (tag region offset length hostAddr : Nat) (data : List Byte) (s : State) :
    KeepsAmbient s (execNvmStore tag region offset length hostAddr data s) := by simp [execNvmStore]

theorem execNvmStoreDone_keeps (x : ReadBack) (s : State) : KeepsAmbient s (execNvmStoreDone x s) := by simp [execNvmStoreDone]
theorem execNvmRead_keeps (tag region offset length hostAddr : Nat) (s : State) : KeepsAmbient s (execNvmRead tag region offset length hostAddr s) := by simp [execNvmRead]
theorem execNvmReadDone_keeps (uncorrectable : Option Nat) (corrected : Nat) (s : State) : KeepsAmbient s (execNvmReadDone uncorrectable corrected s) := by simp [execNvmReadDone]

/-! ## Image -/

@[simp] theorem State.verdict_ambient (s : State) (slot : Nat) (v : Verdict) : (s.verdict slot v).ambient = s.ambient := by
  unfold State.verdict
  dsimp only
  split <;> simp


/-! ## Clocks -/

@[simp] theorem State.hummockLimit_ambient (s : State) : s.hummockLimit.ambient = s.ambient := by simp [State.hummockLimit]
@[simp] theorem State.refclkLoss_ambient (s : State) : s.refclkLoss.ambient = s.ambient := by simp [State.refclkLoss]
@[simp] theorem State.holdoverExpiry_ambient (s : State) : s.holdoverExpiry.ambient = s.ambient := by simp [State.holdoverExpiry]
@[simp] theorem State.clockRelock_ambient (s : State) : s.clockRelock.ambient = s.ambient := by simp [State.clockRelock]
@[simp] theorem State.drive_ambient (s : State) (q code : Nat) : (s.drive q code).ambient = s.ambient := by simp [State.drive]
@[simp] theorem State.settled_ambient (s : State) (q : Nat) : (s.settled q).ambient = s.ambient := by simp [State.settled]
@[simp] theorem State.moveTo_ambient (s : State) (q point : Nat) : (s.moveTo q point).ambient = s.ambient := by simp [State.moveTo]
@[simp] theorem State.follow_ambient (s : State) (q : Nat) : (s.follow q).ambient = s.ambient := by simp [State.follow]

@[simp] theorem State.changePoints_ambient (s : State) (tag : Nat) (l : List Nat) : (s.changePoints tag l).ambient = s.ambient := by
  induction l generalizing s with
  | nil => simp [State.changePoints]
  | cons q qs ih => simp [State.changePoints, ih]

@[simp] theorem State.changeStep_ambient (s : State) : s.changeStep.ambient = s.ambient := by
  unfold State.changeStep
  split <;> simp

@[simp] theorem State.vidSettled_ambient (s : State) (q : Nat) : (s.vidSettled q).ambient = s.ambient := by
  unfold State.vidSettled
  split <;> simp

@[simp] theorem State.qctrlWrite_ambient (s : State) (q v : Nat) : (s.qctrlWrite q v).ambient = s.ambient := by simp [State.qctrlWrite]
@[simp] theorem State.sampleTemp_ambient (s : State) (q : Nat) (t : Int) : (s.sampleTemp q t).ambient = s.ambient := by simp [State.sampleTemp]
@[simp] theorem State.gradient_ambient (s : State) (l : List Int) (q : Nat) : (s.gradient l q).ambient = s.ambient := by simp [State.gradient]
@[simp] theorem State.thermalSample_ambient (s : State) (l : List Int) : (s.thermalSample l).ambient = s.ambient := by simp [State.thermalSample]
@[simp] theorem State.thermTrip_ambient (s : State) : s.thermTrip.ambient = s.ambient := by simp [State.thermTrip]
theorem execRefclkLoss_keeps (s : State) : KeepsAmbient s (execRefclkLoss s) := by simp [execRefclkLoss]
theorem execHoldoverExpiry_keeps (s : State) : KeepsAmbient s (execHoldoverExpiry s) := by simp [execHoldoverExpiry]
theorem execClockRelock_keeps (s : State) : KeepsAmbient s (execClockRelock s) := by simp [execClockRelock]
theorem execThermalSample_keeps (l : List Int) (s : State) : KeepsAmbient s (execThermalSample l s) := by simp [execThermalSample]
theorem execRailSkew_keeps (pair : Nat) (s : State) : KeepsAmbient s (execRailSkew pair s) := by simp [execRailSkew]
theorem execThermTrip_keeps (s : State) : KeepsAmbient s (execThermTrip s) := by simp [execThermTrip]
theorem execClkQctrlWrite_keeps (q v : Nat) (s : State) : KeepsAmbient s (execClkQctrlWrite q v s) := by simp [execClkQctrlWrite]
theorem execVidSettleExpiry_keeps (q : Nat) (s : State) : KeepsAmbient s (execVidSettleExpiry q s) := by simp [execVidSettleExpiry]

/-! ## Sleep -/

@[simp] theorem State.withSleep_ambient (s : State) (t : Nat) (x : TileSleep) : (s.withSleep t x).ambient = s.ambient := by simp [State.withSleep]
@[simp] theorem State.darkenRing_ambient (s : State) (t : Nat) : (s.darkenRing t).ambient = s.ambient := by simp [State.darkenRing]
@[simp] theorem State.dozeEntry_ambient (s : State) (t : Nat) : (s.dozeEntry t).ambient = s.ambient := by simp [State.dozeEntry]
@[simp] theorem State.torporEntry_ambient (s : State) (t : Nat) : (s.torporEntry t).ambient = s.ambient := by simp [State.torporEntry]
@[simp] theorem State.torporEntered_ambient (s : State) (t : Nat) : (s.torporEntered t).ambient = s.ambient := by simp [State.torporEntered]

@[simp] theorem State.wake_ambient (s : State) (t : Nat) (sources : List Nat) : (s.wake t sources).ambient = s.ambient := by
  unfold State.wake
  split <;> simp

@[simp] theorem State.tileAwake_ambient (s : State) (t : Nat) : (s.tileAwake t).ambient = s.ambient := by simp [State.tileAwake]

@[simp] theorem State.glowworm_ambient (s : State) (lane src : Nat) : (s.glowworm lane src).ambient = s.ambient := by
  unfold State.glowworm
  split <;> simp

@[simp] theorem State.rouseSeen_ambient (s : State) (x : RousePattern) : (s.rouseSeen x).2.ambient = s.ambient := by simp [State.rouseSeen]
@[simp] theorem State.rouseTx_ambient (s : State) (p : Nat) : (s.rouseTx p).ambient = s.ambient := by simp [State.rouseTx]
@[simp] theorem State.policy_ambient (s : State) (tag target : Nat) : (s.policy tag target).ambient = s.ambient := by simp [State.policy]
theorem execTileDozeEntry_keeps (t : Nat) (s : State) : KeepsAmbient s (execTileDozeEntry t s) := by simp [execTileDozeEntry]
theorem execTileTorporEntry_keeps (t : Nat) (s : State) : KeepsAmbient s (execTileTorporEntry t s) := by simp [execTileTorporEntry]
theorem execTorporEntered_keeps (t : Nat) (s : State) : KeepsAmbient s (execTorporEntered t s) := by simp [execTorporEntered]
theorem execTileWake_keeps (t : Nat) (sources : List Nat) (s : State) : KeepsAmbient s (execTileWake t sources s) := by simp [execTileWake]
theorem execTileAwake_keeps (t : Nat) (s : State) : KeepsAmbient s (execTileAwake t s) := by simp [execTileAwake]
theorem execTimerPrewake_keeps (t : Nat) (s : State) : KeepsAmbient s (execTimerPrewake t s) := by simp [execTimerPrewake]
theorem execRouseDetect_keeps (x : RousePattern) (s : State) : KeepsAmbient s (execRouseDetect x s) := by simp [execRouseDetect]
theorem execDarkToLight_keeps (x : LightEdge) (s : State) : KeepsAmbient s (execDarkToLight x s) := by simp [execDarkToLight]
theorem execRouseTx_keeps (p : Nat) (s : State) : KeepsAmbient s (execRouseTx p s) := by simp [execRouseTx]
theorem execCaddisSleep_keeps (s : State) : KeepsAmbient s (execCaddisSleep s) := by simp [execCaddisSleep]
theorem execCaddisWake_keeps (s : State) : KeepsAmbient s (execCaddisWake s) := by simp [execCaddisWake]
theorem execSleepPolicyFull_keeps (tag : Nat) (s : State) : KeepsAmbient s (execSleepPolicyFull tag s) := by simp [execSleepPolicyFull]
theorem execSleepPolicyLean_keeps (tag : Nat) (s : State) : KeepsAmbient s (execSleepPolicyLean tag s) := by simp [execSleepPolicyLean]
theorem execSleepPolicyStandby_keeps (tag : Nat) (s : State) : KeepsAmbient s (execSleepPolicyStandby tag s) := by simp [execSleepPolicyStandby]

/-! ## Boot -/

@[simp] theorem State.keepRegs_ambient (s : State) (keep : Nat → Bool) : (s.keepRegs keep).ambient = s.ambient := by simp [State.keepRegs]
@[simp] theorem State.wipeUnit_ambient (s : State) (region : Nat → Bool) : (s.wipeUnit region).ambient = s.ambient := by simp [State.wipeUnit]

@[simp] theorem State.nvmAbort_ambient (s : State) : s.nvmAbort.ambient = s.ambient := by
  unfold State.nvmAbort
  split <;> simp

@[simp] theorem State.wipePath_ambient (s : State) : s.wipePath.ambient = s.ambient := by simp [State.wipePath]
@[simp] theorem State.wipeWarm_ambient (s : State) : s.wipeWarm.ambient = s.ambient := by simp [State.wipeWarm]
@[simp] theorem State.wipeCold_ambient (s : State) : s.wipeCold.ambient = s.ambient := by simp [State.wipeCold]
@[simp] theorem State.installSection_ambient (s : State) (t : Nat) (x : PatchSection) : (s.installSection t x).ambient = s.ambient := by simp [State.installSection]

@[simp] theorem State.installPatch_ambient (s : State) (t : Nat) : (s.installPatch t).ambient = s.ambient := by
  unfold State.installPatch
  split <;> simp

@[simp] theorem State.patchStep_ambient (s : State) : s.patchStep.ambient = s.ambient := by
  unfold State.patchStep
  dsimp only
  split <;> simp

@[simp] theorem State.patchFitStep_ambient (s : State) : s.patchFitStep.ambient = s.ambient := by
  unfold State.patchFitStep
  split <;> simp

@[simp] theorem State.runImage_ambient (s : State) (i : Image) : (s.runImage i).ambient = s.ambient := by simp [State.runImage]

@[simp] theorem State.trySlots_ambient (s : State) (l : List Nat) : (s.trySlots l).ambient = s.ambient := by
  induction l generalizing s with
  | nil => simp [State.trySlots]
  | cons slot rest ih =>
    unfold State.trySlots
    dsimp only
    split <;> simp [ih]

@[simp] theorem State.imageStep_ambient (s : State) (named : Option Nat) : (s.imageStep named).ambient = s.ambient := by simp [State.imageStep]
@[simp] theorem State.halt_ambient (s : State) (step code : Nat) : (s.halt step code).ambient = s.ambient := by simp [State.halt]

@[simp] theorem State.bootBank_ambient (s : State) (bank : Nat) : (s.bootBank bank).ambient = s.ambient := by
  unfold State.bootBank
  split <;> simp

@[simp] theorem State.trainStack_ambient (s : State) (d : Nat) (bad : Bool) : (s.trainStack d bad).ambient = s.ambient := by simp [State.trainStack]
@[simp] theorem State.opticsStep_ambient (s : State) (b : BootFindings) (e : Nat) : (s.opticsStep b e).ambient = s.ambient := by simp [State.opticsStep]

@[simp] theorem State.narrowStep_ambient (s : State) (p : Nat) : (s.narrowStep p).ambient = s.ambient := by
  unfold State.narrowStep
  split <;> simp

@[simp] theorem State.tileTests_ambient (s : State) (b : BootFindings) (t : Nat) : (s.tileTests b t).ambient = s.ambient := by simp [State.tileTests]
@[simp] theorem State.tileStep_ambient (s : State) (b : BootFindings) (t : Nat) : (s.tileStep b t).ambient = s.ambient := by simp [State.tileStep]

@[simp] theorem State.overlayStep_ambient (s : State) : s.overlayStep.ambient = s.ambient := by
  unfold State.overlayStep
  dsimp only
  split <;> simp

@[simp] theorem State.warmer_ambient (s : State) : s.warmer.ambient = s.ambient := by simp [State.warmer]
@[simp] theorem State.bootDone_ambient (s : State) (ms : Nat) : (s.bootDone ms).ambient = s.ambient := by simp [State.bootDone]
@[simp] theorem State.wearStep_ambient (s : State) : s.wearStep.ambient = s.ambient := by simp [State.wearStep]
@[simp] theorem State.boot8_ambient (s : State) (b : BootFindings) (named : Option Nat) : (s.boot8 b named).ambient = s.ambient := by simp [State.boot8]
@[simp] theorem State.closeAll_ambient (s : State) (cause : Nat) : (s.closeAll cause).ambient = s.ambient := by simp [State.closeAll]
@[simp] theorem State.closedAll_ambient (s : State) : s.closedAll.ambient = s.ambient := by simp [State.closedAll]

@[simp] theorem State.warmBegin_ambient (s : State) (cause : Option Nat) : (s.warmBegin cause).ambient = s.ambient := by
  unfold State.warmBegin
  split <;> simp

@[simp] theorem State.warmReset_ambient (s : State) (cause : Nat) (named : Option Nat) (b : BootFindings) : (s.warmReset cause named b).ambient = s.ambient := by simp [State.warmReset]

@[simp] theorem State.porRelease_ambient (s : State) (b : BootFindings) : (s.porRelease b).ambient = s.ambient := by
  unfold State.porRelease
  dsimp only
  split <;> simp

@[simp] theorem State.resetLow_ambient (s : State) : s.resetLow.ambient = s.ambient := by simp [State.resetLow]
@[simp] theorem State.resetHigh_ambient (s : State) (b : BootFindings) : (s.resetHigh b).ambient = s.ambient := by simp [State.resetHigh]
@[simp] theorem State.enterReset_ambient (s : State) (u : ResetUnit) (b : BootFindings) : (s.enterReset u b).ambient = s.ambient := by simp [State.enterReset]
@[simp] theorem State.tileFlush_ambient (s : State) (t : Nat) : (s.tileFlush t).ambient = s.ambient := by simp [State.tileFlush]
@[simp] theorem State.tileClear_ambient (s : State) (t : Nat) (lifts : Bool) : (s.tileClear t lifts).ambient = s.ambient := by simp [State.tileClear]
@[simp] theorem State.unaligns_ambient (s : State) (t : Nat) : (s.unaligns t).ambient = s.ambient := by simp [State.unaligns]
@[simp] theorem State.tileReset_ambient (s : State) (t : Nat) (b : BootFindings) : (s.tileReset t b).ambient = s.ambient := by simp [State.tileReset]
@[simp] theorem State.quadFlush_ambient (s : State) (q : Nat) : (s.quadFlush q).ambient = s.ambient := by simp [State.quadFlush]
@[simp] theorem State.quadReset_ambient (s : State) (q : Nat) (b : BootFindings) : (s.quadReset q b).ambient = s.ambient := by simp [State.quadReset]
@[simp] theorem State.drcReset_ambient (s : State) (d : Nat) (b : BootFindings) : (s.drcReset d b).ambient = s.ambient := by simp [State.drcReset]
@[simp] theorem State.resetCtrl_ambient (s : State) (v : Nat) (b : BootFindings) : (s.resetCtrl v b).ambient = s.ambient := by simp [State.resetCtrl]
@[simp] theorem State.hibernate_ambient (s : State) (tag : Nat) : (s.hibernate tag).ambient = s.ambient := by simp [State.hibernate]

@[simp] theorem State.exitCode_ambient (s : State) (c : HibExit) : (s.exitCode c).2.ambient = s.ambient := by
  unfold State.exitCode
  split <;> simp

@[simp] theorem State.hibernateEnd_ambient (s : State) (code : Nat) (b : BootFindings) : (s.hibernateEnd code b).ambient = s.ambient := by simp [State.hibernateEnd]

@[simp] theorem State.hibernateExit_ambient (s : State) (c : HibExit) (b : BootFindings) : (s.hibernateExit c b).ambient = s.ambient := by
  unfold State.hibernateExit
  split
  · rfl
  · split
    · next heq => simp [snd_ambient_of_eq heq]
    · next heq => (repeat' split) <;> simp [snd_ambient_of_eq heq]

@[simp] theorem State.refclkReturn_ambient (s : State) : s.refclkReturn.ambient = s.ambient := by
  unfold State.refclkReturn
  dsimp only
  split <;> simp

theorem execRefclkReturn_keeps (s : State) : KeepsAmbient s (execRefclkReturn s) := by simp [execRefclkReturn]
theorem execVddHumInRange_keeps (s : State) : KeepsAmbient s (execVddHumInRange s) := by simp [execVddHumInRange]
theorem execSupplyLoss_keeps (linesWritten : Nat) (s : State) : KeepsAmbient s (execSupplyLoss linesWritten s) := by simp [execSupplyLoss]
theorem execPorAssert_keeps (s : State) : KeepsAmbient s (execPorAssert s) := by simp [execPorAssert]
theorem execPorRelease_keeps (b : BootFindings) (s : State) : KeepsAmbient s (execPorRelease b s) := by simp [execPorRelease]
theorem execResetNAssert_keeps (s : State) : KeepsAmbient s (execResetNAssert s) := by simp [execResetNAssert]
theorem execResetNRelease_keeps (b : BootFindings) (s : State) : KeepsAmbient s (execResetNRelease b s) := by simp [execResetNRelease]
theorem execWarmResetCmd_keeps (v : Nat) (b : BootFindings) (s : State) : KeepsAmbient s (execWarmResetCmd v b s) := by simp [execWarmResetCmd]
theorem execQuadrantReset_keeps (v : Nat) (b : BootFindings) (s : State) : KeepsAmbient s (execQuadrantReset v b s) := by simp [execQuadrantReset]
theorem execTileReset_keeps (v : Nat) (b : BootFindings) (s : State) : KeepsAmbient s (execTileReset v b s) := by simp [execTileReset]
theorem execDrcReset_keeps (v : Nat) (b : BootFindings) (s : State) : KeepsAmbient s (execDrcReset v b s) := by simp [execDrcReset]
theorem execSleepPolicyHibernate_keeps (tag : Nat) (s : State) : KeepsAmbient s (execSleepPolicyHibernate tag s) := by simp [execSleepPolicyHibernate]
theorem execHibernateExit_keeps (c : HibExit) (b : BootFindings) (s : State) : KeepsAmbient s (execHibernateExit c b s) := by simp [execHibernateExit]

/-! ## Peat -/

@[simp] theorem State.peatLoad_ambient (s : State) (tag slot : Nat) (b : BootFindings) : (s.peatLoad tag slot b).ambient = s.ambient := by simp [State.peatLoad]

@[simp] theorem State.peatSwap_ambient (s : State) (tag slot mask timeoutMs : Nat) (reads : NvmReads) : (s.peatSwap tag slot mask timeoutMs reads).ambient = s.ambient := by
  unfold State.peatSwap
  dsimp only
  split <;> simp

theorem execPeatLoad_keeps (tag slot : Nat) (b : BootFindings) (s : State) : KeepsAmbient s (execPeatLoad tag slot b s) := by simp [execPeatLoad]
theorem execPeatSwapLayer_keeps (tag : Nat) (x : SlotRead) (mask timeoutMs : Nat) (s : State) : KeepsAmbient s (execPeatSwapLayer tag x mask timeoutMs s) := by simp [execPeatSwapLayer]

/-! ## HostIf -/

@[simp] theorem State.withRing_ambient (s : State) (i : Nat) (f : HostRing → HostRing) : (s.withRing i f).ambient = s.ambient := by simp [State.withRing]
@[simp] theorem State.moderate_ambient (s : State) (i : Nat) : (s.moderate i).ambient = s.ambient := by simp [State.moderate]
@[simp] theorem State.complete_ambient (s : State) (i bytes rec : Nat) : (s.complete i bytes rec).ambient = s.ambient := by simp [State.complete]
@[simp] theorem State.hstTail_ambient (s : State) (i v : Nat) (descriptors : List Nat) : (s.hstTail i v descriptors).ambient = s.ambient := by simp [State.hstTail]
@[simp] theorem State.hostCount_ambient (s : State) (h n k : Nat) : (s.hostCount h n k).ambient = s.ambient := by simp [State.hostCount]

@[simp] theorem State.rxAbort_ambient (s : State) (i : Nat) : (s.rxAbort i).ambient = s.ambient := by
  unfold State.rxAbort
  split <;> simp

@[simp] theorem State.hostStop_ambient (s : State) (n : Nat) : (s.hostStop n).ambient = s.ambient := by simp [State.hostStop]
@[simp] theorem State.perst_ambient (s : State) (n : Nat) : (s.perst n).ambient = s.ambient := by simp [State.perst]
@[simp] theorem State.hostResume_ambient (s : State) : s.hostResume.ambient = s.ambient := by simp [State.hostResume]
@[simp] theorem State.txBytes_ambient (s : State) (d : Nat) (data : List Byte) : (s.txBytes d data).2.ambient = s.ambient := by simp [State.txBytes]
@[simp] theorem State.inject_ambient (s : State) (h d : Nat) (data : List Byte) : (s.inject h d data).ambient = s.ambient := by simp [State.inject]
@[simp] theorem State.dmaFail_ambient (s : State) (i : Nat) : (s.dmaFail i).ambient = s.ambient := by simp [State.dmaFail]
@[simp] theorem State.txFail_ambient (s : State) (i : Nat) : (s.txFail i).ambient = s.ambient := by simp [State.txFail]

@[simp] theorem State.txDescriptor_ambient (s : State) (i : Nat) (data : Option (List Byte)) : (s.txDescriptor i data).ambient = s.ambient := by
  unfold State.txDescriptor
  dsimp only
  (repeat' split) <;> simp

@[simp] theorem State.hostHeadLost_ambient (s : State) (gq code : Nat) (e : QEntry) : (s.hostHeadLost gq code e).ambient = s.ambient := by simp [State.hostHeadLost]

@[simp] theorem State.rxTake_ambient (s : State) (i n : Nat) : (s.rxTake i n).ambient = s.ambient := by
  induction n generalizing s with
  | zero => rfl
  | succ n ih =>
    unfold State.rxTake
    (repeat' split) <;> simp [ih]

@[simp] theorem State.hostStamp_ambient (s : State) (gq : Nat) (e : QEntry) (fault : DramFault) : (s.hostStamp gq e fault).ambient = s.ambient := by
  unfold State.hostStamp
  split <;> simp

@[simp] theorem State.rxDone_ambient (s : State) (i gq : Nat) (e : QEntry) (n : Nat) (hold : Bool) (fault : DramFault) :
    (s.rxDone i gq e n hold fault).ambient = s.ambient := by simp [State.rxDone]

@[simp] theorem State.rxWrite_ambient (s : State) (i : Nat) (fault : DramFault) (n : Nat) : (s.rxWrite i fault n).ambient = s.ambient := by
  induction n generalizing s with
  | zero => rfl
  | succ n ih =>
    unfold State.rxWrite
    dsimp only
    (repeat' split) <;> simp [ih]

@[simp] theorem State.rxDelivery_ambient (s : State) (i : Nat) (fault : DramFault) : (s.rxDelivery i fault).ambient = s.ambient := by simp [State.rxDelivery]
@[simp] theorem State.dmaError_ambient (s : State) (i : Nat) : (s.dmaError i).ambient = s.ambient := by simp [State.dmaError]
@[simp] theorem State.itrExpiry_ambient (s : State) (i : Nat) : (s.itrExpiry i).ambient = s.ambient := by simp [State.itrExpiry]
@[simp] theorem State.doorbell_ambient (s : State) (v : Nat) : (s.doorbell v).ambient = s.ambient := by simp [State.doorbell]
@[simp] theorem State.mailTake_ambient (s : State) : s.mailTake.ambient = s.ambient := by simp [State.mailTake]
@[simp] theorem State.respPop_ambient (s : State) (v : Nat) : (s.respPop v).ambient = s.ambient := by simp [State.respPop]
@[simp] theorem State.fwInfo_ambient (s : State) (tag : Nat) : (s.fwInfo tag).ambient = s.ambient := by simp [State.fwInfo]
@[simp] theorem State.patchInfo_ambient (s : State) (tag : Nat) : (s.patchInfo tag).ambient = s.ambient := by simp [State.patchInfo]
theorem execPerstNAssert_keeps (n : Nat) (s : State) : KeepsAmbient s (execPerstNAssert n s) := by simp [execPerstNAssert]
theorem execHostAccessStop_keeps (n : Nat) (s : State) : KeepsAmbient s (execHostAccessStop n s) := by simp [execHostAccessStop]
theorem execHostAccessResume_keeps (s : State) : KeepsAmbient s (execHostAccessResume s) := by simp [execHostAccessResume]
theorem execHstRingTailWrite_keeps (i v : Nat) (ds : List Nat) (s : State) : KeepsAmbient s (execHstRingTailWrite i v ds s) := by simp [execHstRingTailWrite]
theorem execTxDescriptor_keeps (i : Nat) (data : Option (List Byte)) (s : State) : KeepsAmbient s (execTxDescriptor i data s) := by simp [execTxDescriptor]
theorem execRxDelivery_keeps (x : Departure) (s : State) : KeepsAmbient s (execRxDelivery x s) := by simp [execRxDelivery]
theorem execDmaError_keeps (i : Nat) (s : State) : KeepsAmbient s (execDmaError i s) := by simp [execDmaError]
theorem execItrTimerExpiry_keeps (i : Nat) (s : State) : KeepsAmbient s (execItrTimerExpiry i s) := by simp [execItrTimerExpiry]
theorem execTopFenceWrite_keeps (v : Nat) (s : State) : KeepsAmbient s (execTopFenceWrite v s) := by simp [execTopFenceWrite]
theorem execMailboxDoorbell_keeps (v : Nat) (s : State) : KeepsAmbient s (execMailboxDoorbell v s) := by simp [execMailboxDoorbell]
theorem execMailboxTake_keeps (s : State) : KeepsAmbient s (execMailboxTake s) := by simp [execMailboxTake]
theorem execFwmRespPop_keeps (v : Nat) (s : State) : KeepsAmbient s (execFwmRespPop v s) := by simp [execFwmRespPop]
theorem execFwInfo_keeps (tag : Nat) (s : State) : KeepsAmbient s (execFwInfo tag s) := by simp [execFwInfo]
theorem execPatchStatus_keeps (tag : Nat) (s : State) : KeepsAmbient s (execPatchStatus tag s) := by simp [execPatchStatus]

/-! ## Access -/

@[simp] theorem State.accessWrite_ambient (s : State) (off v master : Nat) : (s.accessWrite off v master).ambient = s.ambient := by
  unfold State.accessWrite
  split <;> simp

@[simp] theorem State.hostRegWrite_ambient (s : State) (off bytes v : Nat) : (s.hostRegWrite off bytes v).ambient = s.ambient := by simp [State.hostRegWrite]
@[simp] theorem State.hostRead_ambient (s : State) (off bytes : Nat) : (s.hostRead off bytes).ambient = s.ambient := by simp [State.hostRead]
@[simp] theorem State.bar2Write_ambient (s : State) (o bytes v : Nat) : (s.bar2Write o bytes v).ambient = s.ambient := by simp [State.bar2Write]
@[simp] theorem State.bar2Read_ambient (s : State) (o bytes : Nat) : (s.bar2Read o bytes).ambient = s.ambient := by simp [State.bar2Read]
@[simp] theorem State.smbNext_ambient (s : State) (refused : Bool) : (s.smbNext refused).ambient = s.ambient := by simp [State.smbNext]
@[simp] theorem State.smbPec_ambient (s : State) : s.smbPec.ambient = s.ambient := by simp [State.smbPec]

@[simp] theorem State.smbReadAt_ambient (s : State) : s.smbReadAt.ambient = s.ambient := by
  unfold State.smbReadAt
  dsimp only
  (repeat' split) <;> simp

@[simp] theorem State.smbWriteAt_ambient (s : State) (v : Nat) : (s.smbWriteAt v).ambient = s.ambient := by simp [State.smbWriteAt]
@[simp] theorem State.tap_ambient (s : State) (i : TapInstr) (b : BootFindings) : (s.tap i b).ambient = s.ambient := by simp [State.tap]
@[simp] theorem State.tdo_ambient (s : State) (v : Nat) : (s.tdo v).ambient = s.ambient := by simp [State.tdo]

theorem execRegisterWrite_keeps (a : BarAddr) (bytes v : Nat) (s : State) : KeepsAmbient s (execRegisterWrite a bytes v s) := by
  unfold execRegisterWrite
  (repeat' split) <;> simp

theorem execRcRead_keeps (a : BarAddr) (bytes : Nat) (s : State) : KeepsAmbient s (execRcRead a bytes s) := by
  unfold execRcRead
  (repeat' split) <;> simp

theorem execExtremumRead_keeps (off bytes : Nat) (s : State) : KeepsAmbient s (execExtremumRead off bytes s) := by
  unfold execExtremumRead
  split <;> simp

theorem execSmbSetOffset_keeps (x : SmbOffset) (s : State) : KeepsAmbient s (execSmbSetOffset x s) := by simp [execSmbSetOffset]
theorem execSmbRead_keeps (pecOk : Bool) (s : State) : KeepsAmbient s (execSmbRead pecOk s) := by simp [execSmbRead]
theorem execSmbWrite_keeps (v : Nat) (pecOk : Bool) (s : State) : KeepsAmbient s (execSmbWrite v pecOk s) := by simp [execSmbWrite]
theorem execSmbStatusRead_keeps (s : State) : KeepsAmbient s (execSmbStatusRead s) := by simp [execSmbStatusRead]
theorem execJtagBypass_keeps (b : BootFindings) (s : State) : KeepsAmbient s (execJtagBypass b s) := by simp [execJtagBypass]
theorem execJtagIdcode_keeps (b : BootFindings) (s : State) : KeepsAmbient s (execJtagIdcode b s) := by simp [execJtagIdcode]
theorem execJtagSamplePreload_keeps (scan : BoundaryScan) (b : BootFindings) (s : State) : KeepsAmbient s (execJtagSamplePreload scan b s) := by simp [execJtagSamplePreload]

@[simp] theorem State.extestScan_ambient (s : State) : s.extestScan.ambient = s.ambient := by
  unfold State.extestScan
  dsimp only
  split <;> simp

theorem execJtagExtest_keeps (s : State) : KeepsAmbient s (execJtagExtest s) := by simp [execJtagExtest]
theorem execJtagClamp_keeps (s : State) : KeepsAmbient s (execJtagClamp s) := by simp [execJtagClamp]
theorem execJtagHighz_keeps (s : State) : KeepsAmbient s (execJtagHighz s) := by simp [execJtagHighz]
theorem execTapReset_keeps (b : BootFindings) (s : State) : KeepsAmbient s (execTapReset b s) := by simp [execTapReset]
/-! ## Every command -/

/-- No command changes the queue, the variant or the elapsed time: the case split over the commands. -/
theorem exec_keepsAmbient (c : Instr) (s : State) : KeepsAmbient s (exec c s) := by
  cases c with
  | vddHumInRange => exact execVddHumInRange_keeps s
  | supplyLoss linesWritten => exact execSupplyLoss_keeps linesWritten s
  | porAssert => exact execPorAssert_keeps s
  | porRelease b => exact execPorRelease_keeps b s
  | resetNAssert => exact execResetNAssert_keeps s
  | warmResetCmd value b => exact execWarmResetCmd_keeps value b s
  | quadrantReset value b => exact execQuadrantReset_keeps value b s
  | tileReset value b => exact execTileReset_keeps value b s
  | drcReset value b => exact execDrcReset_keeps value b s
  | perstNAssert linesWritten => exact execPerstNAssert_keeps linesWritten s
  | hostAccessStop linesWritten => exact execHostAccessStop_keeps linesWritten s
  | peatLoad tag slot b => exact execPeatLoad_keeps tag slot b s
  | peatSwapLayer tag slot mask timeoutMs => exact execPeatSwapLayer_keeps tag slot mask timeoutMs s
  | quiesceDrained => exact execQuiesceDrained_keeps s
  | quiesceTimeout => exact execQuiesceTimeout_keeps s
  | swapTileSwitch tile => exact execSwapTileSwitch_keeps tile s
  | nvmStore tag region offset length hostAddr data => exact execNvmStore_keeps tag region offset length hostAddr data s
  | nvmStoreDone readBack => exact execNvmStoreDone_keeps readBack s
  | nvmRead tag region offset length hostAddr => exact execNvmRead_keeps tag region offset length hostAddr s
  | nvmReadDone uncorrectable corrected => exact execNvmReadDone_keeps uncorrectable corrected s
  | refclkLoss => exact execRefclkLoss_keeps s
  | refclkReturn => exact execRefclkReturn_keeps s
  | holdoverExpiry => exact execHoldoverExpiry_keeps s
  | clockRelock => exact execClockRelock_keeps s
  | thermalSample readings => exact execThermalSample_keeps readings s
  | railSkew pair => exact execRailSkew_keeps pair s
  | thermTrip => exact execThermTrip_keeps s
  | clkQctrlWrite q value => exact execClkQctrlWrite_keeps q value s
  | vidSettleExpiry q => exact execVidSettleExpiry_keeps q s
  | tileDozeEntry tile => exact execTileDozeEntry_keeps tile s
  | tileTorporEntry tile => exact execTileTorporEntry_keeps tile s
  | torporEntered tile => exact execTorporEntered_keeps tile s
  | tileWake tile sources => exact execTileWake_keeps tile sources s
  | tileAwake tile => exact execTileAwake_keeps tile s
  | timerPrewake tile => exact execTimerPrewake_keeps tile s
  | rouseDetect seen => exact execRouseDetect_keeps seen s
  | darkToLight seen => exact execDarkToLight_keeps seen s
  | rouseTx port => exact execRouseTx_keeps port s
  | caddisSleep => exact execCaddisSleep_keeps s
  | caddisWake => exact execCaddisWake_keeps s
  | sleepPolicyFull tag => exact execSleepPolicyFull_keeps tag s
  | sleepPolicyLean tag => exact execSleepPolicyLean_keeps tag s
  | sleepPolicyStandby tag => exact execSleepPolicyStandby_keeps tag s
  | sleepPolicyHibernate tag => exact execSleepPolicyHibernate_keeps tag s
  | hibernateExit cause b => exact execHibernateExit_keeps cause b s
  | linkUp port deskew => exact execLinkUp_keeps port deskew s
  | linkDown port => exact execLinkDown_keeps port s
  | holdExpiry port => exact execHoldExpiry_keeps port s
  | portAdminDown port => exact execPortAdminDown_keeps port s
  | portAdminUp port => exact execPortAdminUp_keeps port s
  | loopbackChange port mode => exact execLoopbackChange_keeps port mode s
  | rxFrame port frame fcsOk laneFault codewords => exact execRxFrame_keeps port frame fcsOk laneFault codewords s
  | pauseExpiry port cls => exact execPauseExpiry_keeps port cls s
  | pauseFrameSend port => exact execPauseFrameSend_keeps port s
  | pauseRefresh port cls => exact execPauseRefresh_keeps port cls s
  | prtFcTxWrite port value => exact execPrtFcTxWrite_keeps port value s
  | laserLit engine fibre => exact execLaserLit_keeps engine fibre s
  | laserLost engine fibre => exact execLaserLost_keeps engine fibre s
  | trackLimit at_ => exact execTrackLimit_keeps at_ s
  | optCalibrate tag engine => exact execOptCalibrate_keeps tag engine s
  | optCalibrateDone engine badLanes => exact execOptCalibrateDone_keeps engine badLanes s
  | causewayOpen tag group => exact execCausewayOpen_keeps tag group s
  | causewayClose tag group => exact execCausewayClose_keeps tag group s
  | bypassOpened group => exact execBypassOpened_keeps group s
  | bypassClosed group => exact execBypassClosed_keeps group s
  | elementFault group => exact execElementFault_keeps group s
  | stagingRelease port => exact execStagingRelease_keeps port s
  | parseDeal tile => exact execParseDeal_keeps tile s
  | parseComplete tile engine engineError => exact execParseComplete_keeps tile engine engineError s
  | reorderRelease tile errors => exact execReorderRelease_keeps tile errors s
  | learnServe => exact execLearnServe_keeps s
  | egressArrival x => exact execEgressArrival_keeps x s
  | schedDecision port => exact execSchedDecision_keeps port s
  | rewriteCommit port fault laneFault => exact execRewriteCommit_keeps port fault laneFault s
  | rewriteRestart port => exact execRewriteRestart_keeps port s
  | clusterReloadDone tile cluster => exact execClusterReloadDone_keeps tile cluster s
  | frameTxDone x => exact execFrameTxDone_keeps x s
  | deepReadback queue fault => exact execDeepReadback_keeps queue fault s
  | ageHeadCheck quadrant => exact execAgeHeadCheck_keeps quadrant s
  | sextonWalk found => exact execSextonWalk_keeps found s
  | bufFreeWrite quadrant value => exact execBufFreeWrite_keeps quadrant value s
  | bufQueueCfgWrite queue value => exact execBufQueueCfgWrite_keeps queue value s
  | sweepPassStart table => exact execSweepPassStart_keeps table s
  | scarabVisit table badRow => exact execScarabVisit_keeps table badRow s
  | learnRecountDone => exact execLearnRecountDone_keeps s
  | exmSweepWrite table value => exact execExmSweepWrite_keeps table value s
  | exmPortTablesWrite port value => exact execExmPortTablesWrite_keeps port value s
  | suspectRowScrub quadrant row readBackOk => exact execSuspectRowScrub_keeps quadrant row readBackOk s
  | backgroundScrub quadrant badRows => exact execBackgroundScrub_keeps quadrant badRows s
  | tcmPortL3Write port value => exact execTcmPortL3Write_keeps port value s
  | topFenceWrite value => exact execTopFenceWrite_keeps value s
  | orderStrictWrite word value => exact execOrderStrictWrite_keeps word value s
  | tueRingTailWrite ring value commands => exact execTueRingTailWrite_keeps ring value commands s
  | nop ring slot => exact execNop_keeps ring slot s
  | fence ring slot => exact execFence_keeps ring slot s
  | epoch ring slot => exact execEpoch_keeps ring slot s
  | emInsert ring slot => exact execEmInsert_keeps ring slot s
  | emUpdate ring slot => exact execEmUpdate_keeps ring slot s
  | emDelete ring slot => exact execEmDelete_keeps ring slot s
  | emRead ring slot => exact execEmRead_keeps ring slot s
  | tcInsert ring slot => exact execTcInsert_keeps ring slot s
  | tcWriteRow ring slot => exact execTcWriteRow_keeps ring slot s
  | tcUpdateAction ring slot => exact execTcUpdateAction_keeps ring slot s
  | tcDelete ring slot => exact execTcDelete_keeps ring slot s
  | tcReadRow ring slot => exact execTcReadRow_keeps ring slot s
  | objWrite ring slot => exact execObjWrite_keeps ring slot s
  | objRead ring slot => exact execObjRead_keeps ring slot s
  | cutOpen ring slot => exact execCutOpen_keeps ring slot s
  | cutAdd ring slot => exact execCutAdd_keeps ring slot s
  | cutArm ring slot => exact execCutArm_keeps ring slot s
  | cutCancel ring slot => exact execCutCancel_keeps ring slot s
  | tueWaitTimeout ring slot => exact execTueWaitTimeout_keeps ring slot s
  | epochDrained => exact execEpochDrained_keeps s
  | epochTimeout e => exact execEpochTimeout_keeps e s
  | cutGapFound cut => exact execCutGapFound_keeps cut s
  | cutWaitExpiry cut => exact execCutWaitExpiry_keeps cut s
  | cutApply cut => exact execCutApply_keeps cut s
  | cutDone cut => exact execCutDone_keeps cut s
  | timeBeacon => exact execTimeBeacon_keeps s
  | timRateWrite value => exact execTimRateWrite_keeps value s
  | timStepForward => exact execTimStepForward_keeps s
  | timStepBack => exact execTimStepBack_keeps s
  | timStepSet => exact execTimStepSet_keeps s
  | timNowRead => exact execTimNowRead_keeps s
  | pinCapture pin rising => exact execPinCapture_keeps pin rising s
  | ppsOutEdge => exact execPpsOutEdge_keeps s
  | timPpsOutWrite widthReg value => exact execTimPpsOutWrite_keeps widthReg value s
  | todOutSend => exact execTodOutSend_keeps s
  | todInRx message => exact execTodInRx_keeps message s
  | tsfPop tile value => exact execTsfPop_keeps tile value s
  | shaperRefill tile => exact execShaperRefill_keeps tile s
  | gateChange port => exact execGateChange_keeps port s
  | gateCancel port => exact execGateCancel_keeps port s
  | gateListStart port => exact execGateListStart_keeps port s
  | gateEntryTransition port => exact execGateEntryTransition_keeps port s
  | sgChange gate => exact execSgChange_keeps gate s
  | sgCancel gate => exact execSgCancel_keeps gate s
  | sgListStart gate => exact execSgListStart_keeps gate s
  | sgTransition gate => exact execSgTransition_keeps gate s
  | schQmapWrite port cls value => exact execSchQmapWrite_keeps port cls value s
  | queueSample x => exact execQueueSample_keeps x s
  | ringJoin tag group => exact execRingJoin_keeps tag group s
  | ringLeave tag group => exact execRingLeave_keeps tag group s
  | ringProbeSend port => exact execRingProbeSend_keeps port s
  | probeTimeout port => exact execProbeTimeout_keeps port s
  | rngGroupCtxWrite group value => exact execRngGroupCtxWrite_keeps group value s
  | rwePortDefaultWrite port value => exact execRwePortDefaultWrite_keeps port value s
  | slotSwap slot => exact execSlotSwap_keeps slot s
  | swapTakesEffect slot => exact execSwapTakesEffect_keeps slot s
  | slotZeroize slot => exact execSlotZeroize_keeps slot s
  | slotClearStaged slot => exact execSlotClearStaged_keeps slot s
  | keyErased slot => exact execKeyErased_keeps slot s
  | stgCfgWrite slot value => exact execStgCfgWrite_keeps slot value s
  | prtSecCfgWrite port value => exact execPrtSecCfgWrite_keeps port value s
  | secChannelSwitch port => exact execSecChannelSwitch_keeps port s
  | entropyHealthFail => exact execEntropyHealthFail_keeps s
  | drbgReseed taken => exact execDrbgReseed_keeps taken s
  | dramRefresh stack pc fault => exact execDramRefresh_keeps stack pc fault s
  | stackTempReport stack celsius => exact execStackTempReport_keeps stack celsius s
  | dramRetrain tag stack timeoutMs => exact execDramRetrain_keeps tag stack timeoutMs s
  | dramRetrainDrained stack => exact execDramRetrainDrained_keeps stack s
  | dramRetrainDone stack => exact execDramRetrainDone_keeps stack s
  | pcPowerDown stack pc => exact execPcPowerDown_keeps stack pc s
  | selfRefreshEntry stack => exact execSelfRefreshEntry_keeps stack s
  | selfRefreshExited stack => exact execSelfRefreshExited_keeps stack s
  | telemExport stack value => exact execTelemExport_keeps stack value s
  | telemExportDone x => exact execTelemExportDone_keeps x s
  | faultReport source kind address master accessType => exact execFaultReport_keeps source kind address master accessType s
  | fenceComplete source index => exact execFenceComplete_keeps source index s
  | fltFenceCmd value => exact execFltFenceCmd_keeps value s
  | faultLogWrite => exact execFaultLogWrite_keeps s
  | faultLogFlush tag => exact execFaultLogFlush_keeps tag s
  | faultLogErase tag => exact execFaultLogErase_keeps tag s
  | fltMsgPop value => exact execFltMsgPop_keeps value s
  | hstRingTailWrite ring value descriptors => exact execHstRingTailWrite_keeps ring value descriptors s
  | txDescriptor ring data => exact execTxDescriptor_keeps ring data s
  | rxDelivery x => exact execRxDelivery_keeps x s
  | dmaError ring => exact execDmaError_keeps ring s
  | itrTimerExpiry ring => exact execItrTimerExpiry_keeps ring s
  | mailboxDoorbell value => exact execMailboxDoorbell_keeps value s
  | mailboxTake => exact execMailboxTake_keeps s
  | fwmRespPop value => exact execFwmRespPop_keeps value s
  | fwInfo tag => exact execFwInfo_keeps tag s
  | patchStatus tag => exact execPatchStatus_keeps tag s
  | smbSetOffset x => exact execSmbSetOffset_keeps x s
  | smbRead pecOk => exact execSmbRead_keeps pecOk s
  | smbWrite value pecOk => exact execSmbWrite_keeps value pecOk s
  | smbStatusRead => exact execSmbStatusRead_keeps s
  | jtagBypass b => exact execJtagBypass_keeps b s
  | jtagIdcode b => exact execJtagIdcode_keeps b s
  | jtagSamplePreload scan b => exact execJtagSamplePreload_keeps scan b s
  | jtagExtest => exact execJtagExtest_keeps s
  | jtagClamp => exact execJtagClamp_keeps s
  | jtagHighz => exact execJtagHighz_keeps s
  | registerWrite at_ bytes value => exact execRegisterWrite_keeps at_ bytes value s
  | rcRead at_ bytes => exact execRcRead_keeps at_ bytes s
  | extremumRead offset bytes => exact execExtremumRead_keeps offset bytes s
  | resetNRelease b => exact execResetNRelease_keeps b s
  | hostAccessResume => exact execHostAccessResume_keeps s
  | trainPeriodExpiry stack => exact execTrainPeriodExpiry_keeps stack s
  | tapReset b => exact execTapReset_keeps b s

/-- Settles O7: the lemma of each command. -/
theorem commandsKeepQueueAndTime : Obligations.CommandsKeepQueueAndTime := by
  unfold Obligations.CommandsKeepQueueAndTime
  intro c s t h
  exact (s.ambient_eq_iff t).mp (exec_keepsAmbient c s t h)

end Sys2Proof.Machine
end

section
/-! How the host's accesses to BAR0 and BAR2 fare (O57): a field after a read or a write of its register, the bytes of a narrow read, and the MSI-X table. -/

namespace Sys2Proof.Machine

/-! ## The fields of a register -/

/-- No two fields of a register share a place. -/
theorem fields_nodup : ∀ r ∈ allRegs, (r.fields.map fun f => f.id % 1024).Nodup := by decide +kernel

/-- Two fields of a list without shared places are one where their places are. -/
theorem field_eq_of_place {l : List Field} (hl : (l.map fun f => f.id % 1024).Nodup) {f g : Field} (hf : f ∈ l) (hg : g ∈ l)
    (h : f.id % 1024 = g.id % 1024) : f = g := by
  induction l with
  | nil => cases hf
  | cons x l ih =>
    obtain ⟨hx, hl⟩ := List.nodup_cons.mp hl
    rcases List.mem_cons.mp hf with rfl | hfl
    · rcases List.mem_cons.mp hg with rfl | hgl
      · rfl
      · exact (hx (List.mem_map.mpr ⟨g, hgl, h.symm⟩)).elim
    · rcases List.mem_cons.mp hg with rfl | hgl
      · exact (hx (List.mem_map.mpr ⟨f, hfl, h⟩)).elim
      · exact ih hl hfl hgl

theorem field_width_le : ∀ r ∈ allRegs, ∀ f ∈ r.fields, f.width ≤ 64 := by decide +kernel

theorem registerAt_mem {off i : Nat} {r : Reg} (h : registerAt off = some (r, i)) : r ∈ allRegs := by
  obtain ⟨r', hr', h'⟩ := List.exists_of_findSome?_eq_some h
  obtain ⟨_, _, e⟩ := Option.map_eq_some_iff.mp h'
  obtain ⟨rfl, -⟩ := Prod.mk.inj e
  exact hr'

/-- A run over fields leaves every other field alone. -/
theorem State.get_forAll_not_mem {step : State → Field → State} {i : Nat}
    (hne : ∀ u g h, h.id % 1024 ≠ g.id % 1024 → (step u g).get h i = u.get h i) (f : Field) (l : List Field)
    (hf : ∀ g ∈ l, f.id % 1024 ≠ g.id % 1024) (s : State) : (s.forAll l step).get f i = s.get f i := by
  induction l generalizing s with
  | nil => rfl
  | cons g l ih =>
    obtain ⟨hg, hl⟩ := List.forall_mem_cons.mp hf
    exact (ih hl _).trans (hne s g f hg)

/-- After a run over the fields of a register a field holds what its own turn made of it, in a state that differs by the turns of other fields alone. -/
theorem State.get_forAll_mem {step : State → Field → State} {i : Nat} (hne : ∀ u g h, h.id % 1024 ≠ g.id % 1024 → (step u g).get h i = u.get h i)
    {f : Field} (K : State → Prop) (l : List Field) (hl : (l.map fun f => f.id % 1024).Nodup) (hf : f ∈ l)
    (hK : ∀ u, ∀ g ∈ l, g.id % 1024 ≠ f.id % 1024 → K u → K (step u g)) (s : State) (hs : K s) :
    ∃ u, K u ∧ (s.forAll l step).get f i = (step u f).get f i := by
  induction l generalizing s with
  | nil => cases hf
  | cons g l ih =>
    obtain ⟨hg, hl⟩ := List.nodup_cons.mp hl
    have hg' : ∀ x ∈ l, g.id % 1024 ≠ x.id % 1024 := fun x hx e => hg (List.mem_map.mpr ⟨x, hx, e.symm⟩)
    rcases List.mem_cons.mp hf with rfl | hf
    · exact ⟨s, hs, State.get_forAll_not_mem hne f l hg' _⟩
    · exact ih hl hf (fun u x hx => hK u x (List.mem_cons_of_mem _ hx)) (step s g) (hK s g List.mem_cons_self (hg' f hf) hs)

/-! ## Reads that clear or restart (R15, R566) -/

/-- The fields from which RC fields restart. -/
def restartSources : List Nat :=
  [F.BUF_POOL_CFG_COUNT, F.HUM_TEMP_TJ, F.OPT_LASER_PWR_PWR, F.SMP_LAST_DEPTH, F.SMP_LAST_FRAMES, F.SMP_LAST_HOL_DELAY].map fun f => f.id % 1024

/-- None of them is an RC field itself. -/
theorem rc_not_restartSource : ∀ r ∈ allRegs, ∀ f ∈ r.fields, f.access = .rc → f.id % 1024 ∉ restartSources := by decide +kernel

/-- A field that nothing restarts from does not change what fields restart from. -/
theorem State.restartOf_set (s : State) (g f : Field) (i j v : Nat) (h : g.id % 1024 ∉ restartSources) : (s.set g i v).restartOf f j = s.restartOf f j := by
  simp only [restartSources, List.map_cons, List.map_nil, List.mem_cons, List.not_mem_nil, or_false, not_or] at h
  obtain ⟨hc, ht, hp, hd, hf, hh⟩ := h
  simp only [State.restartOf, State.regionFree, State.regionCount, State.regionUsed, if_true, State.set_path, State.get_set_id _ _ _ _ _ _ (Ne.symm hc),
    State.get_set_id _ _ _ _ _ _ (Ne.symm ht), State.get_set_id _ _ _ _ _ _ (Ne.symm hp), State.get_set_id _ _ _ _ _ _ (Ne.symm hd),
    State.get_set_id _ _ _ _ _ _ (Ne.symm hf), State.get_set_id _ _ _ _ _ _ (Ne.symm hh)]

@[simp] theorem State.returns_restartOf (s : State) (v : Option Nat) (f : Field) (i : Nat) : (s.returns v).restartOf f i = s.restartOf f i := rfl

/-- A read leaves an RC field at the value that it restarts from, or at zero. -/
theorem State.get_readClear (s : State) {r : Reg} (hr : r ∈ allRegs) (i : Nat) {f : Field} (hf : f ∈ r.fields) (ha : f.access = .rc) :
    (s.readClear r i).get f i = (s.restartOf f i).getD 0 % 2 ^ f.width := by
  have rc {g : Field} (hg : g ∈ r.fields.filter fun f => f.access == .rc) : g.id % 1024 ∉ restartSources := by
    obtain ⟨hg, ha⟩ := List.mem_filter.mp hg
    exact rc_not_restartSource r hr g hg (eq_of_beq ha)
  obtain ⟨u, hu, e⟩ := State.get_forAll_mem (i := i) (step := fun s f => s.set f i ((s.restartOf f i).getD 0)) (fun u g h hne => State.get_set_id _ _ _ _ _ _ hne)
    (fun u => u.restartOf f i = s.restartOf f i) _ ((fields_nodup r hr).sublist (List.filter_sublist.map _)) (List.mem_filter.mpr ⟨hf, by simp [ha]⟩)
    (fun u g hg _ hu => (u.restartOf_set g f i i _ (rc hg)).trans hu) s rfl
  exact e.trans ((State.get_set_same ..).trans (by rw [hu]))

@[simp] theorem State.readClear_out (s : State) (r : Reg) (i : Nat) : (s.readClear r i).out = s.out :=
  foldl_keeps State.out (f := fun s f => s.set f i ((s.restartOf f i).getD 0)) (fun _ _ => rfl) _ s

@[simp] theorem State.readClear_path (s : State) (r : Reg) (i : Nat) : (s.readClear r i).path = s.path :=
  foldl_keeps State.path (f := fun s f => s.set f i ((s.restartOf f i).getD 0)) (fun _ _ => rfl) _ s

/-! ## Reads of BAR0 -/

theorem State.hostLink_of_served {s : State} {off : Nat} (hp : s.pins.perstLow = false) (h : s.reach off = .served) : s.hostLink off = true := by
  simp [State.hostLink, h, hp]

theorem State.hostLink_of_away {s : State} {off : Nat} (hp : s.pins.perstLow = false) (h : s.reach off = .away) : s.hostLink off = true := by
  simp [State.hostLink, h, hp]

theorem State.hostLink_of_answers {s : State} {off : Nat} (hp : s.pins.perstLow = false) (h : s.reach off ≠ .silent) : s.hostLink off = true := by
  simp [State.hostLink, h, hp]

theorem State.readValue_served {s : State} {off i : Nat} {r : Reg} (h : s.reach off = .served) (hr : registerAt off = some (r, i))
    (hu : s.instanceUsed r i = true) : s.readValue off = some (s.word r i) := by
  simp only [State.readValue, h, hr, hu, if_true]

/-- Both rows that read BAR0 do the host's read. -/
theorem exec_hostRead {c : Instr} {off bytes : Nat} (s : State) (hc : c = .rcRead (.bar0 off) bytes ∨ c = .extremumRead off bytes) (hb : off + bytes ≤ 2 ^ 24) :
    exec c s = .next (s.hostRead off bytes) := by
  rcases hc with rfl | rfl
  · exact if_neg (Nat.not_lt.mpr hb)
  · exact if_neg (Nat.not_lt.mpr hb)

theorem State.hostRead_full {s : State} {off i : Nat} {r : Reg} (ho : off % 8 = 0) (hp : s.pins.perstLow = false) (h : s.reach off = .served)
    (hr : registerAt off = some (r, i)) (hu : s.instanceUsed r i = true) (hn : r.base ≠ R.TIM_NOW_LO.base) :
    s.hostRead off 8 = (s.returns (some (s.word r i))).readClear r i := by
  simp [State.hostRead, State.hostLink_of_served hp h, State.regRead, ho, h, hr, hu, hn, State.readValue_served h hr hu]

theorem State.hostRead_away {s : State} {off : Nat} (ho : off % 8 = 0) (hp : s.pins.perstLow = false) (h : s.reach off = .away) :
    s.hostRead off 8 = s.returns (some (2 ^ 64 - 1)) := by
  simp [State.hostRead, State.hostLink_of_away hp h, State.regRead, ho, h, State.readValue]

/-- A narrow or unaligned read has no side effect (R509). -/
theorem State.hostRead_narrow (s : State) {off bytes : Nat} (h : bytes ≠ 8 ∨ off % 8 ≠ 0) : ∃ v, s.hostRead off bytes = s.returns v := by
  have hn : ¬(bytes = 8 ∧ off % 8 = 0) := fun e => h.elim (· e.1) (· e.2)
  unfold State.hostRead State.regRead
  rw [if_neg hn]
  split <;> exact ⟨_, rfl⟩

/-- The bytes of a word, put together again from the lowest. -/
theorem foldl_bytes (byte : Nat → Option Nat) (w n : Nat) (h : ∀ k < n, byte k = some (w / 2 ^ (8 * k) % 256)) :
    (List.range n).foldl (fun a k => a.bind fun a => (byte k).map fun b => a + b * 2 ^ (8 * k)) (some 0) = some (w % 2 ^ (8 * n)) := by
  induction n with
  | zero => simp [Nat.mod_one]
  | succ n ih =>
    have e : w % 2 ^ (8 * (n + 1)) = w % 2 ^ (8 * n) + w / 2 ^ (8 * n) % 256 * 2 ^ (8 * n) := by
      have hp : 2 ^ (8 * (n + 1)) = 2 ^ (8 * n) * 256 := Nat.pow_add 2 (8 * n) 8
      rw [hp, Nat.mod_mul, Nat.mul_comm (2 ^ (8 * n))]
    rw [List.range_succ, List.foldl_append, ih fun k hk => h k (by omega)]
    simp [h n (by omega), e]

/-- A narrow read within a word returns its bytes (log 102). -/
theorem State.hostRead_bytes {s : State} {off bytes i : Nat} {r : Reg} (hb : bytes < 8) (hw : off % 8 + bytes ≤ 8) (hp : s.pins.perstLow = false)
    (h : s.reach off = .served) (ha : s.reach (off / 8 * 8) = .served) (hr : registerAt (off / 8 * 8) = some (r, i)) (hu : s.instanceUsed r i = true) :
    s.hostRead off bytes = s.returns (some (s.word r i / 2 ^ (8 * (off % 8)) % 2 ^ (8 * bytes))) := by
  have hn : ¬(bytes = 8 ∧ off % 8 = 0) := by omega
  have hk (k : Nat) (hk : k < bytes) : ((s.readValue ((off + k) / 8 * 8)).map fun v => v / 2 ^ (8 * ((off + k) % 8)) % 256) =
      some (s.word r i / 2 ^ (8 * (off % 8)) / 2 ^ (8 * k) % 256) := by
    have ea : (off + k) / 8 * 8 = off / 8 * 8 := by omega
    have em : 8 * ((off + k) % 8) = 8 * (off % 8) + 8 * k := by omega
    rw [ea, em, State.readValue_served ha hr hu, Option.map_some, Nat.pow_add, Nat.div_div_eq_div_mul]
  simp only [State.hostRead, State.hostLink_of_served hp h, State.regRead, hn, if_false, Bool.true_eq_false]
  rw [foldl_bytes _ _ _ hk]

/-! ## One field as a write changes it (Table 0.5) -/

theorem bits_lt (v lsb w : Nat) : bits v lsb w < 2 ^ w := Nat.mod_lt _ (Nat.two_pow_pos w)

/-- Clearing bits that are clear already changes nothing. -/
theorem andNotN_of_disjoint {a b : Nat} (ha : a < 2 ^ 64) (h : a &&& b = 0) : andNotN a b = a := by
  have hb : b % 2 ^ 64 < 2 ^ 64 := Nat.mod_lt _ (Nat.two_pow_pos 64)
  refine Nat.eq_of_testBit_eq fun i => ?_
  have hi : (a.testBit i && b.testBit i) = false := by rw [← Nat.testBit_and, h, Nat.zero_testBit]
  rw [andNotN, Nat.testBit_and, Nat.sub_sub, Nat.add_comm 1, Nat.testBit_two_pow_sub_succ hb, Nat.testBit_mod_two_pow]
  by_cases hlt : i < 64
  · cases ha' : a.testBit i <;> simp_all
  · simp [Nat.testBit_lt_two_pow (Nat.lt_of_lt_of_le ha (Nat.pow_le_pow_right Nat.two_pos (Nat.le_of_not_lt hlt)))]

theorem andNotN_le (a b : Nat) : andNotN a b ≤ a := Nat.and_le_left

theorem State.get_fieldWrite_ne (u : State) {g f : Field} (i v : Nat) (h : f.id % 1024 ≠ g.id % 1024) : (u.fieldWrite g i v).get f i = u.get f i := by
  unfold State.fieldWrite
  dsimp only
  split
  · exact State.get_set_id _ _ _ _ _ _ h
  · exact State.get_set_id _ _ _ _ _ _ h
  · split
    · rfl
    · exact State.get_set_id _ _ _ _ _ _ h
  · exact State.get_set_id _ _ _ _ _ _ h
  all_goals rfl

/-- A field that holds a value of its width is afterwards what its access code says. -/
theorem State.get_fieldWrite_same (u : State) (f : Field) (i v : Nat) (hw : f.width ≤ 64) (h : u.get f i < 2 ^ f.width) :
    (u.fieldWrite f i v).get f i = fieldAfter f (u.get f i) (bits v f.lsb f.width) := by
  have h64 : u.get f i < 2 ^ 64 := Nat.lt_of_lt_of_le h (Nat.pow_le_pow_right Nat.two_pos hw)
  have hx := bits_lt v f.lsb f.width
  unfold State.fieldWrite fieldAfter
  dsimp only
  cases f.access with
  | rw => exact (State.get_set_same ..).trans (Nat.mod_eq_of_lt hx)
  | rwp => exact (State.get_set_same ..).trans (Nat.mod_eq_of_lt hx)
  | w1c =>
    dsimp only
    split
    · next hz => exact (andNotN_of_disjoint h64 hz).symm
    · exact (State.get_set_same ..).trans (Nat.mod_eq_of_lt (Nat.lt_of_le_of_lt (andNotN_le _ _) h))
  | w1s => exact (State.get_set_same ..).trans (Nat.mod_eq_of_lt (Nat.or_lt_two_pow h hx))
  | ro => rfl
  | rc => rfl
  | wo => rfl

/-! ## A write of a whole register -/

/-- A write that skips the fields whose value a test refuses: those keep what they held, the others change by their access codes. -/
theorem State.get_pickyWrite (s : State) {r : Reg} (hr : r ∈ allRegs) (i v : Nat) (bad : Field → Nat → Bool) {f : Field} (hf : f ∈ r.fields)
    (h : s.get f i < 2 ^ f.width) :
    (s.pickyWrite r i v bad).get f i =
      if bad f (bits v f.lsb f.width) then s.get f i else fieldAfter f (s.get f i) (bits v f.lsb f.width) := by
  have hne (u : State) (g h : Field) (e : h.id % 1024 ≠ g.id % 1024) : (u.fieldWrite g i v).get h i = u.get h i := u.get_fieldWrite_ne i v e
  have hnd := fields_nodup r hr
  unfold State.pickyWrite
  split
  · next hb =>
    refine State.get_forAll_not_mem (step := fun s f => s.fieldWrite f i v) hne f _ (fun g hg e => ?_) s
    obtain ⟨hg, hb'⟩ := List.mem_filter.mp hg
    obtain rfl := field_eq_of_place hnd hf hg e
    rw [hb] at hb'
    cases hb'
  · next hb =>
    have hm : f ∈ r.fields.filter fun f => !bad f (bits v f.lsb f.width) := List.mem_filter.mpr ⟨hf, by simp [hb]⟩
    obtain ⟨u, hu, e⟩ := State.get_forAll_mem (i := i) (step := fun s f => s.fieldWrite f i v) hne (fun u => u.get f i = s.get f i) _
      (hnd.sublist (List.filter_sublist.map _)) hm (fun u g _ e hu => (hne u g f (Ne.symm e)).trans hu) s rfl
    rw [e, u.get_fieldWrite_same f i v (field_width_le r hr f hf) (hu ▸ h), hu]

theorem State.pickyWrite_congr (s : State) (r : Reg) (i v : Nat) {bad bad' : Field → Nat → Bool} (h : ∀ f ∈ r.fields, ∀ x, bad f x = bad' f x) :
    s.pickyWrite r i v bad = s.pickyWrite r i v bad' := by
  unfold State.pickyWrite
  rw [List.filter_congr fun f hf => by rw [h f hf]]

theorem State.plainWrite_eq_pickyWrite (s : State) (r : Reg) (i v : Nat) {bad : Field → Nat → Bool} (h : ∀ f ∈ r.fields, ∀ x, bad f x = false) :
    s.plainWrite r i v = s.pickyWrite r i v bad := by
  unfold State.plainWrite State.pickyWrite
  rw [List.filter_eq_self.mpr fun f hf => by simp [h f hf]]

/-- The registers in which some field ignores some value. -/
theorem valueIgnored_home : ∀ r ∈ allRegs, ∀ f ∈ r.fields,
    ([F.TIM_CAP_CTRL_PPS_IN_EDGE.id, F.TIM_CAP_CTRL_EVT0_EDGE.id, F.TIM_CAP_CTRL_EVT1_EDGE.id, F.TIM_PORT_PTP_TC_MODE.id, F.SCH_PORT_CFG_TRUST.id].contains f.id = true →
      r.base ∈ [R.TIM_CAP_CTRL.base, R.TIM_PORT_PTP.base, R.SCH_PORT_CFG.base]) ∧
    (f.id = F.EXM_EVT_CTRL_LOG2_SIZE.id → r.base = R.EXM_EVT_CTRL.base) ∧ (f.id = F.BUF_PROFILE_ADM_ALPHA_EXP.id → r.base = R.BUF_PROFILE_ADM.base) ∧
    (f.id = F.DRC_CFG_TRAIN_PERIOD_S.id → r.base = R.DRC_CFG.base) := by decide +kernel

theorem fieldByField_iff (r : Reg) : fieldByField r = true ↔ r.base ∉ ownWrites ∧ ¬(0x200000 ≤ r.base ∧ r.base < 0x300000) := by
  rw [fieldByField, Bool.and_eq_true, Bool.not_eq_true', Bool.not_eq_true', List.contains_eq_mem, decide_eq_false_iff_not, Bool.and_eq_false_iff,
    decide_eq_false_iff_not, decide_eq_false_iff_not, Decidable.not_and_iff_not_or_not]

section
variable {r : Reg} (hr : r ∈ allRegs) {f : Field} (hf : f ∈ r.fields) (x : Nat)
include hr hf

theorem threeIgnored_eq_false (h : r.base ∉ [R.TIM_CAP_CTRL.base, R.TIM_PORT_PTP.base, R.SCH_PORT_CFG.base]) : threeIgnored f x = false := by
  obtain ⟨h3, -⟩ := valueIgnored_home r hr f hf
  rw [threeIgnored, Bool.eq_false_iff.mpr (mt h3 h), Bool.and_false]

theorem eventSize_eq_false (h : r.base ≠ R.EXM_EVT_CTRL.base) : (f.id == F.EXM_EVT_CTRL_LOG2_SIZE.id) = false := by
  obtain ⟨-, hs, -⟩ := valueIgnored_home r hr f hf
  exact beq_eq_false_iff_ne.mpr (mt hs h)

theorem alphaExp_eq_false (h : r.base ≠ R.BUF_PROFILE_ADM.base) : (f.id == F.BUF_PROFILE_ADM_ALPHA_EXP.id) = false := by
  obtain ⟨-, -, ha, -⟩ := valueIgnored_home r hr f hf
  exact beq_eq_false_iff_ne.mpr (mt ha h)

theorem trainPeriod_eq_false (h : r.base ≠ R.DRC_CFG.base) : (f.id == F.DRC_CFG_TRAIN_PERIOD_S.id) = false := by
  obtain ⟨-, -, -, hd⟩ := valueIgnored_home r hr f hf
  exact beq_eq_false_iff_ne.mpr (mt hd h)

/-- In every other register no field ignores a value. -/
theorem valueIgnored_eq_false (h3 : r.base ∉ [R.TIM_CAP_CTRL.base, R.TIM_PORT_PTP.base, R.SCH_PORT_CFG.base]) (hs : r.base ≠ R.EXM_EVT_CTRL.base)
    (ha : r.base ≠ R.BUF_PROFILE_ADM.base) (hd : r.base ≠ R.DRC_CFG.base) : valueIgnored f x = false := by
  simp [valueIgnored, threeIgnored_eq_false hr hf x h3, eventSize_eq_false hr hf hs, alphaExp_eq_false hr hf ha, trainPeriod_eq_false hr hf hd]

theorem valueIgnored_three (h : r.base = R.TIM_CAP_CTRL.base ∨ r.base = R.TIM_PORT_PTP.base) : threeIgnored f x = valueIgnored f x := by
  have hs : r.base ≠ R.EXM_EVT_CTRL.base := by rcases h with h | h <;> rw [h] <;> decide
  have ha : r.base ≠ R.BUF_PROFILE_ADM.base := by rcases h with h | h <;> rw [h] <;> decide
  have hd : r.base ≠ R.DRC_CFG.base := by rcases h with h | h <;> rw [h] <;> decide
  simp [valueIgnored, eventSize_eq_false hr hf hs, alphaExp_eq_false hr hf ha, trainPeriod_eq_false hr hf hd]

theorem valueIgnored_eventSize (h : r.base = R.EXM_EVT_CTRL.base) :
    (f.id == F.EXM_EVT_CTRL_LOG2_SIZE.id && (decide (x < 10) || decide (20 < x))) = valueIgnored f x := by
  simp [valueIgnored, threeIgnored_eq_false hr hf x (by rw [h]; decide), alphaExp_eq_false hr hf (by rw [h]; decide), trainPeriod_eq_false hr hf (by rw [h]; decide)]

theorem valueIgnored_alphaExp (h : r.base = R.BUF_PROFILE_ADM.base) : (f.id == F.BUF_PROFILE_ADM_ALPHA_EXP.id && decide (12 ≤ x)) = valueIgnored f x := by
  simp [valueIgnored, threeIgnored_eq_false hr hf x (by rw [h]; decide), eventSize_eq_false hr hf (by rw [h]; decide), trainPeriod_eq_false hr hf (by rw [h]; decide)]

theorem valueIgnored_trainPeriod (h : r.base = R.DRC_CFG.base) :
    (f.id == F.DRC_CFG_TRAIN_PERIOD_S.id && decide (1 ≤ x) && decide (x < 60)) = valueIgnored f x := by
  simp [valueIgnored, threeIgnored_eq_false hr hf x (by rw [h]; decide), eventSize_eq_false hr hf (by rw [h]; decide), alphaExp_eq_false hr hf (by rw [h]; decide)]

end

theorem State.get_unmasked (s : State) (f : Field) (i : Nat) : s.unmasked.get f i = s.get f i :=
  foldl_keeps (fun s : State => s.get f i) (fun s src => by rw [State.get_message]; rfl) _ s

section
variable {r : Reg} (hb : r.base ∉ ownWrites)
include hb

/-- The branches of a central write that such a register can take. -/
theorem State.centralWrite_fieldByField (s : State) (i v master : Nat) :
    s.centralWrite r i v master =
      if [R.TUE_RING_BASE.base, R.TUE_CPL_BASE.base, R.EXM_EVT_BASE.base, R.DRC_TELEM_EXPORT_ADDR.base].contains r.base then s.plainWrite r i (page v)
      else if r.base = R.HST_INT_MASK.base then (s.plainWrite r i (sourceBits i v)).unmasked
      else if r.base = R.HST_INT_PIN.base then s.plainWrite r i (sourceBits i v)
      else if r.base = R.TIM_CAP_CTRL.base ∨ r.base = R.TIM_PORT_PTP.base then s.pickyWrite r i v threeIgnored
      else if r.base = R.EXM_EVT_CTRL.base then
        s.pickyWrite r i v fun f x => f.id == F.EXM_EVT_CTRL_LOG2_SIZE.id && (decide (x < 10) || decide (20 < x))
      else if r.base = R.DRC_CFG.base then
        s.pickyWrite r i (clampBits (clampBits v F.DRC_CFG_SR_IDLE_US 10 1000000) F.DRC_CFG_PD_IDLE_NS 100 4000) fun f x =>
          f.id == F.DRC_CFG_TRAIN_PERIOD_S.id && decide (1 ≤ x) && decide (x < 60)
      else s.plainWrite r i v := by
  simp [ownWrites] at hb
  simp only [State.centralWrite, hb, or_self, if_false]

theorem State.rowWrite_fieldByField (s : State) (i v : Nat) : s.rowWrite r i v = none := by
  simp [ownWrites] at hb
  simp only [State.rowWrite, hb, if_false]

theorem State.localWrite_fieldByField (s : State) (i v master : Nat) :
    s.localWrite r i v master =
      if r.base = R.BUF_PROFILE_ADM.base then s.pickyWrite r i v fun f x => f.id == F.BUF_PROFILE_ADM_ALPHA_EXP.id && decide (12 ≤ x)
      else if r.base = R.BUF_PROFILE_AGE.base then s.plainWrite r i (clampBits v F.BUF_PROFILE_AGE_AGE_LIMIT 0 12582912)
      else if r.base = R.BUF_SEXTON_CTRL.base then s.plainWrite r i (clampBits v F.BUF_SEXTON_CTRL_INTERVAL_MS 1 10000)
      else if r.base = R.TCM_CTRL.base then s.plainWrite r i (clampBits v F.TCM_CTRL_SCRUB_MS 10 10000)
      else s.plainWrite r i v := by
  simp [ownWrites] at hb
  simp [State.localWrite, State.gateReadOnly, hb]

theorem State.accessWrite_fieldByField (s : State) {off i : Nat} (v master : Nat) (hr : registerAt off = some (r, i)) :
    s.accessWrite off v master = s.instanceWrite r i v master := by
  simp [ownWrites] at hb
  simp only [State.accessWrite, hr, hb, if_false]

end

section
variable {r : Reg} (hr : r ∈ allRegs) (hb : r.base ∉ ownWrites)
include hr hb

/-- A central register that a write changes field by field takes the value that valueTaken makes of the one written; its fields ignore what valueIgnored says. -/
theorem State.get_centralWrite (s : State) (hc : r.base < 0x400000) (i v master : Nat) (f : Field) (j : Nat) :
    (s.centralWrite r i v master).get f j = (s.pickyWrite r i (valueTaken r i v) valueIgnored).get f j := by
  have hadm : r.base ≠ R.BUF_PROFILE_ADM.base := fun e => absurd (e ▸ hc) (by decide)
  have hage : r.base ≠ R.BUF_PROFILE_AGE.base := fun e => absurd (e ▸ hc) (by decide)
  have hsex : r.base ≠ R.BUF_SEXTON_CTRL.base := fun e => absurd (e ▸ hc) (by decide)
  have htcm : r.base ≠ R.TCM_CTRL.base := fun e => absurd (e ▸ hc) (by decide)
  have hsch : r.base ≠ R.SCH_PORT_CFG.base := fun e => absurd (e ▸ hc) (by decide)
  have plain (w : Nat) (hn : r.base ∉ [R.TIM_CAP_CTRL.base, R.TIM_PORT_PTP.base, R.EXM_EVT_CTRL.base, R.DRC_CFG.base]) :
      s.plainWrite r i w = s.pickyWrite r i w valueIgnored := by
    simp only [List.mem_cons, List.not_mem_nil, or_false, not_or] at hn
    obtain ⟨hcap, hptp, hevt, hdrc⟩ := hn
    exact s.plainWrite_eq_pickyWrite r i w fun f hf x => valueIgnored_eq_false hr hf x (by simp [hcap, hptp, hsch]) hevt hadm hdrc
  rw [s.centralWrite_fieldByField hb]
  split
  · next h =>
    have hn : r.base ∉ [R.TIM_CAP_CTRL.base, R.TIM_PORT_PTP.base, R.EXM_EVT_CTRL.base, R.DRC_CFG.base] := by
      simp only [List.contains_eq_mem, decide_eq_true_eq, List.mem_cons, List.not_mem_nil, or_false] at h
      rcases h with h | h | h | h <;> rw [h] <;> decide
    rw [plain _ hn, valueTaken, if_pos h]
    rfl
  · next hpage =>
    split
    · next h => rw [State.get_unmasked, plain _ (by rw [h]; decide), valueTaken, if_neg hpage, if_pos (.inl h)]
    · next hmask =>
      split
      · next h => rw [plain _ (by rw [h]; decide), valueTaken, if_neg hpage, if_pos (.inr h)]
      · next hpin =>
        have e : valueTaken r i v = if r.base = R.DRC_CFG.base then clampBits (clampBits v F.DRC_CFG_SR_IDLE_US 10 1000000) F.DRC_CFG_PD_IDLE_NS 100 4000 else v := by
          simp only [valueTaken, hpage, hmask, hpin, hage, hsex, htcm, or_self, Bool.false_eq_true, if_false]
        split
        · next h =>
          rw [e, if_neg (by rcases h with h | h <;> rw [h] <;> decide), s.pickyWrite_congr r i v fun f hf x => valueIgnored_three hr hf x h]
        · next hthree =>
          split
          · next h => rw [e, if_neg (by rw [h]; decide), s.pickyWrite_congr r i v fun f hf x => valueIgnored_eventSize hr hf x h]
          · next hevt =>
            split
            · next h => rw [e, if_pos h, s.pickyWrite_congr r i _ fun f hf x => valueIgnored_trainPeriod hr hf x h]
            · next hdrc => rw [e, if_neg hdrc, plain v (by simp [not_or.mp hthree, hevt, hdrc])]

/-- The same of a register of a quadrant or a tile. -/
theorem State.get_localWrite (s : State) (hc : ¬r.base < 0x400000) (i v master : Nat) (f : Field) (j : Nat) :
    (s.localWrite r i v master).get f j = (s.pickyWrite r i (valueTaken r i v) valueIgnored).get f j := by
  have far {b : Nat} (hlt : b < 0x400000) : r.base ≠ b := fun e => hc (e ▸ hlt)
  have hsch : r.base ≠ R.SCH_PORT_CFG.base := fun e => hb (by rw [e]; decide)
  have h3 : r.base ∉ [R.TIM_CAP_CTRL.base, R.TIM_PORT_PTP.base, R.SCH_PORT_CFG.base] := by
    simp only [List.mem_cons, List.not_mem_nil, or_false, not_or]
    exact ⟨far (by decide), far (by decide), hsch⟩
  have plain (w : Nat) (ha : r.base ≠ R.BUF_PROFILE_ADM.base) : s.plainWrite r i w = s.pickyWrite r i w valueIgnored :=
    s.plainWrite_eq_pickyWrite r i w fun f hf x => valueIgnored_eq_false hr hf x h3 (far (by decide)) ha (far (by decide))
  have e : valueTaken r i v =
      if r.base = R.BUF_PROFILE_AGE.base then clampBits v F.BUF_PROFILE_AGE_AGE_LIMIT 0 12582912
      else if r.base = R.BUF_SEXTON_CTRL.base then clampBits v F.BUF_SEXTON_CTRL_INTERVAL_MS 1 10000
      else if r.base = R.TCM_CTRL.base then clampBits v F.TCM_CTRL_SCRUB_MS 10 10000
      else v := by
    have hpage : [R.TUE_RING_BASE.base, R.TUE_CPL_BASE.base, R.EXM_EVT_BASE.base, R.DRC_TELEM_EXPORT_ADDR.base].contains r.base = false := by
      simp only [List.contains_eq_mem, decide_eq_false_iff_not, List.mem_cons, List.not_mem_nil, or_false, not_or]
      exact ⟨far (by decide), far (by decide), far (by decide), far (by decide)⟩
    have hmask : r.base ≠ R.HST_INT_MASK.base := far (by decide)
    have hpin : r.base ≠ R.HST_INT_PIN.base := far (by decide)
    have hdrc : r.base ≠ R.DRC_CFG.base := far (by decide)
    simp only [valueTaken, hpage, hmask, hpin, hdrc, or_self, Bool.false_eq_true, if_false]
  rw [s.localWrite_fieldByField hb]
  split
  · next h =>
    rw [e, if_neg (by rw [h]; decide), if_neg (by rw [h]; decide), if_neg (by rw [h]; decide), s.pickyWrite_congr r i v fun f hf x => valueIgnored_alphaExp hr hf x h]
  · next hadm =>
    split
    · next h => rw [e, if_pos h, plain _ hadm]
    · next hage =>
      split
      · next h => rw [e, if_neg hage, if_pos h, plain _ hadm]
      · next hsex =>
        split
        · next h => rw [e, if_neg hage, if_neg hsex, if_pos h, plain _ hadm]
        · next htcm => rw [e, if_neg hage, if_neg hsex, if_neg htcm, plain _ hadm]

end

/-- A write of a register that changes field by field, by any master: each field takes its bits of the value as its access code says, or ignores them. -/
theorem State.get_accessWrite (s : State) {r : Reg} {off i : Nat} (v master : Nat) (hr : registerAt off = some (r, i)) (hu : s.instanceUsed r i = true)
    (hb : fieldByField r = true) {f : Field} (hf : f ∈ r.fields) (hw : s.get f i < 2 ^ f.width) :
    (s.accessWrite off v master).get f i =
      let x := bits (valueTaken r i (v % 2 ^ 64)) f.lsb f.width
      if valueIgnored f x then s.get f i else fieldAfter f (s.get f i) x := by
  obtain ⟨hown, hslot⟩ := (fieldByField_iff r).mp hb
  have hkey : r.base ≠ R.ELY_SLOT_STG_KEY.base := fun e => hslot (by rw [e]; decide)
  have hrow := s.rowWrite_fieldByField hown i (v % 2 ^ 64)
  have hs : slotOfReg r i = none := by simp only [slotOfReg, hkey, hslot, if_false]
  have hm := registerAt_mem hr
  rw [s.accessWrite_fieldByField hown v master hr]
  simp only [State.instanceWrite, hu, hrow, hs, Bool.true_eq_false, if_false]
  rw [← s.get_pickyWrite hm i _ valueIgnored hf hw]
  split
  · next hc => exact s.get_centralWrite hm hown hc i _ master f i
  · next hc => exact s.get_localWrite hm hown hc i _ master f i

/-! ## Writes to BAR0 by the host -/

theorem exec_hostRegWrite (s : State) {off bytes : Nat} (v : Nat) (hb : off + bytes ≤ 2 ^ 24) :
    exec (.registerWrite (.bar0 off) bytes v) s = .next (s.hostRegWrite off bytes v) := if_neg (Nat.not_lt.mpr hb)

theorem State.hostRegWrite_full {s : State} {off : Nat} (v : Nat) (ho : off % 8 = 0) (hp : s.pins.perstLow = false) (h : s.reach off = .served) :
    s.hostRegWrite off 8 v = s.accessWrite off (v % 2 ^ 64) 0x00 := by
  simp [State.hostRegWrite, State.hostLink_of_served hp h, ho, h]

theorem State.hostRegWrite_away {s : State} {off : Nat} (v : Nat) (ho : off % 8 = 0) (hp : s.pins.perstLow = false) (h : s.reach off = .away) :
    s.hostRegWrite off 8 v = s := by
  simp [State.hostRegWrite, State.hostLink_of_away hp h, ho, h]

theorem State.hostRegWrite_narrow {s : State} {off bytes : Nat} (v : Nat) (hn : bytes ≠ 8 ∨ off % 8 ≠ 0) (hp : s.pins.perstLow = false)
    (h : s.reach off ≠ .silent) : s.hostRegWrite off bytes v = s.report 0x004 kAccess 0x00 2 off := by
  simp only [State.hostRegWrite, State.hostLink_of_answers hp h, Bool.true_eq_false, if_false, hn, if_true]

/-- An offset in the registers of a unit in reset is away while the module runs (Table 21.3). -/
theorem State.reach_inReset {s : State} {off : Nat} {u : ResetUnit} {b : BootFindings} (hup : s.up = true)
    (hrail : bitOf (s.get F.TOP_BOOT_RAIL_MISSING 0) 0 = false) (hu : (u, b) ∈ s.boot.inReset) (ho : u.region off = true) : s.reach off = .away := by
  simp only [State.up, Bool.and_eq_true, Bool.not_eq_true', bne_iff_ne, ne_eq] at hup
  obtain ⟨⟨⟨⟨hpow, hpor⟩, hheld⟩, hready⟩, hstate⟩ := hup
  have hat : s.resetAt off = true := List.any_eq_true.mpr ⟨(u, b), hu, ho⟩
  simp [State.reach, hpow, hpor, hheld, hready, hstate, hrail, s.unitReach_away off hat]

/-- FLT_CAP_SEL is written field by field, and takes its value as it is written. -/
theorem State.accessWrite_capSel (s : State) (v master : Nat) :
    s.accessWrite R.FLT_CAP_SEL.base (v % 2 ^ 64) master = s.set F.FLT_CAP_SEL_SOURCE 0 (bits v 0 10) := by
  have hr : registerAt R.FLT_CAP_SEL.base = some (R.FLT_CAP_SEL, 0) := by decide +kernel
  have hown : R.FLT_CAP_SEL.base ∉ ownWrites := by decide
  have hport : regPort R.FLT_CAP_SEL 0 = none := by decide +kernel
  have hclassify : classifyPort R.FLT_CAP_SEL 0 = none := by decide +kernel
  have hu : s.instanceUsed R.FLT_CAP_SEL 0 = true := by simp [State.instanceUsed, hport, hclassify]
  have hslot : slotOfReg R.FLT_CAP_SEL 0 = none := by decide +kernel
  have hpage : [R.TUE_RING_BASE.base, R.TUE_CPL_BASE.base, R.EXM_EVT_BASE.base, R.DRC_TELEM_EXPORT_ADDR.base].contains R.FLT_CAP_SEL.base = false := by decide
  have hv : bits (v % 2 ^ 64 % 2 ^ 64) 0 10 = bits v 0 10 := by simp only [bits]; omega
  calc s.accessWrite R.FLT_CAP_SEL.base (v % 2 ^ 64) master
      = s.centralWrite R.FLT_CAP_SEL 0 (v % 2 ^ 64 % 2 ^ 64) master := by
        rw [s.accessWrite_fieldByField hown _ master hr]
        simp only [State.instanceWrite, hu, s.rowWrite_fieldByField hown, hslot, Bool.true_eq_false, if_false]
        exact if_pos (by decide)
    _ = s.plainWrite R.FLT_CAP_SEL 0 (v % 2 ^ 64 % 2 ^ 64) := by
        rw [s.centralWrite_fieldByField hown, hpage, if_neg (by decide), if_neg (by decide), if_neg (by decide), if_neg (by decide), if_neg (by decide),
          if_neg (by decide)]
    _ = s.set F.FLT_CAP_SEL_SOURCE 0 (bits v 0 10) := congrArg (s.set F.FLT_CAP_SEL_SOURCE 0) hv

/-! ## Reports -/

theorem EventShell.sundew {s t : State} (h : EventShell s t) : t.sundew = s.sundew := by
  obtain ⟨_, _, _, rfl⟩ := h
  rfl

theorem State.logDue_caps (s : State) (n src : Nat) (c : Capture) : (s.logDue n src c).sundew.caps = s.sundew.caps := by
  unfold State.logDue
  split
  · rfl
  · split <;> rfl

theorem State.message512_caps (s : State) (m : Nat) : (s.message512 m).sundew.caps = s.sundew.caps := by
  unfold State.message512
  split
  · rw [State.count_sundew, (s.evC_shell ..).sundew]
  · rw [(State.cause_shell ..).sundew]

theorem State.restartWhen_caps (s : State) (b : Bool) : (s.when b State.caddisRestart).sundew.caps = s.sundew.caps := by
  cases b <;> rfl

/-- A capture that opens stands at its source (R489). -/
theorem State.openCapture_captures (s : State) (src kind master access address : Nat) :
    (SMap.find (s.openCapture src kind master access address).sundew.caps src).isSome = true := by
  unfold State.openCapture
  dsimp only
  split
  · rw [State.message512_caps, State.restartWhen_caps, State.logDue_caps, SMap.find_put_same]; rfl
  · rw [State.restartWhen_caps, State.logDue_caps, SMap.find_put_same]; rfl

/-- A report leaves a capture of its source (R489, R491). -/
theorem State.report_captures (s : State) (src kind master access address : Nat) :
    (SMap.find (s.report src kind master access address).sundew.caps src).isSome = true := by
  unfold State.report
  dsimp only
  split
  · split
    · exact congrArg Option.isSome (SMap.find_put_same ..)
    · exact s.openCapture_captures ..
  · exact s.openCapture_captures ..

/-! ## The MSI-X table in BAR2 (R506, log 123) -/

/-- Byte k of a write of v at o. -/
def State.msixStore (o v : Nat) (s : State) (k : Nat) : State :=
  { s with host := { s.host with msixTable := SMap.put s.host.msixTable (o + k) (BitVec.ofNat 8 (v / 256 ^ k) &&& msixKept (o + k)) } }

/-- What a write of BAR2 stores before the sources that it unmasks send their messages. -/
theorem State.bar2Write_answers {s : State} (o bytes v : Nat) (h : s.hostLink 0 = true) :
    s.bar2Write o bytes v = (s.forAll ((List.range bytes).filter fun k => decide (o + k < 0x800)) (State.msixStore o v)).unmasked := by
  unfold State.bar2Write
  rw [h, if_neg (by decide)]
  rfl

theorem State.msixByte_store_same (s : State) (o v k : Nat) :
    (s.msixStore o v k).msixByte (o + k) = BitVec.ofNat 8 (v / 256 ^ k) &&& msixKept (o + k) :=
  SMap.findD_put_same ..

theorem State.msixByte_store_ne (s : State) (o v k : Nat) {a : Nat} (h : a ≠ o + k) : (s.msixStore o v k).msixByte a = s.msixByte a :=
  SMap.findD_put_ne _ _ _ h

/-- A byte that the write meets holds its new value; every other byte stays. -/
theorem State.msixByte_stored (o v : Nat) (l : List Nat) (s : State) (a : Nat) :
    (s.forAll l (State.msixStore o v)).msixByte a =
      if o ≤ a ∧ a - o ∈ l then BitVec.ofNat 8 (v / 256 ^ (a - o)) &&& msixKept a else s.msixByte a := by
  induction l generalizing s with
  | nil => simp [State.forAll]
  | cons k l ih =>
    refine (ih _).trans ?_
    by_cases hl : o ≤ a ∧ a - o ∈ l
    · rw [if_pos hl, if_pos ⟨hl.1, List.mem_cons_of_mem _ hl.2⟩]
    · rw [if_neg hl]
      by_cases hk : a = o + k
      · subst hk
        rw [State.msixByte_store_same, if_pos ⟨Nat.le_add_right .., by simp⟩, Nat.add_sub_cancel_left]
      · have hn : ¬(o ≤ a ∧ a - o ∈ k :: l) := by
          rintro ⟨ho, hm⟩
          rcases List.mem_cons.mp hm with e | hm
          · omega
          · exact hl ⟨ho, hm⟩
        rw [State.msixByte_store_ne _ _ _ _ hk, if_neg hn]

theorem State.message_path (s : State) (src : Nat) : (s.message src).path = s.path := by
  obtain ⟨_, _, _, e⟩ := s.message_shell src
  rw [e]

/-- A message, sent or pending, leaves the table. -/
theorem State.message_msixTable (s : State) (src : Nat) : (s.message src).host.msixTable = s.host.msixTable := by
  unfold State.message
  dsimp only
  split <;> rfl

@[simp] theorem State.unmasked_regs (s : State) : s.unmasked.regs = s.regs :=
  foldl_keeps State.regs (fun s src => by rw [State.message_regs]) _ s

@[simp] theorem State.unmasked_path (s : State) : s.unmasked.path = s.path :=
  foldl_keeps State.path (fun s src => by rw [State.message_path]) _ s

theorem State.msixByte_unmasked (s : State) (a : Nat) : s.unmasked.msixByte a = s.msixByte a :=
  congrArg (fun m => SMap.findD m a (if a % 16 = 12 then 1 else 0))
    (foldl_keeps (fun s : State => s.host.msixTable) (fun s src => by rw [State.message_msixTable]) _ s)

theorem State.bar2Write_regs {s : State} (o bytes v : Nat) (h : s.hostLink 0 = true) : (s.bar2Write o bytes v).regs = s.regs := by
  rw [State.bar2Write_answers o bytes v h, State.unmasked_regs]
  exact foldl_keeps State.regs (f := State.msixStore o v) (fun _ _ => rfl) _ s

theorem State.bar2Write_path {s : State} (o bytes v : Nat) (h : s.hostLink 0 = true) : (s.bar2Write o bytes v).path = s.path := by
  rw [State.bar2Write_answers o bytes v h, State.unmasked_path]
  exact foldl_keeps State.path (f := State.msixStore o v) (fun _ _ => rfl) _ s

/-- Byte a of the table after a write of BAR2. -/
theorem State.msixByte_bar2Write {s : State} (o bytes v a : Nat) (h : s.hostLink 0 = true) :
    (s.bar2Write o bytes v).msixByte a =
      if o ≤ a ∧ a < o + bytes ∧ a < 0x800 then BitVec.ofNat 8 (v / 256 ^ (a - o)) &&& msixKept a else s.msixByte a := by
  have hm : (o ≤ a ∧ a - o ∈ (List.range bytes).filter fun k => decide (o + k < 0x800)) ↔ o ≤ a ∧ a < o + bytes ∧ a < 0x800 := by
    simp only [List.mem_filter, List.mem_range, decide_eq_true_eq]
    omega
  rw [State.bar2Write_answers o bytes v h, State.msixByte_unmasked, State.msixByte_stored]
  simp only [hm]

/-- A read within the table returns its bytes. -/
theorem State.bar2Read_table {s : State} {o bytes : Nat} (h : s.hostLink 0 = true) (hb : o + bytes ≤ 0x800) :
    s.bar2Read o bytes = s.returns (some (leNat ((List.range bytes).map fun k => s.msixByte (o + k)))) := by
  have hk : ∀ k ∈ List.range bytes, s.bar2Byte (o + k) = s.msixByte (o + k) := fun k hk => if_pos (by have := List.mem_range.mp hk; omega)
  rw [State.bar2Read, h, if_neg (by decide), List.map_congr_left hk]

theorem exec_bar2Write (s : State) {o bytes : Nat} (v : Nat) (hb : o + bytes ≤ endpoint.barSize 2) :
    exec (.registerWrite (.bar2 o) bytes v) s = .next (s.bar2Write o bytes v) := if_neg (Nat.not_lt.mpr hb)

theorem exec_bar2Read (s : State) {o bytes : Nat} (hb : o + bytes ≤ endpoint.barSize 2) :
    exec (.rcRead (.bar2 o) bytes) s = .next (s.bar2Read o bytes) := if_neg (Nat.not_lt.mpr hb)

/-! ## The obligation -/

/-- Settles O57: each access through the rows of the model to the lemma on its read or write above. The values that a full write ignores include a TRAIN_PERIOD_S of 1 to 59 (log 74), by valueIgnored_trainPeriod. -/
theorem barAccess : Obligations.BarAccess := by
  unfold Obligations.BarAccess
  refine ⟨?fullRead, ?narrowRead, ?narrowBytes, ?fullWrite, ?captureSelect, ?narrowWrite, ?awayRead, ?awayWrite, ?reset, ?bar2Write, ?bar2Read, ?outside⟩
  case fullRead =>
    intro c off i r s hc hb ho hp h hr hu hn
    refine ⟨_, exec_hostRead s hc hb, ?_⟩
    rw [State.hostRead_full ho hp h hr hu hn]
    exact ⟨by rw [State.readClear_out]; rfl, State.readClear_path .., fun f hf ha => State.get_readClear _ (registerAt_mem hr) i hf ha⟩
  case narrowRead =>
    intro c off bytes s hc hb hn
    obtain ⟨v, e⟩ := s.hostRead_narrow hn
    exact ⟨_, (exec_hostRead s hc hb).trans (congrArg _ e), rfl, rfl, rfl⟩
  case narrowBytes =>
    intro c off bytes i r s hc hb hn hw hp h ha hr hu
    exact ⟨_, (exec_hostRead s hc hb).trans (congrArg _ (State.hostRead_bytes hn hw hp h ha hr hu)), rfl⟩
  case fullWrite =>
    intro off i v r s hb ho hp h hr hu hf
    refine ⟨_, (exec_hostRegWrite s v hb).trans (congrArg _ (State.hostRegWrite_full v ho hp h)), fun f hm hw => ?_⟩
    rw [s.get_accessWrite (v % 2 ^ 64) 0 hr hu hf hm hw, Nat.mod_mod]
  case captureSelect =>
    intro v s hp h
    rw [exec_hostRegWrite s v (by decide), State.hostRegWrite_full v (by decide) hp h, State.accessWrite_capSel]
  case narrowWrite =>
    intro off bytes v s hb hp h hn
    refine ⟨_, (exec_hostRegWrite s v hb).trans (congrArg _ (State.hostRegWrite_narrow v hn hp h)), s.report_captures .., ?_⟩
    obtain ⟨_, _, _, _, _, e⟩ := s.report_shell 0x004 kAccess 0x00 2 off
    rw [e]
    exact ⟨rfl, rfl, rfl⟩
  case awayRead =>
    intro c off s hc hb ho hp h
    exact ⟨_, (exec_hostRead s hc hb).trans (congrArg _ (State.hostRead_away ho hp h)), rfl, rfl, rfl⟩
  case awayWrite =>
    intro off v s hb ho hp h
    rw [exec_hostRegWrite s v hb, State.hostRegWrite_away v ho hp h]
  case reset =>
    intro off u b s hup hrail hu ho
    exact State.reach_inReset hup hrail hu ho
  case bar2Write =>
    intro o bytes v s hb hp h
    have hl := State.hostLink_of_answers hp h
    refine ⟨_, exec_bar2Write s v hb, State.bar2Write_regs o bytes v hl, State.bar2Write_path o bytes v hl, fun k hk ht => ?_, fun a ha => ?_⟩
    · rw [State.msixByte_bar2Write o bytes v _ hl, if_pos ⟨Nat.le_add_right .., Nat.add_lt_add_left hk o, ht⟩, Nat.add_sub_cancel_left]
    · rw [State.msixByte_bar2Write o bytes v a hl, if_neg (by omega)]
  case bar2Read =>
    intro o bytes s hb hp h ht
    exact ⟨_, (exec_bar2Read s hb).trans (congrArg _ (State.bar2Read_table (State.hostLink_of_answers hp h) ht)), rfl, rfl⟩
  case outside =>
    intro off bytes v s h
    exact ⟨if_pos h, if_pos h, if_pos h⟩

end Sys2Proof.Machine
end
